-- ==== Sys2Proof/Word.lean ====
section
/-!
DEFINITION. The plainest types of the model: bytes, machine words, instants and IEEE 754 bit patterns.
-/
namespace Sys2Proof

/-- One byte of a memory or a message. -/
abbrev Byte := BitVec 8

/-- A register of Register Interface Conventions and Map: "All registers are 32 bits wide". -/
abbrev Reg := BitVec 32

/-- A 64-bit register pair (R440), a signature (R69) or an identity (R238). -/
abbrev Pair := BitVec 64

/-- An instant of Meridian time in whole nanoseconds (R8, R92: MTIME values are signed). -/
abbrev MTime := Int

/-- The bit pattern of an IEEE 754 binary64 number (R159: REAL64). -/
abbrev F64 := BitVec 64

/-- The bit pattern of an IEEE 754 binary32 number (R159: REAL32). -/
abbrev F32 := BitVec 32

end Sys2Proof
end

