-- ==== Sys2Proof/Args.lean ====
section
/-!
DEFINITION. The names and records that commands carry as operands and that the state keeps.
-/
namespace Sys2Proof

/-- The eight operating modes (R31, Table 02-1). -/
inductive Mode where
  | blank | stop | run | hold | standby | witness | safe | service
deriving DecidableEq, Repr

/-- Codes of Table 02-1. -/
def Mode.code : Mode → Nat
  | .blank => 0 | .stop => 1 | .run => 2 | .hold => 3 | .standby => 4 | .witness => 5 | .safe => 6 | .service => 7

/-- The mode of a code of Table 02-1. -/
def Mode.ofCode : Nat → Option Mode
  | 0 => some .blank | 1 => some .stop | 2 => some .run | 3 => some .hold
  | 4 => some .standby | 5 => some .witness | 6 => some .safe | 7 => some .service
  | _ => none

/-- The life-cycle states (R44). -/
inductive LifeCycle where
  | factory | opened | sealed | retired
deriving DecidableEq, Repr

/-- Codes of R44. -/
def LifeCycle.code : LifeCycle → Nat
  | .factory => 0 | .opened => 1 | .sealed => 2 | .retired => 3

/-- Where the module stands in its start-up and power-down sequences (R40, R41, R432, R454). -/
inductive Phase where
  | off        -- no supply, or the module not inserted
  | charging   -- step 1 of Table 02-5: supply at 18 V, reset held
  | boot       -- steps 2 to 7: reset released, mode not yet restored
  | up         -- step 8 reached: a mode of Table 02-1 stands
  | held       -- start-up stopped at step 4, FAULT asserted (R41)
  | pfail      -- the power-down sequence of Table 17-7 runs (R432)
deriving DecidableEq, Repr

/-- The agents that access registers (Table 18-6, SYS_BUSERR.AGENT). -/
inductive Agent where
  | triad | cc0 | cc1
deriving DecidableEq, Repr

/-- Codes of SYS_BUSERR.AGENT. -/
def Agent.code : Agent → Nat
  | .triad => 1 | .cc0 => 2 | .cc1 => 3

/-- The status codes of Table 09-7 and the detail each carries. -/
inductive Status where
  | ok | busy | noEntry | type | range | access | privilege | stateRefused | token | writeProtect | checkFailed
  | tooLate | staged | invalid | protected_ | noDatum | timeout | unreachable | notWriter | session | malformed
  | tooLarge | notApplied | ambiguous
deriving DecidableEq, Repr

/-- Codes of Table 09-7. -/
def Status.code : Status → Nat
  | .ok => 0x00 | .busy => 0x01 | .noEntry => 0x02 | .type => 0x03 | .range => 0x04 | .access => 0x05
  | .privilege => 0x06 | .stateRefused => 0x07 | .token => 0x08 | .writeProtect => 0x09 | .checkFailed => 0x0A
  | .tooLate => 0x0B | .staged => 0x0C | .invalid => 0x0D | .protected_ => 0x0E | .noDatum => 0x0F | .timeout => 0x10
  | .unreachable => 0x11 | .notWriter => 0x12 | .session => 0x13 | .malformed => 0x14 | .tooLarge => 0x15
  | .notApplied => 0x16 | .ambiguous => 0x17

/-- One answer: status and DETAIL (R247), with the BUSY hint (R250). -/
structure Ans where
  status : Status
  detail : Nat := 0
  retry : Nat := 0
deriving DecidableEq, Repr

/-- Who asks: the session's slot and level (R236), the request payload with the token bytes zeroed, and the token it
carries, if any (R240). -/
structure Who where
  session : Fin 32
  level : Fin 3
  payload : List Byte := []
  token : Option (List Byte) := none
deriving DecidableEq, Repr

/-- An item a core folds into its signature (Table 03-3), in retirement order. A store here is to the core's private
banks; shared stores are commands of their own. -/
inductive SigItem where
  | x (reg : Fin 32) (value : Nat)
  | f (reg : Fin 32) (value : Nat)
  | csr (num : Fin 4096) (value : Nat)
  | store (addr : Nat) (width : Fin 4) (data : Nat)
deriving DecidableEq, Repr

/-- What a core did since its last command: instructions retired, and the items they fold. -/
structure CoreRun where
  retired : Nat := 0
  items : List SigItem := []
deriving DecidableEq, Repr

/-- The Ethernet ports (R119: port index 0 NA, 1 NB, 2 IA, 3 IB). -/
abbrev Port := Fin 4

/-- The common fields of a received PTP message (R104, R109): port, source port identity, sequence, domain, correction
in ns, whether its length, version and options are those of Table 04-3. -/
structure PtpHead where
  port : Port
  source : Nat
  clock : Nat
  seq : Nat
  domain : Nat
  correction : Int
  lengthOk : Bool := true
  versionOk : Bool := true
  optionOk : Bool := true
deriving DecidableEq, Repr

/-- An Announce (R108): the data the best-master algorithm compares, and the time properties. -/
structure Announce where
  gm : Nat
  priority1 : Nat
  clockClass : Nat
  accuracy : Nat
  variance : Nat
  priority2 : Nat
  stepsRemoved : Nat
  ptpTimescale : Bool
  utcValid : Bool
  utcOffset : Int
  leap : Bool
deriving DecidableEq, Repr

/-- A Waypoint record as written (Table 04-6). -/
structure WptRec where
  instant : MTime := 0
  period : Nat := 0
  action : Nat := 0
  enable : Bool := false
  skipUnsync : Bool := false
  suppressed : Bool := false
  unsync : Bool := false
  late : Bool := false
  count : Nat := 0
  target : Nat := 0
  arg : Nat := 0
  fired : Nat := 0
  missed : Nat := 0
deriving DecidableEq, Repr

/-- An output channel: an output stage on the module or on a head (Table 00-6), a CAN send object, or the enable of a safety
output pair (R335). -/
inductive Chan where
  | dio (n : Nat)
  | ao (n : Nat)
  | head (h c : Nat)
  | can (ctrl obj : Nat)
  | saf (pair : Nat)
deriving DecidableEq, Repr

/-- A value for an output channel: a level (0 or 1) for a digital stage, the bits of a REAL32 for an analogue one, the
raw value for a head channel; and the quality it carries (R13). -/
structure OutVal where
  chan : Chan
  value : Nat
  quality : Nat := 5
deriving DecidableEq, Repr

/-- The timer kinds of R139. -/
inductive TimerKind where
  | onDelay | offDelay | pulse
deriving DecidableEq, Repr

/-- An evaluation of a declared instance in a task cycle (R139, R141, R142). -/
inductive Eval where
  | timer (inst : Nat) (kind : TimerKind) (input : Bool) (pt : Nat)
  | edge (inst : Nat) (falling : Bool) (clk : Bool)
  | counter (inst : Nat) (down : Bool) (clk : Bool)
deriving DecidableEq, Repr

/-- Class of an instance (section 0x0003 of Table 05-2). -/
inductive InstClass where
  | other | timer | counter | edge
deriving DecidableEq, Repr

/-- An instance of the program container (section 0x0003), with the task that declares it and the width of its counter. -/
structure InstDecl where
  task : Nat
  path : List Byte := []
  type : Nat := 0
  cls : InstClass := .other
  retentive : Bool := false
  offset : Nat := 0
  size : Nat := 0
  lo : Int := 0
  hi : Int := 0
deriving DecidableEq, Repr

/-- A task record (Table 05-1), less ADMITTED. -/
structure TaskRec where
  enable : Bool := false
  period : Nat := 0
  phase : Nat := 0
  priority : Nat := 0
  latency : Nat := 0
  ringOwner : Bool := false
  inGroup : Nat := 0
  outGroup : Nat := 0
  rel1 : Nat := 0
  rel2 : Nat := 0
  rel3 : Nat := 0
  warnPct : Nat := 80
  skipLimit : Nat := 3
  ovrReaction : Nat := 1
deriving DecidableEq, Repr

/-- A tunable single value of the container (R147): its Legend element, type code, range in raw order, privilege, owner. -/
structure SingleDecl where
  ea : Nat
  type : Nat
  lo : Int
  hi : Int
  priv : Nat
  task : Nat
  init : Nat := 0
  /-- It stands in the program's retentive map (R464). -/
  retentive : Bool := false
deriving DecidableEq, Repr

/-- A constant of the container (R147): its place in the batch, type, range, and the tasks that read it. -/
structure ConstDecl where
  idx : Nat
  type : Nat
  lo : Int
  hi : Int
  tasks : List Nat
  init : Nat := 0
deriving DecidableEq, Repr

/-- Admission data of a task (section 0x0006). -/
structure AdmData where
  w : Nat
  entries : Nat
  ckpts : Nat
deriving DecidableEq, Repr

/-- What the sections of a program container say (Table 05-2). The section layouts are not in the spec beyond the
table, so a container reaches the model decoded; its header, section CRCs and signature are bytes in the staging buffer. -/
structure Program where
  ident : Nat
  tasks : List TaskRec
  /-- Section 0x0002: addresses in the private program regions, and bytes. -/
  image : List (Nat × List Byte) := []
  insts : List InstDecl := []
  /-- Section 0x0004: local points per task. -/
  inputs : List (Nat × List Nat) := []
  /-- On-module input channels each task's input set lists (R114). -/
  inChans : List (Nat × List Nat) := []
  /-- Section 0x0005: output channels per task, and the dependency list of each point. -/
  outputs : List (Nat × List Chan) := []
  deps : List (Nat × List Nat) := []
  adm : List AdmData := []
  singles : List SingleDecl := []
  consts : List ConstDecl := []
  /-- Section 0x0008: ranges of the MRAM retentive area. -/
  retentive : List (Nat × Nat) := []
  /-- Section 0x0009: PMP address and configuration of entries 10 to 15. -/
  pmp : List (Nat × Nat) := []
deriving DecidableEq, Repr

/-- A safety function record (Table 12-4). -/
structure FnRec where
  type : Nat := 0
  demand : Nat := 0
  outputs : Nat := 0
  restart : Nat := 0
  resetCh : Nat := 0xFF
  axis : Nat := 0
  tStop : Nat := 0
  tDelay : Nat := 0
  decel : Nat := 0
  vTol : Nat := 0
  vStill : Nat := 0
  tMax : Nat := 0
  demPt : Nat := 0xFFFFFFFF
  statePt : Nat := 0xFFFFFFFF
deriving DecidableEq, Repr

/-- An axis record (Legend 0x80500 + a); RATIO, TOL_PCT and SCALE are REAL32 bits. -/
structure AxisRec where
  source : Nat := 0
  ttl : Bool := false
  w : Nat := 1
  ratio : Nat := 0
  tolPct : Nat := 0
  tolAbs : Nat := 0
  point : Nat := 0xFFFFFFFF
  scale : Nat := 0
deriving DecidableEq, Repr

/-- An output pair record (Legend 0x80400 + p). -/
structure PairOutRec where
  testInterval : Nat := 1000
  edmInput : Nat := 0xFF
  edmT : Nat := 300
  safeBehav : Nat := 0
  permitPt : Nat := 0xFFFFFFFF
  edmMode : Nat := 0
deriving DecidableEq, Repr

/-- An input pair record (Legend 0x80180 + q). -/
structure PairInRec where
  mode : Nat := 0
  disc : Nat := 100
  point : Nat := 0xFFFFFFFF
deriving DecidableEq, Repr

/-- The safety set (R338): channel modes and points, input pairs, functions, output pairs, axes, station wiring. Its
container layout is not in the spec, so it reaches the model decoded. -/
structure SafetySet where
  chMode : List Nat
  chPoint : List Nat := []
  pairs : List PairInRec := []
  fns : List FnRec := []
  outs : List PairOutRec := []
  axes : List AxisRec := []
  station : Bool := false
deriving DecidableEq, Repr

/-- A Survey image record (Table 09-12). -/
structure SurveyRec where
  value : Nat := 0
  quality : Nat := 0
  age : Nat := 0
  flags : Nat := 0
  /-- SEQ bits 14–0. -/
  seq : Nat := 0
  old : Bool := false
deriving DecidableEq, Repr

/-- An entry of a write-set: one aligned doubleword with its byte mask (R73). -/
structure WEntry where
  addr : Nat
  mask : Nat
  data : Nat
deriving DecidableEq, Repr

/-- The fields of claim traffic (Table 08-2). -/
structure ClaimMsg where
  kind : Nat
  station : Nat
  holder : Nat
  claim : Nat
  f : MTime := 0
  seq : Nat := 0
  tag : Nat := 0
  info : Nat := 0
deriving DecidableEq, Repr

end Sys2Proof

namespace Sys2Proof.Machine

/-- State of a declared instance (R139, R141, R142). -/
structure InstState where
  start : MTime := 0
  running : Bool := false
  et : Nat := 0
  q : Bool := false
  prev : Bool := false
  prevValid : Bool := false
  value : Int := 0
deriving DecidableEq, Repr

/-- The state of one loop slot (Tables 06-3 and 06-4), and what its next evaluation must do first. -/
structure LoopState where
  e1 : F64 := 0
  e2 : F64 := 0
  e3 : F64 := 0
  v1 : F64 := 0
  v2 : F64 := 0
  v3 : F64 := 0
  i : F64 := 0
  uPrev : F64 := 0
  uPre : F64 := 0
  ffLast : F64 := 0
  gainNow : F64 := 0
  kiNow : F64 := 0
  modeAct : Nat := 0
  heldSet : Nat := 0
  flags : Nat := 0
  missCnt : Nat := 0
  activeSet : Nat := 0
  evals : Nat := 0
  lastNs : Nat := 0
  admitted : Nat := 0
  sdYm : F64 := 0
  sdRes : F64 := 0
  sdCnt : Nat := 0
  sdState : Nat := 0
  schedHold : Bool := false
  latched : Bool := false
  setSwitches : Nat := 0
  sdLine : List F32 := []
  sdFaults : Nat := 0
  /-- TRANSFER at the next evaluation (R163). -/
  transfer : Bool := true
  /-- The next evaluation takes the candidate set at once (R188) and re-initialises the model (R196). -/
  first : Bool := true
  reinit : Bool := true
  /-- DS_HI and DS_LO as its output stage last reported (R164). -/
  dsHi : Bool := false
  dsLo : Bool := false
  /-- Quality and flags of the output staged for release (R167). -/
  outQ : Nat := 0
deriving DecidableEq, Repr

/-- A Contour table in force (Table 07-1), as the little-endian numbers of its elements .0 to .6. -/
structure CTable where
  hdr : Nat := 0
  xbp : Nat := 0
  ybp : Nat := 0
  l0 : Nat := 0
  l1 : Nat := 0
  l2 : Nat := 0
  setmap : Nat := 0
deriving DecidableEq, Repr

end Sys2Proof.Machine

namespace Sys2Proof

/-- What the pages of the regions of Table 08-7 hold: memory by address (program data and MRAM), Survey records, elements and
values by element address, Waypoint slots, instances, loop records and Contour tables. -/
structure PageSet where
  bytes : List (Nat × List Byte) := []
  records : List (Nat × SurveyRec) := []
  elems : List (Nat × Nat) := []
  slots : List (Nat × WptRec) := []
  insts : List (Nat × Machine.InstState) := []
  loops : List (Nat × Machine.LoopState) := []
  tables : List (Nat × Machine.CTable) := []
deriving DecidableEq, Repr

/-- A copy unit of Table 08-1 as received by the standby. The pages of a resynchronisation travel with the last TASK or LOOP
copy of their owner (a task, or 16 + group), or, owner 0xFFFF, in a pass of their own (R225). -/
inductive CopyUnit where
  | task (t : Nat) (c : MTime) (image : List (Nat × SurveyRec)) (retentive : List WEntry) (outs : List OutVal) (sig : Nat)
  | loop (g : Nat) (s : MTime) (records : List (Nat × SurveyRec)) (loops : List (Nat × F64 × Nat × Nat))
  | pages (owner : Nat) (set : PageSet)
deriving DecidableEq, Repr

/-- Where a request came from (R239). -/
inductive Source_ where
  | udp (addr : Nat) (port : Nat)
  | can (ctrl : Fin 4) (pair : Fin 4)
  | program
  | peer (idx : Fin 64)
deriving DecidableEq, Repr

/-- Metadata of a configured point (Table 09-13). -/
structure PointMeta where
  hash : Nat := 0
  vtype : Nat := 0
  kind : Nat := 0
  writer : Nat := 0
  binding : Nat := 0xFFFFFFFF
  lo : F64 := 0
  hi : F64 := 0
  unit_ : Nat := 0
  pflags : Nat := 0
  tag : List Byte := []
deriving DecidableEq, Repr

/-- What the fuses hold (step 3 of Table 02-5): identity, build, coating, plant MAC, latency trims (2⁻¹⁶ ns), fast RC
trim code. -/
structure Fuses where
  ident : Nat := 0
  build : Nat := 2
  coated : Bool := false
  mac : Nat := 0
  inLat : List Int := []
  egLat : List Int := []
  canRx : List Int := []
  canTx : List Int := []
  rcTrim : Nat := 0
deriving DecidableEq, Repr

/-- A bank's BIST (R424): spares fused, columns that failed beyond them. -/
structure BistFind where
  bank : Fin 49
  fused : Nat := 0
  failing : Nat := 0
deriving DecidableEq, Repr

/-- What start-up steps 1 to 6 find: hold-up capacitance in 10 µF, BIST of the banks that are not clean, the signature
checks of the two slots, which crystals run, and the durations of the steps in µs. -/
structure BootFind where
  holdCap : Nat := 150
  bist : List BistFind := []
  slotA : Bool := true
  slotB : Bool := true
  xa : Bool := true
  xb : Bool := true
  durations : List Nat := []
deriving DecidableEq, Repr

/-- What step 7 finds: the stored configuration's signature check, a recorder slot with UPD odd, the partner's endorsed
claim (its claim number), whether a declared external panel answers, and the durations of steps 7 and 8 in µs. -/
structure RestoreFind where
  cfgOk : Bool := true
  torn : Option Nat := none
  partnerClaim : Option Nat := none
  panel : Bool := true
  durations : List Nat := []
  /-- CRC of the partner's active safety set, where the partner answers (R340). -/
  partnerSetCrc : Option Nat := none
deriving DecidableEq, Repr

/-- A hardware queue as the configuration sets it (R14, R248). -/
structure QueueCfg where
  cls : Nat := 2
  depth : Nat := 0
  credit : Nat := 0
deriving DecidableEq, Repr

/-- What a configuration container says (R54): elements, points with their metadata, queues. Its section types are the
engineering host's, so it reaches the model decoded; its header, section CRCs and signature are bytes in the staging buffer. -/
structure ConfigBody where
  ident : Nat
  index : Nat := 0
  elems : List (Nat × Nat) := []
  points : List (Nat × PointMeta) := []
  queues : List (Nat × QueueCfg) := []
  /-- The command point of each output channel, local point and channel (Table 10-1, R295; log entry 15). -/
  cmdPts : List (Nat × Chan) := []
deriving DecidableEq, Repr

/-- What a firmware image in the staging buffer proves to be (R55): signature, version, the write and the read-back. -/
structure FwFind where
  sigOk : Bool := true
  version : Nat := 0
  writeOk : Bool := true
deriving DecidableEq, Repr

/-- What the staging buffer's contents decode to, for the commands that load from it. -/
structure Decoded where
  program : Option Program := none
  config : Option ConfigBody := none
  safety : Option SafetySet := none
  firmware : Option FwFind := none
  /-- CRC of the partner's active safety set, where the partner answers (R340). -/
  partnerSetCrc : Option Nat := none
deriving DecidableEq, Repr

/-- A HART reply (R308, R309): check byte and length good, response code, field device status, command, the device
variables it carries (code, REAL32 bits, status byte), unique identifier, whether more status is available. -/
structure HartReply where
  good : Bool := true
  command : Nat
  code : Nat := 0
  devStatus : Nat := 0
  vars : List (Nat × Nat × Nat) := []
  unique : Nat := 0
  data : List Byte := []
deriving DecidableEq, Repr

/-- A check frame (R314): sequence, CRC good, PERMIT bits, OFF demands, the pair enables the triad recomputed. -/
structure CheckFrame where
  seq : Nat
  crcOk : Bool := true
  permit : Fin 16
  off : Fin 256
  enables : Fin 16
deriving DecidableEq, Repr

/-- What a speed input counted (R321, R322): edges in its window, and the faults seen. -/
structure SpeedIn where
  edges : Int := 0
  phase : Bool := false
  freq : Bool := false
  wire : Bool := false
deriving DecidableEq, Repr

/-- A received CAN frame (R354, Table 13-8). -/
structure CanFrame where
  id : Nat
  ide : Bool := false
  fdf : Bool := false
  brs : Bool := false
  esi : Bool := false
  rtr : Bool := false
  dlc : Fin 16
  data : List Byte := []
  /-- Raw count captured at its start of frame (R105). -/
  capture : Nat
deriving DecidableEq, Repr

/-- Kinds of CAN error (Table 13-13, LEC). -/
inductive CanErr where
  | stuff | form | ack | bitRecessive | bitDominant | crc
deriving DecidableEq, Repr

/-- Codes of LEC. -/
def CanErr.code : CanErr → Nat
  | .stuff => 1 | .form => 2 | .ack => 3 | .bitRecessive => 4 | .bitDominant => 5 | .crc => 6

/-- Kinds of frame on a plant port (R367). -/
inductive PlantKind where
  | ptp | arpOwn | icmpEcho | udpLegend | supervision | fragment | other
deriving DecidableEq, Repr

/-- A frame on a plant port, after its FCS: kind, source node, redundancy sequence number if it carries one. -/
structure PlantFrame where
  kind : PlantKind
  src : Nat
  seq : Option Nat := none
deriving DecidableEq, Repr

/-- A frame back from the ring (Table 14-5). `inputs` are the values of head channels it carries, with their quality, for
each head whose bit is set in the trailer; `late` the heads that flag LATE. -/
structure RingFrame where
  ver : Nat := 1
  kind : Nat
  ring : Nat
  src : Nat
  len : Nat := 0
  exch : Nat := 0
  fcsOk : Bool := true
  aborted : Bool := false
  bits : List Nat := []
  wrap : Nat := 0xFF
  /-- The frame came full circle. -/
  full : Bool := true
  inputs : List (Nat × Nat × Nat × Nat) := []
  late : List Nat := []
deriving DecidableEq, Repr

/-- What a safety output test finds (R323): whether the node followed, and the pairs whose node moved by more than 5 V. -/
structure TestFind where
  followed : Bool := true
  moved : List (Fin 4) := []
deriving DecidableEq, Repr

/-- Where the ECC logic met an error (R423). -/
inductive EccSite where
  | sram (bank : Fin 49) (word : Nat)
  | dram (word : Nat)
deriving DecidableEq, Repr

/-- A directory heartbeat (R261, Table 09-14): the sender's own record, and the name hashes of its points. -/
structure Beat where
  role : Nat
  station : Nat
  partner : Nat
  mode : Nat
  mq : Nat
  ready : Nat
  addr : Nat
  container : Nat
  hashes : List (Nat × Nat) := []
deriving DecidableEq, Repr

/-- An event as a source outside this model's rows offers it (R385). -/
structure Offering where
  code : Nat
  src : Nat := 0
  rung : Nat := 0
  args : List Nat := []
  rep : Bool := false
  instant : Option MTime := none
deriving DecidableEq, Repr

end Sys2Proof
end

