-- ==== Sys2Proof/Syntax.lean ====
section
/-!
DEFINITION. The commands: one constructor per row of the table of operations, with the operands the row takes from outside
the module. An operand that a row's own rule lets the module find by itself is no operand.
-/
namespace Sys2Proof

/-- The commands of the block. -/
inductive Instr where
  /-- R40. -/
  | supplyReaches18v (ina : Nat) (inb : Nat) (capMv : Nat)
  /-- R40. -/
  | resetRelease (fuses : Fuses) (found : BootFind)
  /-- R42. -/
  | modeRestore (found : RestoreFind)
  /-- R42. -/
  | autostartConditionMet
  /-- R35. -/
  | modeRequestBlank (who : Who)
  /-- R35. -/
  | modeRequestStop (who : Who)
  /-- R35. -/
  | modeRequestRun (who : Who)
  /-- R35. -/
  | modeRequestHold (who : Who)
  /-- R35. -/
  | modeRequestResume (who : Who)
  /-- R35. -/
  | modeRequestService (who : Who)
  /-- R35. -/
  | modeRequestWitness (who : Who)
  /-- R38. -/
  | safeDemand (who : Who)
  /-- R36. -/
  | safeToStopBoundary
  /-- R145. -/
  | breakpointHit (task : Fin 16) (addr : Nat)
  /-- R33. -/
  | holdLimitExpired
  /-- R43. -/
  | warmReset (who : Who) (value : Nat)
  /-- R53. -/
  | powerCycleRequest (who : Who) (value : Nat)
  /-- R53. -/
  | powerCycleTimeout
  /-- R53. -/
  | pcrqGo (agent : Agent)
  /-- R51. -/
  | reinitialiseFunction (who : Who) (code : Nat)
  /-- R44. -/
  | lifecycleToOpen (who : Who)
  /-- R44. -/
  | lifecycleToSealed (who : Who)
  /-- R47. -/
  | lifecycleToRetired (who : Who)
  /-- R54. -/
  | configCommitContainer (who : Who) (body : ConfigBody)
  /-- R54. -/
  | configCommitElements (who : Who)
  /-- R55. -/
  | firmwareInstall (who : Who) (slot : Nat) (found : FwFind)
  /-- R55. -/
  | firmwareSlotSelect (who : Who) (slot : Nat)
  /-- R74. -/
  | checkpointTaskEnd (core : Fin 3) (run : CoreRun) (outs : List OutVal) (evals : List Eval)
  /-- R74. -/
  | checkpointCommit (core : Fin 3) (run : CoreRun) (outs : List OutVal) (evals : List Eval)
  /-- R132. -/
  | checkpointOutputRelease (core : Fin 3) (run : CoreRun) (outs : List OutVal) (evals : List Eval)
  /-- R72. -/
  | checkpointInstructionCount (core : Fin 3) (run : CoreRun) (outs : List OutVal) (evals : List Eval)
  /-- R72. -/
  | checkpointWriteSetFull (core : Fin 3) (run : CoreRun) (outs : List OutVal) (evals : List Eval)
  /-- R67. -/
  | checkpointReadSetFull (core : Fin 3) (run : CoreRun) (outs : List OutVal) (evals : List Eval)
  /-- R72. -/
  | checkpointCsrIllegal (core : Fin 3) (run : CoreRun) (value : Nat) (pc : Nat) (bits : Nat) (user : Bool)
  /-- R74. -/
  | voterCommitEnd
  /-- R74. -/
  | skewLimitExpired
  /-- R80. -/
  | rebuildCopyEnd
  /-- R64. -/
  | sharedRead (core : Fin 3) (run : CoreRun) (addr : Nat) (width : Fin 4) (pc : Nat) (user : Bool)
  /-- R73. -/
  | sharedStore (core : Fin 3) (run : CoreRun) (addr : Nat) (width : Fin 4) (data : Nat) (pc : Nat) (user : Bool)
  /-- R62. -/
  | sharedAmoFault (core : Fin 3) (run : CoreRun) (addr : Nat) (pc : Nat) (user : Bool)
  /-- R68. -/
  | interruptDeliveryPoint (core : Fin 3) (run : CoreRun)
  /-- R68. -/
  | wfi (core : Fin 3) (run : CoreRun)
  /-- R85. -/
  | queueItemCheck (queue : Fin 256) (bytes : List Byte)
  /-- R86. -/
  | ccHeartbeatTimeout (cc : Fin 2)
  /-- R88. -/
  | faultInjection (who : Who) (core : Nat)
  /-- R88. -/
  | triInject (agent : Agent) (value : Fin 4)
  /-- R104. -/
  | ptpSyncReceived (head : PtpHead) (origin : Option MTime) (logInterval : Int)
  /-- R96. -/
  | ptpFollowUpReceived (head : PtpHead) (origin : MTime)
  /-- R106. -/
  | ptpDelayResponseReceived (head : PtpHead) (peer : Bool) (ta : MTime) (tb : MTime)
  /-- R108. -/
  | ptpAnnounceReceived (head : PtpHead) (ann : Announce)
  /-- R109. -/
  | untrustedSourceExpiry (source : Nat)
  /-- R96. -/
  | syncTimeout
  /-- R96. -/
  | announceReceiptTimeout
  /-- R103. -/
  | holdoverLimitExceeded
  /-- R100. -/
  | meridianStep
  /-- R99. -/
  | stepOnBreakCommand (who : Who)
  /-- R97. -/
  | merStepGo (agent : Agent)
  /-- R95. -/
  | merCapture (agent : Agent)
  /-- R95. -/
  | merLowReadLatch (agent : Agent) (reg : Fin 2)
  /-- R107. -/
  | ringSyncSend
  /-- R112. -/
  | operatingSecondWrite
  /-- R115. -/
  | waypointSlotWrite (who : Who) (slot : Fin 1024) (rec : WptRec)
  /-- R449. -/
  | wptLoad (agent : Agent)
  /-- R449. -/
  | wptArm (agent : Agent)
  /-- R117. -/
  | waypointStaging (slot : Fin 1024)
  /-- R116. -/
  | waypointFire
  /-- R127. -/
  | inputImageFreeze (task : Fin 16)
  /-- R135. -/
  | taskCommitDeadlineMissed (task : Fin 16)
  /-- R131. -/
  | outputStageRelease (task : Fin 16)
  /-- R147. -/
  | singleValueWrite (who : Who) (ea : Nat) (value : Nat)
  /-- R147. -/
  | constantsBatchCommit (who : Who)
  /-- R150. -/
  | containerLoad (who : Who) (prog : Program)
  /-- R152. -/
  | ringCollectDeadline (owner : Fin 272)
  /-- R373. -/
  | ringAckCheck (owner : Fin 272)
  /-- R171. -/
  | loopGroupQueued (g : Fin 256)
  /-- R163. -/
  | loopEvaluation (slot : Fin 4096) (laneNs : Nat)
  /-- R171. -/
  | loopGroupStaged (g : Fin 256)
  /-- R169. -/
  | loopOutputRelease (g : Fin 256)
  /-- R174. -/
  | loopSampleMissed (g : Fin 256)
  /-- R168. -/
  | loopModeRequest (who : Who) (slot : Fin 4096) (req : Nat)
  /-- R175. -/
  | loopOnlineChange (who : Who) (slot : Fin 4096) (elem : Nat) (value : Nat)
  /-- R179. -/
  | clearObservedMaxima (who : Who)
  /-- R180. -/
  | cenClrMax (agent : Agent)
  /-- R191. -/
  | contourTableCommit (who : Who) (t : Fin 512)
  /-- R191. -/
  | contourTableApply (t : Fin 512)
  /-- R191. -/
  | contourCommitTimeout (t : Fin 512)
  /-- R198. -/
  | soundingAcknowledgement (who : Who) (slot : Fin 4096)
  /-- R203. -/
  | claimRenewalSend
  /-- R203. -/
  | redPermitRefresh (agent : Agent) (value : Nat)
  /-- R203. -/
  | renewalPermitLapse
  /-- R210. -/
  | stageClaimReceived (m : ClaimMsg)
  /-- R210. -/
  | stageOutputValueReceived (claim : Nat) (latch : MTime) (release : MTime) (outs : List OutVal)
  /-- R211. -/
  | ownRenewalTimeout
  /-- R213. -/
  | witnessRenewReceived (m : ClaimMsg)
  /-- R213. -/
  | partnerRenewReceived (m : ClaimMsg)
  /-- R213. -/
  | claimSuspension
  /-- R213. -/
  | echoReceived (m : ClaimMsg)
  /-- R213. -/
  | ackReceived (m : ClaimMsg)
  /-- R224. -/
  | higherClaimObserved (m : ClaimMsg)
  /-- R214. -/
  | standbySilenceDetected
  /-- R214. -/
  | claimRequestRepeat
  /-- R214. -/
  | witnessRequestReceived (m : ClaimMsg)
  /-- R214. -/
  | witnessYieldReceived (m : ClaimMsg)
  /-- R221. -/
  | endorseReceived (m : ClaimMsg)
  /-- R465. -/
  | refuseReceived (m : ClaimMsg)
  /-- R215. -/
  | witnessStartingWatchEnd (i : Fin 16)
  /-- R218. -/
  | witnessSilenceNoRequest (i : Fin 16)
  /-- R218. -/
  | witnessLost
  /-- R217. -/
  | claimNumberReset (who : Who) (i : Fin 16)
  /-- R204. -/
  | copyUnitReceived (seq : Nat) (unit : CopyUnit) (bytes : List Byte)
  /-- R205. -/
  | copyEndReceived (seq : Nat) (count : Nat) (crc : Nat) (set : List WEntry) (outs : List OutVal) (evals : List Eval)
  /-- R212. -/
  | stageUnitReceived (chan : Chan) (value : Nat) (latch : MTime) (release : MTime)
  /-- R205. -/
  | changeUnitReceived (ea : Nat) (value : Nat) (at_ : MTime)
  /-- R205. -/
  | modeUnitReceived (mode : Mode) (at_ : MTime)
  /-- R222. -/
  | plannedTransfer (who : Who)
  /-- R222. -/
  | transferEndorseDeadline
  /-- R223. -/
  | claimEffectiveInstant
  /-- R225. -/
  | resyncPass (written : List Nat)
  /-- R226. -/
  | resyncNoConvergence
  /-- R226. -/
  | resyncRestart
  /-- R228. -/
  | swapStartShadow (who : Who) (prog : Program)
  /-- R229. -/
  | swapMapping
  /-- R228. -/
  | swapExecute (who : Who)
  /-- R230. -/
  | swapAbort (who : Who)
  /-- R336. -/
  | safetyStateMismatch
  /-- R238. -/
  | legendOpen (src : Source_) (msg : List Byte)
  /-- R238. -/
  | legendProve (src : Source_) (msg : List Byte)
  /-- R239. -/
  | legendClose (src : Source_) (msg : List Byte)
  /-- R240. -/
  | legendChallenge (src : Source_) (msg : List Byte)
  /-- R242. -/
  | legendRead (src : Source_) (msg : List Byte)
  /-- R243. -/
  | legendWrite (src : Source_) (msg : List Byte) (dec : Decoded)
  /-- R242. -/
  | legendSegRead (src : Source_) (msg : List Byte)
  /-- R242. -/
  | legendSegWrite (src : Source_) (msg : List Byte)
  /-- R242. -/
  | legendBrowse (src : Source_) (msg : List Byte)
  /-- R257. -/
  | surveyRead (src : Source_) (msg : List Byte)
  /-- R258. -/
  | surveyWrite (src : Source_) (msg : List Byte)
  /-- R262. -/
  | surveyFind (src : Source_) (msg : List Byte)
  /-- R261. -/
  | directory (src : Source_) (msg : List Byte)
  /-- R253. -/
  | legendMessageMalformed (src : Source_) (msg : List Byte)
  /-- R246. -/
  | legendCanSegment (ctrl : Fin 4) (pair : Fin 4) (bytes : List Byte) (dec : Decoded)
  /-- R246. -/
  | legendCanReassemblyTimeout (ctrl : Fin 4) (pair : Fin 4)
  /-- R238. -/
  | sessionProofTimeout (slot : Fin 32)
  /-- R239. -/
  | sessionIdleExpiry (slot : Fin 32)
  /-- R240. -/
  | nonceExpiry (slot : Fin 32)
  /-- R260. -/
  | forwardedRequestReceived (idx : Fin 64) (msg : List Byte) (dec : Decoded)
  /-- R260. -/
  | forwardedAnswerReceived (idx : Fin 64) (msg : List Byte)
  /-- R247. -/
  | forwardTimeout (id : Nat)
  /-- R257. -/
  | atomicReadInstant (id : Nat)
  /-- R261. -/
  | directoryHeartbeatSend
  /-- R261. -/
  | directoryHeartbeatReceived (idx : Fin 64) (beat : Beat)
  /-- R261. -/
  | directoryModuleAbsent (idx : Fin 64)
  /-- R261. -/
  | heartbeatAckReceived (idx : Fin 64)
  /-- R261. -/
  | datumLost
  /-- R263. -/
  | serviceActivation (v : Fin 256) (exception : Bool)
  /-- R264. -/
  | stagingBufferClear (who : Who)
  /-- R255. -/
  | surveyAgeSweep (n : Nat)
  /-- R267. -/
  | groupSupplyMeasure (g : Fin 4) (mv : Nat)
  /-- R268. -/
  | sectionRefreshLoss (sec : Fin 6)
  /-- R268. -/
  | dieLinkLost (sec : Fin 6)
  /-- R276. -/
  | rawInputEdge (ch : Fin 32) (level : Bool)
  /-- R271. -/
  | debounceAccept (ch : Fin 32)
  /-- R276. -/
  | chatterClear (ch : Fin 32)
  /-- R273. -/
  | counterOverrangeClear (ch : Fin 32)
  /-- R273. -/
  | counterClear (who : Who) (ch : Fin 32)
  /-- R274. -/
  | openWire (ch : Fin 32) (openWire : Bool)
  /-- R275. -/
  | stuckActive (ch : Fin 32)
  /-- R280. -/
  | outputShort (ch : Fin 32)
  /-- R280. -/
  | outputOverload (ch : Fin 32)
  /-- R280. -/
  | outputRetry (ch : Fin 32) (good : Bool)
  /-- R280. -/
  | noDrive (ch : Fin 32) (present : Bool)
  /-- R280. -/
  | openLoad (ch : Fin 32) (present : Bool)
  /-- R279. -/
  | share (ch : Fin 32) (present : Bool)
  /-- R281. -/
  | readbackHighWhileOff (pair : Bool) (n : Fin 32) (onset : MTime)
  /-- R282. -/
  | wiredTogetherRecheck (ch : Fin 32) (high : Bool)
  /-- R281. -/
  | externalDriveClear (pair : Bool) (n : Fin 32)
  /-- R283. -/
  | channelUnlatch (who : Who) (ch : Fin 32)
  /-- R283. -/
  | dioUnlatch (agent : Agent) (mask : Nat)
  /-- R285. -/
  | patternStep
  /-- R291. -/
  | aiConversionResult (ch : Fin 8) (code : Nat)
  /-- R294. -/
  | aiOvercurrent (ch : Fin 8)
  /-- R294. -/
  | aiLimiterRetest (ch : Fin 8) (code : Nat)
  /-- R298. -/
  | aoComplianceMonitor (ch : Fin 8) (headMv : Nat)
  /-- R300. -/
  | aoReadbackCheck (ch : Fin 8) (code : Nat)
  /-- R304. -/
  | trimWrite (who : Who) (ch : Fin 16) (z : F32) (k : F32)
  /-- R305. -/
  | trimPoint4ma (who : Who) (ch : Fin 16) (entered : Option F32)
  /-- R305. -/
  | trimPoint20ma (who : Who) (ch : Fin 16) (entered : Option F32)
  /-- R305. -/
  | trimApply (who : Who) (ch : Fin 16)
  /-- R306. -/
  | faceplateTrimTimeout
  /-- R308. -/
  | hartTransactionDue (master : Fin 8)
  /-- R308. -/
  | hartResponseReceived (master : Fin 8) (reply : HartReply)
  /-- R308. -/
  | hartResponseTimeout (master : Fin 8)
  /-- R309. -/
  | hartBurstReceived (loop : Fin 16) (reply : HartReply)
  /-- R309. -/
  | hartVariableStale (master : Fin 8) (slot : Fin 8)
  /-- R310. -/
  | hartPassThrough (who : Who) (master : Fin 8) (loop : Nat) (command : Nat) (data : List Byte)
  /-- R313. -/
  | safetyStatusFrame
  /-- R314. -/
  | safetyCheck
  /-- R315. -/
  | safetyCheckFrameReceived (frame : CheckFrame)
  /-- R315. -/
  | safetyChannelTimeout
  /-- R316. -/
  | testPulseFrame
  /-- R317. -/
  | safetyInputOff (ch : Fin 12)
  /-- R317. -/
  | safetyInputOn (ch : Fin 12)
  /-- R318. -/
  | pulseMissing (ch : Fin 12)
  /-- R319. -/
  | discrepancy (q : Fin 6)
  /-- R320. -/
  | sourceShort (src : Fin 4)
  /-- R321. -/
  | speedUpdate (a0 : SpeedIn) (a1 : SpeedIn)
  /-- R330. -/
  | ss1tStopExpiry (f : Fin 8)
  /-- R331. -/
  | ss1rStandstill (f : Fin 8)
  /-- R331. -/
  | rampTimeout (f : Fin 8)
  /-- R333. -/
  | safetyResetEdge (ch : Fin 12)
  /-- R323. -/
  | safetyOutputTest (p : Fin 4) (found : TestFind)
  /-- R323. -/
  | safetyOutputShort (p : Fin 4)
  /-- R323. -/
  | safetyOutputOverload (p : Fin 4)
  /-- R324. -/
  | edmTimeout (p : Fin 4)
  /-- R335. -/
  | nonHolderConducting (p : Fin 4)
  /-- R338. -/
  | safetySetLoad (who : Who) (set : SafetySet)
  /-- R338. -/
  | safetySetConfirm (who : Who) (crc : Nat) (partner : Option Nat)
  /-- R338. -/
  | safetySetPendingExpiry
  /-- R352. -/
  | canTxComplete (c : Fin 4) (obj : Fin 128)
  /-- R352. -/
  | canTxError (c : Fin 4) (obj : Fin 128)
  /-- R352. -/
  | canObjectExpired (c : Fin 4) (obj : Fin 128)
  /-- R354. -/
  | canFrameReceived (c : Fin 4) (frame : CanFrame) (dec : Decoded)
  /-- R355. -/
  | canReceiveTimeout (c : Fin 4) (obj : Fin 128)
  /-- R358. -/
  | canErrorDetected (c : Fin 4) (err : CanErr) (data : Bool) (transmitter : Bool)
  /-- R359. -/
  | canBusOffRecovery (c : Fin 4)
  /-- R358. -/
  | canErrorEpisodeEnd (c : Fin 4)
  /-- R365. -/
  | portLinkDown (p : Port)
  /-- R365. -/
  | portLinkUp (p : Port)
  /-- R367. -/
  | plantFrameReceived (p : Port) (frame : PlantFrame)
  /-- R366. -/
  | prpSupervisionSend
  /-- R373. -/
  | ringFrameReceived (p : Port) (frame : RingFrame)
  /-- R380. -/
  | tieBlockReceived (lane : Fin 2) (bytes : List Byte) (dec : Decoded)
  /-- R380. -/
  | tieLaneDown (lane : Fin 2)
  /-- R380. -/
  | tieLaneUp (lane : Fin 2)
  /-- R385. -/
  | eventOffer (o : Offering)
  /-- R387. -/
  | eventRecordWrite
  /-- R390. -/
  | mergeFlush
  /-- R394. -/
  | recorderClear (who : Who)
  /-- R394. -/
  | recorderZeroingDone
  /-- R399. -/
  | keyPress (key : Fin 3) (long : Bool)
  /-- R399. -/
  | crtKeyRead (agent : Agent)
  /-- R401. -/
  | goFp (agent : Agent)
  /-- R401. -/
  | goExt (agent : Agent)
  /-- R401. -/
  | cartoucheUpdateEnd
  /-- R407. -/
  | reserveReady
  /-- R408. -/
  | reserveExhausted
  /-- R405. -/
  | cartoucheTempMeasure (temp : Int)
  /-- R406. -/
  | reserveCapacityTest (mF : Nat)
  /-- R410. -/
  | pageRefresh
  /-- R412. -/
  | fullRedraw (who : Who)
  /-- R419. -/
  | clockSourceFailure (src : Fin 5) (err : Int)
  /-- R419. -/
  | loopLockLost (loopB : Bool)
  /-- R420. -/
  | rootSwitchComplete (lost : Fin 4) (dead : Bool) (xb : Int) (rc : Int) (clkin : Int)
  /-- R419. -/
  | rootReturnToLoopA
  /-- R418. -/
  | clockStartupWindowEnd (src : Fin 5) (err : Int)
  /-- R418. -/
  | clockStartupTimeout (src : Fin 5)
  /-- R422. -/
  | rcTrimStep (step : Int) (ref : Fin 3) (code : Nat)
  /-- R423. -/
  | eccScrub (site : EccSite) (uncorrectable : Bool)
  /-- R425. -/
  | memOwnWrite (agent : Agent) (k : Fin 4) (owner : Fin 8)
  /-- R425. -/
  | ownerTransferComplete (k : Fin 4)
  /-- R426. -/
  | tamper (cause : Nat)
  /-- R428. -/
  | supplyInputLost (input : Fin 2) (mv : Nat)
  /-- R428. -/
  | supplyInputRestored (input : Fin 2) (mv : Nat)
  /-- R428. -/
  | supplyInputOvervoltage (input : Fin 2) (mv : Nat)
  /-- R428. -/
  | supplyInputReconnect (input : Fin 2) (mv : Nat)
  /-- R432. -/
  | pfail
  /-- R432. -/
  | powerDownReset
  /-- R432. -/
  | supplyReturnRestart (ina : Nat) (inb : Nat)
  /-- R430. -/
  | vcoreSetWrite (agent : Agent) (code : Nat)
  /-- R454. -/
  | moduleInserted
  /-- R454. -/
  | moduleRemoved
  /-- R438. -/
  | registerWrite (agent : Agent) (addr : Nat) (width : Fin 4) (value : Nat)
  /-- R442. -/
  | bitAliasWrite (agent : Agent) (addr : Nat) (value : Nat)
  /-- R444. -/
  | snapshotGo (agent : Agent)
  /-- R445. -/
  | snapshotCommand (who : Who) (instant : MTime)
  /-- R444. -/
  | snapshotTake
  /-- R444. -/
  | snapshotCopyEnd
  /-- R446. -/
  | tmrScrub (upsets : List (Nat × Nat × Nat × Nat))
  /-- R96. -/
  | ptpDelayRequestSend (p : Port)
  /-- R108. -/
  | plantMasterSyncSend (p : Port)
  /-- R419. -/
  | loopRelock
  /-- R324. -/
  | epOnFor10Ms (p : Fin 4)
  /-- R341. -/
  | dieSelfTestFault
  /-- R335. -/
  | safetyEnableStageSend
deriving DecidableEq, Repr

end Sys2Proof
end

