-- ==== Sys2Proof/Config.lean ====
section
/-!
DEFINITION. What the specification leaves to chance or to an implementation: constants with no body, so that no proof can
lean on a value of one.
-/
namespace Sys2Proof

/-- The random value that the `n`-th draw yields (R238 challenge, R240 nonce, R86 and R425 random delays): 256 bits. -/
opaque Config.random : Nat → BitVec 256

/-- The bytes an event puts into the 40 bytes of DATA of its record and of its extension records, for the events to which
the specification gives fields but no byte positions (R389): code, values of the fields. -/
opaque Config.eventData : Nat → List Nat → List Byte

/-- The value of a Legend element, a register or a measured quantity of which the specification states no value: its entry
(or the register's address) and element, or the index of the free value. -/
opaque Config.freeElement : Nat → Nat → Nat

/-- The detail code a safety channel or input pair shows for a fault of which the specification names the detail element but
no code (Tables 12-9 and 12-10): 1 PULSE-MISSING, 2 DISCREPANCY, 3 SOURCE-SHORT, 4 link lost. -/
opaque Config.safetyDetail : Nat → BitVec 4

/-- The value a read of memory yields whose uncorrectable error stands (R423 gives the fault, not the data). -/
opaque Config.badData : Nat → Nat

end Sys2Proof
end

