-- ==== Sys2Proof/Machine/Bits.lean ====
section
/-!
DEFINITION. Bit fields, sign extension, byte order and saturating counts: the helpers every chapter uses.
-/
namespace Sys2Proof.Machine

/-- Bits `hi..lo` of `w`, as a number (field notation of R8). -/
def field (w hi lo : Nat) : Nat := (w >>> lo) % 2 ^ (hi + 1 - lo)

/-- Bit `b` of `w`. -/
def bitOf (w b : Nat) : Bool := (w >>> b) % 2 == 1

/-- `w` with bits `hi..lo` replaced by the low bits of `v`. -/
def setField (w hi lo v : Nat) : Nat :=
  w - (field w hi lo) <<< lo + (v % 2 ^ (hi + 1 - lo)) <<< lo

/-- `w` with bit `b` set to `v`. -/
def setBit (w b : Nat) (v : Bool) : Nat := setField w b b v.toNat

/-- The bits of `new` under the mask, the bits of `old` elsewhere. -/
def mergeMask (old new mask : Nat) : Nat := old - (old &&& mask) + (new &&& mask)

/-- A Boolean as the bit `b` of a word. -/
def bitAt (v : Bool) (b : Nat) : Nat := if v then 2 ^ b else 0

/-- The word whose bit `i` is the `i`-th entry (lowest first). -/
def packBits : List Bool → Nat
  | [] => 0
  | b :: bs => b.toNat + 2 * packBits bs

/-- Little-endian value of a list of bytes (R8: memory and registers are little-endian). -/
def leNat : List Byte → Nat
  | [] => 0
  | b :: bs => b.toNat + 256 * leNat bs

/-- The `n` little-endian bytes of a value. -/
def leBytes : Nat → Nat → List Byte
  | 0, _ => []
  | n + 1, v => BitVec.ofNat 8 v :: leBytes n (v / 256)

/-- The signed value of the low `w` bits (two's complement, Table 09-1). -/
def toSigned (w v : Nat) : Int :=
  let u := v % 2 ^ w
  if u < 2 ^ (w - 1) then (u : Int) else (u : Int) - (2 ^ w : Nat)

/-- The low `w` bits of a signed value (two's complement, Table 09-1). -/
def ofSigned (w : Nat) (i : Int) : Nat := (i % ((2 ^ w : Nat) : Int)).toNat

/-- One more, saturating at `2^w - 1` (the saturating counts of the block maps). -/
def satInc (w n : Nat) : Nat := if n + 1 < 2 ^ w then n + 1 else 2 ^ w - 1

/-- `n + k`, saturating at `2^w - 1`. -/
def satAdd (w n k : Nat) : Nat := if n + k < 2 ^ w then n + k else 2 ^ w - 1

/-- Division rounded up, `⌈a / b⌉`. -/
def ceilDiv (a b : Nat) : Nat := (a + b - 1) / b

/-- `x` limited to `lo..hi` (R98, R163: clamp). -/
def clampI (x lo hi : Int) : Int := if x < lo then lo else if hi < x then hi else x

/-- Round to the nearest integer of `n / d`, ties to even (R92), for `d > 0`. -/
def roundHalfEven (n d : Int) : Int :=
  let q := Int.fdiv n d
  let r := n - q * d
  if 2 * r < d then q else if d < 2 * r then q + 1 else if q % 2 = 0 then q else q + 1

end Sys2Proof.Machine
end

