-- ==== Sys2Proof/Machine/Float.lean ====
section
/-!
DEFINITION. IEEE 754 binary64 and binary32 arithmetic as the control engine uses it (R159): every operation rounded to
nearest even, no fused multiply-add, subnormals kept.
-/
namespace Sys2Proof.Machine

/-- A binary format: precision `p`, exponent of the smallest subnormal unit `qmin`, and the largest biased exponent. -/
structure Fmt where
  p : Nat
  qmin : Int
  emax : Nat
deriving DecidableEq, Repr

/-- binary64. -/
def Fmt.b64 : Fmt := { p := 53, qmin := -1074, emax := 2047 }

/-- binary32. -/
def Fmt.b32 : Fmt := { p := 24, qmin := -149, emax := 255 }

/-- A decoded number. -/
inductive Num where
  | nan
  | inf (neg : Bool)
  | fin (neg : Bool) (m : Nat) (e : Int)   -- (−1)^neg × m × 2^e
deriving DecidableEq, Repr

/-- The number a bit pattern of a format stands for. -/
def Fmt.decode (f : Fmt) (bits : Nat) : Num :=
  let frac := bits % 2 ^ (f.p - 1)
  let ex := bits / 2 ^ (f.p - 1) % (f.emax + 1)
  let neg := bits / (2 ^ (f.p - 1) * (f.emax + 1)) % 2 == 1
  if ex = f.emax then (if frac = 0 then .inf neg else .nan)
  else if ex = 0 then .fin neg frac f.qmin
  else .fin neg (frac + 2 ^ (f.p - 1)) (f.qmin + (ex : Int) - 1)

/-- The bits of an infinity. -/
def Fmt.infBits (f : Fmt) (neg : Bool) : Nat :=
  f.emax * 2 ^ (f.p - 1) + (if neg then 2 ^ (f.p - 1) * (f.emax + 1) else 0)

/-- The pattern a not-a-number is packed as: the quiet NaN of the format (DESIGN CHOICE, log entry 4; it is never kept:
R168 turns a non-finite result into a numeric fault). -/
def Fmt.nanBits (f : Fmt) : Nat := f.emax * 2 ^ (f.p - 1) + 2 ^ (f.p - 2)

/-- Round (−1)^neg × m × 2^e to the format, nearest even; `sticky` says that something below the last bit was cut. -/
def Fmt.round (f : Fmt) (neg : Bool) (m : Nat) (e : Int) (sticky : Bool) : Nat :=
  let s := if neg then 2 ^ (f.p - 1) * (f.emax + 1) else 0
  if m = 0 then s else
  let len : Int := (Nat.log2 m : Int) + 1
  let q0 := e + len - (f.p : Int)
  let q := if q0 < f.qmin then f.qmin else q0
  let sh := q - e
  let mant : Nat :=
    if sh ≤ 0 then m <<< (-sh).toNat
    else
      let k := sh.toNat
      let hi := m >>> k
      let rem := m % 2 ^ k
      let half := 2 ^ (k - 1)
      if half < rem || (rem == half && (sticky || hi % 2 == 1)) then hi + 1 else hi
  let bits := (q - f.qmin).toNat * 2 ^ (f.p - 1) + mant
  if f.emax * 2 ^ (f.p - 1) ≤ bits then s + f.emax * 2 ^ (f.p - 1) else s + bits

/-- Pack a decoded number. -/
def Fmt.pack (f : Fmt) : Num → Nat
  | .nan => f.nanBits
  | .inf neg => f.infBits neg
  | .fin neg m e => f.round neg m e false

/-- The signed significand. -/
def Num.signed (neg : Bool) (m : Nat) : Int := if neg then -(m : Int) else (m : Int)

/-- Decode a REAL64. -/
def F64.num (x : F64) : Num := Fmt.b64.decode x.toNat

/-- Pack a REAL64, rounding to nearest even. -/
def F64.ofNum (n : Num) : F64 := BitVec.ofNat 64 (Fmt.b64.pack n)

/-- Finite (R162, R168). -/
def F64.isFinite (x : F64) : Bool := match F64.num x with | .fin _ _ _ => true | _ => false

/-- Sum of two decoded numbers, packed. -/
def F64.addNum : Num → Num → F64
  | .nan, _ => F64.ofNum .nan
  | _, .nan => F64.ofNum .nan
  | .inf a, .inf b => if a = b then F64.ofNum (.inf a) else F64.ofNum .nan
  | .inf a, _ => F64.ofNum (.inf a)
  | _, .inf b => F64.ofNum (.inf b)
  | .fin s m e, .fin t n g =>
    let lo := if e < g then e else g
    let v := Num.signed s (m <<< (e - lo).toNat) + Num.signed t (n <<< (g - lo).toNat)
    if v = 0 then F64.ofNum (.fin (s && t) 0 lo) else F64.ofNum (.fin (decide (v < 0)) v.natAbs lo)

/-- Addition. -/
def F64.add (x y : F64) : F64 := F64.addNum (F64.num x) (F64.num y)

/-- Negation flips the sign bit. -/
def F64.neg (x : F64) : F64 := x ^^^ BitVec.ofNat 64 (2 ^ 63)

/-- Subtraction. -/
def F64.sub (x y : F64) : F64 := F64.add x (F64.neg y)

/-- Product of two decoded numbers, packed. -/
def F64.mulNum : Num → Num → F64
  | .nan, _ => F64.ofNum .nan
  | _, .nan => F64.ofNum .nan
  | .inf a, .inf b => F64.ofNum (.inf (a != b))
  | .inf a, .fin t n _ => if n = 0 then F64.ofNum .nan else F64.ofNum (.inf (a != t))
  | .fin s m _, .inf b => if m = 0 then F64.ofNum .nan else F64.ofNum (.inf (s != b))
  | .fin s m e, .fin t n g => F64.ofNum (.fin (s != t) (m * n) (e + g))

/-- Multiplication. -/
def F64.mul (x y : F64) : F64 := F64.mulNum (F64.num x) (F64.num y)

/-- Quotient of two decoded numbers, packed. -/
def F64.divNum : Num → Num → F64
  | .nan, _ => F64.ofNum .nan
  | _, .nan => F64.ofNum .nan
  | .inf _, .inf _ => F64.ofNum .nan
  | .inf a, .fin t _ _ => F64.ofNum (.inf (a != t))
  | .fin s _ _, .inf b => F64.ofNum (.fin (s != b) 0 0)
  | .fin s m e, .fin t n g =>
    if n = 0 then (if m = 0 then F64.ofNum .nan else F64.ofNum (.inf (s != t)))
    else
      let q := (m <<< 130) / n
      let r := (m <<< 130) % n
      BitVec.ofNat 64 (Fmt.b64.round (s != t) q (e - g - 130) (decide (r ≠ 0)))

/-- Division. -/
def F64.div (x y : F64) : F64 := F64.divNum (F64.num x) (F64.num y)

/-- `x < y` of decoded numbers (false where either is a NaN). -/
def Num.lt : Num → Num → Bool
  | .nan, _ => false
  | _, .nan => false
  | .inf a, .inf b => a && !b
  | .inf a, _ => a
  | _, .inf b => !b
  | .fin s m e, .fin t n g =>
    let lo := if e < g then e else g
    decide (Num.signed s (m <<< (e - lo).toNat) < Num.signed t (n <<< (g - lo).toNat))

/-- `x = y` as numbers. -/
def Num.eqv : Num → Num → Bool
  | .nan, _ => false
  | _, .nan => false
  | .inf a, .inf b => a == b
  | .fin s m e, .fin t n g =>
    let lo := if e < g then e else g
    decide (Num.signed s (m <<< (e - lo).toNat) = Num.signed t (n <<< (g - lo).toNat))
  | _, _ => false

/-- `x < y`. -/
def F64.lt (x y : F64) : Bool := Num.lt (F64.num x) (F64.num y)

/-- `x = y` as numbers (+0 equals −0). -/
def F64.eq (x y : F64) : Bool := Num.eqv (F64.num x) (F64.num y)

/-- `x ≤ y`. -/
def F64.le (x y : F64) : Bool := F64.lt x y || F64.eq x y

/-- The larger of two. -/
def F64.max (x y : F64) : F64 := if F64.lt x y then y else x

/-- The smaller of two. -/
def F64.min (x y : F64) : F64 := if F64.lt y x then y else x

/-- clamp(x, lo, hi) of R163. -/
def F64.clamp (x lo hi : F64) : F64 := if F64.lt x lo then lo else if F64.lt hi x then hi else x

/-- Absolute value. -/
def F64.abs (x : F64) : F64 := BitVec.ofNat 64 (x.toNat % 2 ^ 63)

/-- +0. -/
def F64.zero : F64 := 0

/-- The REAL64 nearest to an integer. -/
def F64.ofInt (i : Int) : F64 := F64.ofNum (.fin (decide (i < 0)) i.natAbs 0)

/-- The REAL64 nearest to `n / d`. -/
def F64.ofRatio (n d : Int) : F64 := F64.div (F64.ofInt n) (F64.ofInt d)

/-- 1. -/
def F64.one : F64 := F64.ofInt 1

/-- ⌊x⌋ for a finite x, 0 otherwise. -/
def F64.floor (x : F64) : Int :=
  match F64.num x with
  | .fin s m e =>
    if 0 ≤ e then Num.signed s (m <<< e.toNat) else Int.fdiv (Num.signed s m) ((2 ^ (-e).toNat : Nat) : Int)
  | _ => 0

/-- ⌈x⌉ for a finite x, 0 otherwise. -/
def F64.ceil (x : F64) : Int := -(F64.floor (F64.neg x))

/-- The integer nearest to a finite x, ties to even (R158, R350: "rounding to nearest"; the tie rule is R159's, log entry 5). -/
def F64.nearest (x : F64) : Int :=
  match F64.num x with
  | .fin s m e =>
    if 0 ≤ e then Num.signed s (m <<< e.toNat)
    else roundHalfEven (Num.signed s m) ((2 ^ (-e).toNat : Nat) : Int)
  | _ => 0

/-- A REAL32 widened exactly (R159). -/
def F32.widen (x : F32) : F64 := F64.ofNum (Fmt.b32.decode x.toNat)

/-- A REAL64 rounded to REAL32, nearest even. -/
def F64.narrow (x : F64) : F32 := BitVec.ofNat 32 (Fmt.b32.pack (F64.num x))

/-- A REAL32 is finite (R161, R183, R234). -/
def F32.isFinite (x : F32) : Bool := match Fmt.b32.decode x.toNat with | .fin _ _ _ => true | _ => false

end Sys2Proof.Machine
end

