-- ==== Sys2Proof/Machine/Sparse.lean ====
section
/-!
DEFINITION. Sparse tables keyed by number, and byte memory, each in one canonical form: keys strictly rising, and no
entry equal to what an unlisted key reads as.
-/
namespace Sys2Proof.Machine

/-- A sparse table: (key, value) pairs, keys rising. -/
abbrev Table (α : Type) := List (Nat × α)

/-- The entry at a key, if one is listed. -/
def Table.find {α : Type} : Table α → Nat → Option α
  | [], _ => none
  | (j, x) :: t, k => if j = k then some x else Table.find t k

/-- The entry at a key; an unlisted key reads as `d`. -/
def Table.get {α : Type} (t : Table α) (d : α) (k : Nat) : α := (Table.find t k).getD d

/-- The table without the key. -/
def Table.erase {α : Type} : Table α → Nat → Table α
  | [], _ => []
  | (j, x) :: t, k => if j = k then Table.erase t k else (j, x) :: Table.erase t k

/-- The table with `k` listed at `x`, in its place. -/
def Table.put {α : Type} : Table α → Nat → α → Table α
  | [], k, x => [(k, x)]
  | (j, y) :: t, k, x =>
    if k < j then (k, x) :: (j, y) :: t else if k = j then (k, x) :: t else (j, y) :: Table.put t k x

/-- Write `x` at `k` keeping the canonical form: the default is not listed. -/
def Table.set {α : Type} [DecidableEq α] (t : Table α) (d : α) (k : Nat) (x : α) : Table α :=
  if x = d then Table.erase t k else Table.put t k x

/-- Change the entry at `k`. -/
def Table.upd {α : Type} [DecidableEq α] (t : Table α) (d : α) (k : Nat) (f : α → α) : Table α :=
  Table.set t d k (f (Table.get t d k))

/-- Keys rise strictly from above `lo`, and no value is the default. -/
def Table.wfFrom {α : Type} [DecidableEq α] (d : α) : Option Nat → Table α → Bool
  | _, [] => true
  | lo, (k, x) :: t => (match lo with | none => true | some l => decide (l < k)) && decide (x ≠ d) && Table.wfFrom d (some k) t

/-- The canonical form of a sparse table. -/
def Table.wf {α : Type} [DecidableEq α] (t : Table α) (d : α) : Bool := Table.wfFrom d none t

/-- Byte memory: (address, byte) pairs in canonical form. Unlisted bytes read 0: R426 zeroes the SRAM banks at every
reset; for DRAM and MRAM the spec gives no contents (DESIGN CHOICE, log entry 3). -/
abbrev Memory := List Host.Cell

/-- What an unlisted address reads as. -/
def Memory.blank : Byte := 0

/-- Read one byte. -/
def Memory.read (m : Memory) (a : Nat) : Byte := Table.get m Memory.blank a

/-- Write one byte. -/
def Memory.write (m : Memory) (a : Nat) (b : Byte) : Memory := Table.set m Memory.blank a b

/-- The canonical form of a memory. -/
def Memory.wf (m : Memory) : Bool := Table.wf m Memory.blank

/-- Read `n` bytes from `a`, lowest address first. -/
def Memory.readN (m : Memory) (a : Nat) : Nat → List Byte
  | 0 => []
  | n + 1 => Memory.read m a :: Memory.readN m (a + 1) n

/-- Write bytes from `a` up. -/
def Memory.writeN (m : Memory) (a : Nat) : List Byte → Memory
  | [] => m
  | b :: bs => Memory.writeN (Memory.write m a b) (a + 1) bs

/-- Write the bytes of `bs` whose mask bit is set (R73: a byte mask), the lowest bit for address `a`. -/
def Memory.writeMasked (m : Memory) (a : Nat) (mask : Nat) : List Byte → Memory
  | [] => m
  | b :: bs =>
    let m' := if mask % 2 = 1 then Memory.write m a b else m
    Memory.writeMasked m' (a + 1) (mask / 2) bs

/-- Zero (unlist) every byte of `lo ≤ address < hi`. -/
def Memory.wipe (m : Memory) (lo hi : Nat) : Memory := m.filter (fun c => decide (c.1 < lo) || decide (hi ≤ c.1))

end Sys2Proof.Machine
end

