-- ==== Sys2Proof/Parts/Compute.lean ====
section
/-!
DEFINITION. The parts of the state for the triad (chapter 3) and for Meridian and the Waypoints (chapter 4).
-/
namespace Sys2Proof.Machine

/-- States of a triad core (Legend 0x20000). -/
inductive CoreState where
  | active | quarantined | rebuilding | permanent
deriving DecidableEq, Repr

/-- Codes of Legend 0x20000. -/
def CoreState.code : CoreState → Nat
  | .active => 0 | .quarantined => 1 | .rebuilding => 2 | .permanent => 3

/-- What a core presents at a checkpoint (R74): its kind, signature, the queue entries it consumed and its write-set. -/
structure Arrival where
  kind : Nat
  sig : Nat
  consumed : Nat
  set : List WEntry
  /-- Output-image channels written in the interval (R131), and instances evaluated (R139). -/
  outs : List OutVal := []
  evals : List Eval := []
deriving DecidableEq, Repr

/-- A shared read that waits for the third core's (R66): address, width, pc, privilege, and the raw count of its start. -/
structure PendRead where
  addr : Nat
  width : Nat
  pc : Nat
  user : Bool
  since : Nat
deriving DecidableEq, Repr

/-- One triad core. -/
structure Core where
  state : CoreState := .active
  retired : Nat := 0
  /-- Retired instructions since the last checkpoint (R68, R72). -/
  since : Nat := 0
  /-- The CRC-64 register (R69). -/
  crc : Nat := 0xFFFFFFFFFFFFFFFF
  set : List WEntry := []
  readIdx : Nat := 0
  /-- x1 to x31 under 1 to 31, f0 to f31 under 32 to 63 (unlisted 0). -/
  regs : Table Nat := []
  csrs : Table Nat := []
  arrived : Option Arrival := none
  /-- Waiting at WFI (R68). -/
  wfi : Bool := false
  /-- The next signature is corrupted (R88). -/
  inject : Bool := false
  /-- Its quarantine was injected, so its rebuild does not count (R88). -/
  injected : Bool := false
  reading : Option PendRead := none
  /-- Interrupt state taken at the last delivery point. -/
  irqTaken : Nat := 0
  /-- Raw counts of its rebuilds within the window (R82). -/
  rebuilds : List Nat := []
  quarantines : Nat := 0
deriving DecidableEq, Repr

/-- An entry of the input sample queue (R64); `err` is the bus-error cause carried with it (R439). -/
structure QEntry where
  addr : Nat
  width : Nat
  value : Nat
  err : Nat := 0
  /-- The core that made the entry. -/
  maker : Nat
deriving DecidableEq, Repr

/-- A commit between agreement and its end (steps 4 and 5 of Table 03-5). -/
structure Commit where
  arrival : Arrival
  cores : List Nat
  /-- Cores in quarantine at the agreement, and whether a rebuild's copy had ended (R80). -/
  old : List Nat := []
  copied : Bool := false
  /-- Its start: a freeze from then on comes after it (R129). -/
  from_ : MTime := 0
deriving DecidableEq, Repr

/-- A committed checkpoint that a remaining core has still to reach (step 6): the core, the input sample queue of that interval, what
was committed, the raw count of the first arrival, and the checkpoint's number. -/
structure Lag where
  core : Nat
  queue : List QEntry
  arrival : Arrival
  firstAt : Nat
  seq : Nat
deriving DecidableEq, Repr

/-- A rebuild (R80): the core, its donor, and whether the bank copy has ended. -/
structure Rebuild where
  core : Nat
  donor : Nat
  copied : Bool := false
deriving DecidableEq, Repr

/-- What runs on the triad (R76, R124). -/
inductive Unit_ where
  | idle
  | task (t : Nat)
  | service (v : Nat)
  | extension (x : Nat)
deriving DecidableEq, Repr

/-- A communication core (R83, R86). -/
structure CommCore where
  lastBeat : Nat := 0
  inReset : Bool := false
  resets : Nat := 0
deriving DecidableEq, Repr

/-- The voted triad (chapter 3). -/
structure TriadPart where
  c0 : Core := {}
  c1 : Core := {}
  c2 : Core := {}
  queue : List QEntry := []
  /-- Raw count of the first arrival at the checkpoint in progress (A_1). -/
  firstAt : Option Nat := none
  commit : Option Commit := none
  /-- Checkpoints that a remaining core has still to reach, oldest first. -/
  lag : List Lag := []
  ckpts : Nat := 0
  rebuild : Option Rebuild := none
  /-- NO-MAJORITY or DUPLEX-DISAGREEMENT stands: nothing is committed until a reset (R78). -/
  dead : Bool := false
  skewK : Nat := 200
  ckint : Nat := 65536
  skewMax : Nat := 0
  skewMaxAt : Nat := 0
  wrViol : Nat := 0
  discCrc : Nat := 0
  discSeq : Nat := 0
  /-- The next SEQ expected on each queue (R85), and the queues in a run of discards. -/
  expect : Table Nat := []
  discarding : List Nat := []
  /-- Last disagreement (Legend 0x20007). -/
  disAt : MTime := 0
  disCore : Nat := 0
  disCause : Nat := 0
  disSeq : Nat := 0
  disSig0 : Nat := 0
  disSig1 : Nat := 0
  disSig2 : Nat := 0
  ctrl : Nat := 0
  pend : Nat := 0
  unit_ : Unit_ := .idle
  /-- Units that wait: preempted ones, the innermost first, and released ones (R124). -/
  preempted : List Unit_ := []
  /-- SEQ the queue engine gives the triad's next item on each queue (R86). -/
  txSeq : Table Nat := []
  cc0 : CommCore := {}
  cc1 : CommCore := {}
deriving DecidableEq, Repr

/-- Meridian states (Table 04-1). -/
inductive MState where
  | free | acquiring | tracking | locked | holdover | broken
deriving DecidableEq, Repr

/-- Codes of Table 04-1. -/
def MState.code : MState → Nat
  | .free => 0 | .acquiring => 1 | .tracking => 2 | .locked => 3 | .holdover => 4 | .broken => 5

/-- A decided step (R97, R99). -/
structure StepPlan where
  delta : Int
  atRaw : Nat
  /-- The event that records it: 0x4001 or 0x4004. -/
  code : Nat
deriving DecidableEq, Repr

/-- One PTP source on one plant port (R108): the Announce it last sent, and the raw count of it. -/
structure Source where
  announce : Option Announce := none
  heard : Nat := 0
  clock : Nat := 0
deriving DecidableEq, Repr

/-- What R109 keeps of a source: its violations within 60 s as raw counts, newest first, and whether it is untrusted. -/
structure Offender where
  violations : List Nat := []
  untrusted : Bool := false
  /-- The source has been marked untrusted before: only its first marking is recorded. -/
  known : Bool := false
deriving DecidableEq, Repr

/-- PTP exchanges in progress on a port: the two-step Sync awaiting its Follow_Up (sequence, ingress time), the delay
request sent (sequence, egress time), the measured path delay. Times are in 2⁻¹⁶ ns. -/
structure PtpPort where
  sync : Option (Nat × Int) := none
  req : Option (Nat × Int) := none
  reqSeq : Nat := 0
  delay : Option Int := none
  /-- Last Sync: origin and corrected ingress times, for the delay request-response mechanism. -/
  t1 : Int := 0
  t2 : Int := 0
  inLat : Int := 0
  egLat : Int := 0
  asym : Int := 0
deriving DecidableEq, Repr

/-- Meridian time (chapter 4). -/
structure MeridianPart where
  running : Bool := false
  raw : Nat := 0
  /-- OFFSET in units of 2⁻³² ns. -/
  offset : Int := 0
  rho : Int := 0
  state : MState := .free
  ptpScale : Bool := false
  utcValid : Bool := false
  utcOffset : Int := 0
  leap : Bool := false
  stepped : Bool := false
  plan : Option StepPlan := none
  stepReg : Int := 0
  stepGo : Bool := false
  capRaw : Nat := 0
  capNow : MTime := 0
  capDone : Bool := false
  p0 : PtpPort := {}
  p1 : PtpPort := {}
  p2 : PtpPort := {}
  p3 : PtpPort := {}
  /-- CAN latencies, 2⁻¹⁶ ns: RXLAT of controllers 0 to 3, then TXLAT. -/
  canLat : List Int := [0, 0, 0, 0, 0, 0, 0, 0]
  opMs : Nat := 0
  /-- Raw counts within the present millisecond of operating time. -/
  opTicks : Nat := 0
  opSecs : Nat := 0
  pcyc : Nat := 0
  steps : Nat := 0
  breaks : Nat := 0
  breakAt : Nat := 0
  /-- Offsets of the consecutive valid measurements of R97, newest first, 2⁻¹⁶ ns. -/
  count : List Int := []
  /-- Measurements for ρ_f, newest first, at most nine: master time in 2⁻¹⁶ ns and raw count. -/
  points : List (Int × Nat) := []
  /-- logSyncInterval of the last Sync of the selected master. -/
  syncLog : Int := -3
  /-- The last 16 values of ρ_f, newest first (R98, HOLDOVER). -/
  rhoFs : List Int := []
  lastMeas : Nat := 0
  lastOffset : Int := 0
  /-- Consecutive measurements within 20 ns, and beyond 50 ns. -/
  within : Nat := 0
  beyond : Nat := 0
  holdSince : Nat := 0
  holdReported : Bool := false
  stepCmd : Bool := false
  /-- By source identity × 2 + plant port; and by source identity. -/
  sources : Table Source := []
  offenders : Table Offender := []
  /-- The selected master, and the grandmaster last selected. -/
  master : Option Nat := none
  gm : Option Nat := none
  /-- This module is master on the plant network (R108). -/
  plantMaster : Bool := false
  violations : Nat := 0
  untrusted : Nat := 0
  unsupported : Nat := 0
  syncSeq : Nat := 0
  /-- Raw counts of the last ring Sync, and of the last plant Sync by port. -/
  ringSyncAt : Option Nat := none
  plantSyncAt : Table Nat := []
deriving DecidableEq, Repr

/-- The Waypoint scheduler (R113 to R118). -/
structure WaypointPart where
  /-- Slots that are not all zero. -/
  slots : Table WptRec := []
  /-- Slots staged into their target (R117). -/
  staged : List Nat := []
  /-- One-shot slots that a forward step has passed over (R116). -/
  lates : List Nat := []
  /-- The first instant of a series that a program or host armed and that has not fired yet: no step moves the series before
  it. -/
  bases : Table MTime := []
  ctrl : Nat := 0
  pend : Nat := 0
  last : Nat := 0xFFFFFFFF
deriving DecidableEq, Repr

end Sys2Proof.Machine
end

