-- ==== Sys2Proof/Parts/Core.lean ====
section
/-!
DEFINITION. The parts of the state that every chapter uses: modes and recovery (chapter 2), the event recorder
(chapter 15), the register interface (chapter 18).
-/
namespace Sys2Proof.Machine

/-- A transition in progress (R37): its ends, its rank there, the tasks and loop groups whose effect is still to come,
and the Meridian instant before which it cannot end. -/
structure Trans where
  frm : Mode
  dest : Mode
  tasks : List Nat := []
  groups : List Nat := []
  until_ : Option MTime := none
deriving DecidableEq, Repr

/-- A cause of SAFE kept in MRAM (R39): its event code and the object it names (a channel, a function, a task, a slot). -/
structure Cause where
  code : Nat
  obj : Nat := 0
deriving DecidableEq, Repr

/-- A firmware slot in flash (R55): whether the image it holds passes its signature check, and its version. -/
structure FwSlot where
  valid : Bool := false
  version : Nat := 0
deriving DecidableEq, Repr

/-- A fault that is open (R50): its function code, the event that names it, its object, the rung it calls for, and the
sequence number of the record that carries the rung once it is written. -/
structure OpenFault where
  fn : Nat
  code : Nat
  obj : Nat := 0
  rung : Nat
  seq : Option Nat := none
deriving DecidableEq, Repr

/-- Modes, start-up, life cycle and recovery (chapter 2). -/
structure ModePart where
  phase : Phase := .off
  mode : Mode := .blank
  prev : Mode := .blank
  at_ : MTime := 0
  cause : Nat := 0
  lifeCycle : LifeCycle := .opened
  trans : Option Trans := none
  /-- A claim application of R465 is outstanding. -/
  applying : Bool := false
  /-- The wait in STOP of the autostart rows of Table 02-6. -/
  autoWait : Bool := false
  /-- Legend 0x10003.0, in MRAM. -/
  lastReq : Nat := 0
  /-- The stored SAFE state, in MRAM (R42). -/
  safeStored : Bool := false
  /-- Kept causes, earliest first, in MRAM (R39). -/
  kept : List Cause := []
  warmCount : Nat := 0
  /-- Legend 0x10011.0: 0 slot A, 1 slot B, 2 recovery. -/
  image : Nat := 0
  slotA : FwSlot := { valid := true }
  slotB : FwSlot := {}
  /-- The slot to start from at the next reset. -/
  slotSel : Nat := 0
  /-- Legend 0x10010: durations of steps 1 to 8, µs. -/
  durations : List Nat := []
  /-- A configuration is held in flash, its identity, and whether it passes its signature check. -/
  cfgHeld : Bool := false
  cfgId : Nat := 0
  /-- The module index the configuration assigns (R28). -/
  modIndex : Nat := 0xFF
  /-- Elements written since the last commit (R54), so that value 1 can discard them. -/
  cfgElems : Table Nat := []
  reinitResult : Nat := 0
  installResult : Nat := 0
  /-- Raw count at which HOLD was entered (R33). -/
  holdSince : Nat := 0
  /-- Open faults in the order in which they called for their rung (R50). -/
  faults : List OpenFault := []
  /-- Rung 1 retries of each function, raw counts, newest first (R49). -/
  retries : Table (List Nat) := []
  /-- Power cycle requested at this raw count (R53), while it is awaited. -/
  pcrqAt : Option Nat := none
deriving DecidableEq, Repr

/-- An event offered to the staging queue (R385). -/
structure Offer where
  code : Nat
  src : Nat := 0
  rung : Nat := 0
  /-- What the event carries, in the order its chapter names it. -/
  args : List Nat := []
  /-- Offered as REPEAT. -/
  rep : Bool := false
  /-- Extension records the data need (R389). -/
  ext : Nat := 0
  /-- Object of the open fault the record belongs to (R50). -/
  obj : Nat := 0
  mt : MTime := 0
  mq : Nat := 0
  mtLast : MTime := 0
  mqLast : Nat := 0
  optime : Nat := 0
  pcyc : Nat := 0
  epoch : Bool := false
deriving DecidableEq, Repr

/-- An event record in MRAM (Table 15-1). An extension record keeps `part` 1 to 3 (R389). -/
structure Rec where
  seq : Nat := 0
  code : Nat := 0
  src : Nat := 0
  rung : Nat := 0
  ext : Nat := 0
  epoch : Bool := false
  torn : Bool := false
  sat : Bool := false
  mqFirst : Nat := 0
  mqLast : Nat := 0
  optime : Nat := 0
  mtFirst : MTime := 0
  mtLast : MTime := 0
  pcyc : Nat := 0
  optLast : Nat := 0
  args : List Nat := []
  part : Nat := 0
  repeats : Nat := 0
  upd : Nat := 0
deriving DecidableEq, Repr

/-- The event recorder (chapter 15). -/
structure RecorderPart where
  /-- Records by slot. -/
  recs : Table Rec := []
  next : Nat := 1
  epochSeq : Nat := 1
  epoch : Nat := 0
  staged : List Offer := []
  dropped : Nat := 0
  /-- Offers dropped since the last record 0xB001: how many, first and last instant with their quality bytes. -/
  dropRun : Nat := 0
  dropFirst : MTime := 0
  dropFirstQ : Nat := 0
  dropLast : MTime := 0
  dropLastQ : Nat := 0
  /-- Merge table (R390), most recently used first: source, code, data, and the sequence number of the record. -/
  merge : List (Nat × Nat × List Nat × Nat) := []
  /-- Merges not yet written to MRAM (R390): slot and the record as merged. -/
  unflushed : Table Rec := []
  /-- Raw count of the last write of merged records. -/
  flushAt : Nat := 0
  wipeLeft : Nat := 0
  ready : Bool := false
  flushing : Bool := false
  ctrl : Nat := 0
  pend : Nat := 0
deriving DecidableEq, Repr

/-- The copies an agent has of the banked registers (R443). -/
structure Bank where
  cenGrpSel : Nat := 0
  legQsel : Nat := 0
  wptSel : Nat := 0
  wptResult : Nat := 0
  wptRec : List Nat := [0, 0, 0, 0, 0, 0, 0, 0]
  /-- 32-bit writes to high registers held for the next low write (R440): address and value. -/
  heldHigh : Table Nat := []
  /-- High halves latched by a read of the low register (R95): address and value. -/
  latchedHigh : Table Nat := []
deriving DecidableEq, Repr

/-- The register interface (chapter 18). -/
structure RegPart where
  ident : Nat := 0
  build : Nat := 0
  fw : Nat := 0
  armed : Bool := false
  window : Bool := false
  errCause : Nat := 0
  errAgent : Nat := 0
  errWrite : Bool := false
  errAlias : Bool := false
  errAddr : Nat := 0
  errCnt : Nat := 0
  /-- The asset tag in MRAM and whether it was written in the present life cycle (R441). -/
  asset : Nat := 0
  assetWritten : Bool := false
  tmrCorr : Nat := 0
  tmrFail : Nat := 0
  /-- Triplicated fields of whose copies no two agree (R446): register offset, and the last voted value. -/
  tmr : Table Nat := []
  snapDoneIe : Bool := false
  snapSeq : Nat := 0
  snapArmed : Bool := false
  snapBusy : Bool := false
  snapRefused : Bool := false
  snapOverrun : Bool := false
  snapAt : Nat := 0
  snapTime : Nat := 0
  /-- The instant an armed snapshot waits for, and M at the tick that took it. -/
  snapDue : MTime := 0
  snapTick : MTime := 0
  /-- Values latched at the snapshot tick, and the holding frames (R444), by register address. -/
  latched : Table Nat := []
  holding : Table Nat := []
  wpCnt : Table Nat := []
  triad : Bank := {}
  cc0 : Bank := {}
  cc1 : Bank := {}
  /-- The three cores have a bus-error interrupt pending (R439). -/
  busIrq : Bool := false
  /-- The end of a copy, while DONE_IE was set, is pending as an interrupt. -/
  snapIrq : Bool := false
deriving DecidableEq, Repr

end Sys2Proof.Machine
end

