-- ==== Sys2Proof/Parts/Cyclic.lean ====
section
/-!
DEFINITION. The parts of the state for tasks and programs (chapter 5), the I/O ring and its heads (chapters 5 and 14), the
control engine (chapter 6) and Contour tables and Sounding (chapter 7).
-/
namespace Sys2Proof.Machine

/-- Task states (Legend 0x21100 .0). -/
inductive TState where
  | unconfigured | waiting | running | frozen | late
deriving DecidableEq, Repr

/-- Codes of Legend 0x21100 .0. -/
def TState.code : TState → Nat
  | .unconfigured => 0 | .waiting => 1 | .running => 2 | .frozen => 3 | .late => 4

/-- Values handed to output stages, with the instant of their release (R131, R132). -/
structure HandOver where
  at_ : MTime
  outs : List OutVal
deriving DecidableEq, Repr

/-- The run state of one task. -/
structure TaskRun where
  state : TState := .unconfigured
  /-- Latch instant C of the current or last cycle, and its freeze instant (R126). -/
  c : MTime := 0
  freeze : MTime := 0
  /-- A cycle has latched its inputs and waits for its freeze. -/
  latched : Bool := false
  /-- The image of the current cycle is frozen, and the records kept since (R127). -/
  frozen : Bool := false
  inset : Table SurveyRec := []
  cycles : Nat := 0
  last : Nat := 0
  max : Nat := 0
  warnings : Nat := 0
  skipped : Nat := 0
  consec : Nat := 0
  /-- The next cycle is a first scan, and the flag of the current cycle (R144). -/
  firstNext : Bool := false
  first : Bool := false
  /-- Output-image channels written and not yet handed over. -/
  written : List OutVal := []
  handed : List HandOver := []
  /-- Write-set entries committed in the cycle (R204, R207). -/
  cycSet : List WEntry := []
  /-- The commit deadline of the current cycle was missed (R135). -/
  missed : Bool := false
  /-- A step shortened the present interval (R137). -/
  stepped : Bool := false
  /-- Frozen at its breakpoint in the middle of a cycle (R145). -/
  atBreak : Bool := false
  /-- Freeze at the end of the current cycle (R145). -/
  freezeAtEnd : Bool := false
  /-- ADMITTED (Table 05-1), ns. -/
  admitted : Nat := 0
  /-- Δ of steps still to be added to its timers' START at the next task-end checkpoint (R100). -/
  stepDelta : Int := 0
  /-- TT of the frozen cycle, while START is to be adjusted at the first cycle after resume (R140). -/
  heldAt : Option MTime := none
  /-- Release instant at which its outputs take their stop values (R36). -/
  stopAt : Option MTime := none
deriving DecidableEq, Repr

/-- Tasks and the program (chapter 5). -/
structure TaskPart where
  runs : Table TaskRun := []
  insts : Table InstState := []
  active : Option Program := none
  staged : Option Program := none
  /-- Single values accepted and not yet in effect: element and value, in arrival order (R147). -/
  singles : List (Nat × Nat) := []
  /-- Values of the single values and constants in effect, by element and by index. -/
  values : Table Nat := []
  consts : Table Nat := []
  /-- Constants batches committed, and the tasks that have yet to take each. -/
  batches : List (List (Nat × Nat) × List Nat) := []
  ctrl : Nat := 0
  pend : Nat := 0
deriving DecidableEq, Repr

/-- Head states (R152). -/
inductive HeadState where
  | present | missing | failSafe
deriving DecidableEq, Repr

/-- Codes of R152. -/
def HeadState.code : HeadState → Nat
  | .present => 0 | .missing => 1 | .failSafe => 2

/-- An I/O head as the module sees it. -/
structure Head where
  state : HeadState := .present
  /-- Consecutive missed cycles (Legend 0x21300 .1). -/
  missed : Nat := 0
  /-- Answered the current collection, acknowledged the current output frame (one bit a direction). -/
  answered : Bool := false
  acked : Bool := false
  /-- Last values the module released to its channels. -/
  outs : Table Nat := []
deriving DecidableEq, Repr

/-- One ring exchange in progress: of the owning task or of a loop group (R151, R156). -/
structure Exchange where
  /-- Task number, or 16 + group. -/
  owner : Nat
  /-- Latch instant. -/
  at_ : MTime
  seq : Nat
  /-- Its collection deadline has passed. -/
  collected : Bool := false
  /-- OUTPUT frame sent: its check instant and which copies returned. -/
  sentOut : Bool := false
  checkAt : MTime := 0
  backA : Bool := false
  backB : Bool := false
  release : MTime := 0
deriving DecidableEq, Repr

/-- The ring (chapters 5 and 14). -/
structure RingPart where
  heads : Table Head := []
  exchanges : List Exchange := []
  seq : Nat := 0
  isOpen : Bool := false
  /-- The position at which the ring is open, as WRAP reports it. -/
  breakA : Nat := 0xFF
deriving DecidableEq, Repr

/-- A loop element change accepted and not yet in effect (R175). -/
structure LoopChange where
  slot : Nat
  elem : Nat
  value : Nat
  at_ : MTime
deriving DecidableEq, Repr

/-- The run state of a loop group. -/
structure GroupRun where
  /-- Latch instant S of the current sample. -/
  s : MTime := 0
  latched : Bool := false
  queued : Bool := false
  /-- Slots still to be evaluated, and new states of those evaluated (R171). -/
  todo : List Nat := []
  done : Table LoopState := []
  staged : Bool := false
  /-- The sample in progress was missed, so its evaluation is discarded (R174). -/
  missedNow : Bool := false
  samples : Nat := 0
  missed : Nat := 0
  finish : Nat := 0
  fG : Nat := 0
  /-- What is due at S + L, by slot: the instant, and 0 a staged value, 1 a missed sample, 2 the stop value (R36). -/
  due : List (Nat × MTime × Nat) := []
deriving DecidableEq, Repr

/-- A table commit waiting for its instant (R191). -/
structure TableCommit where
  table : Nat
  accepted : MTime
  at_ : Option MTime
  copy : CTable
deriving DecidableEq, Repr

/-- The control engine (chapters 6 and 7). -/
structure EnginePart where
  loops : Table LoopState := []
  groups : Table GroupRun := []
  changes : List LoopChange := []
  /-- Acknowledgements accepted and not yet in effect (R198): slot and instant. -/
  acks : List (Nat × MTime) := []
  tables : Table CTable := []
  commits : List TableCommit := []
  admitted : Bool := false
  rate : Nat := 0
  hyper : Nat := 0
  evals : Nat := 0
  missed : Nat := 0
  numeric : Nat := 0
  backlogMax : Nat := 0
  laneMax : Nat := 0
  lastMiss : Nat := 0xFFFFFFFF
  /-- Evaluations queued and not finished (R172). -/
  backlog : Nat := 0
  missSeen : Bool := false
  numSeen : Bool := false
  ctrl : Nat := 0
deriving DecidableEq, Repr

end Sys2Proof.Machine
end

