-- ==== Sys2Proof/Parts/Field.lean ====
section
/-!
DEFINITION. The parts of the state for digital channels (chapter 10), analogue loops and HART (chapter 11) and the safety
group (chapter 12).
-/
namespace Sys2Proof.Machine

/-- One digital channel (R269 to R286). Conditions are the bits of DIO_CHn_STAT (Table 10-9). -/
structure DioChan where
  /-- Raw level after INVERT, debounced state, instant of the last accepted change (R271). -/
  raw : Bool := false
  state : Bool := false
  tChange : MTime := 0
  /-- Raw count of the last raw edge, and whether the present raw level differs from the debounced state. -/
  edgeAt : Option Nat := none
  rejected : Nat := 0
  rejectRun : Nat := 0
  counter : Nat := 0
  clearPending : Bool := false
  cosSeq : Nat := 0
  cosLast : Bool := false
  cosDropped : Nat := 0
  /-- Conditions standing, by detail code of Table 10-4 (SUPPLY and LINK are the group's). -/
  conds : List Nat := []
  latched : Bool := false
  unlatch : Bool := false
  /-- Released command, readback, current in mA. -/
  cmd : Bool := false
  rb : Bool := false
  current : Nat := 0
  /-- Instant of the last release that changed the channel (R277, R282), and the raw count of it. -/
  changedAt : MTime := 0
  changedRaw : Option Nat := none
  /-- Instant of the trip to be retried (R280), as a raw count. -/
  tripAt : Option Nat := none
  /-- Raw counts of the channel's rung 1 retries, and of the last edge pair closer than 1 µs (R273). -/
  tries : List Nat := []
  closeAt : Option Nat := none
  onSince : Nat := 0
  /-- The latched state and counter of the last input-group latch. -/
  latchState : Bool := false
  latchCount : Nat := 0
deriving DecidableEq, Repr

/-- A group of eight channels (R266 to R268). -/
structure DioGroup where
  mv : Nat := 0
  low : Bool := false
  missing : Bool := false
  /-- Raw counts since which the filter has seen the opposite of LOW and of MISSING (R267). -/
  lowAt : Option Nat := none
  missAt : Option Nat := none
  link : Bool := false
deriving DecidableEq, Repr

/-- A pattern run (R285): table, mask, launching slot, instant, next step. -/
structure PatternRun where
  table : Nat
  mask : Nat
  slot : Nat
  at_ : MTime
  next : Nat := 0
deriving DecidableEq, Repr

/-- The digital field die (chapter 10). -/
structure DioPart where
  chans : Table DioChan := []
  groups : Table DioGroup := []
  runs : List PatternRun := []
  /-- Channel configuration as it stands in the registers (DIO_CHn_CFG, DEB, MAXACT). -/
  cfg : Table Nat := []
  deb : Table Nat := []
  maxact : Table Nat := []
  ready : Bool := false
  ctrl : Nat := 0
  cosPend : Nat := 0
deriving DecidableEq, Repr

/-- An analogue input (R290 to R294). -/
structure AiChan where
  code : Nat := 0
  current : F64 := 0
  detail : Nat := 0
  limiterOpen : Bool := false
  openAt : Nat := 0
  /-- Captured readings r4, r20 (R305), REAL64 bits. -/
  r4 : Option F64 := none
  r20 : Option F64 := none
deriving DecidableEq, Repr

/-- An analogue output (R295 to R301). -/
structure AoChan where
  /-- Value released on its command point, REAL64 bits, and the i_cmd it gives, REAL64 mA. -/
  v : F64 := 0
  iCmd : F64 := 0
  dac : Nat := 0
  /-- Readback current REAL64 mA and its code; headroom in mV. -/
  rb : F64 := 0
  rbCode : Nat := 0
  head : Nat := 0
  detail : Nat := 0
  /-- Conditions of Table 11-2 that stand, by detail. -/
  conds : List Nat := []
  lowHead : Bool := false
  highZ : Bool := false
  ds : Nat := 0
  /-- Raw counts since which each detection of Table 11-2 has held, by detail; and has been false. -/
  since : Table Nat := []
  clearSince : Table Nat := []
  /-- The output's nominal response (R296), REAL64 mA. -/
  resp : F64 := 0
  settleUntil : Nat := 0
  /-- Raw count at which the checks resume after the driver left high impedance (R301). -/
  resumeAt : Nat := 0
  d4 : Option F64 := none
  d20 : Option F64 := none
  /-- The point under test command, 4 or 20 mA; 0 none (Table 02-2, R305). -/
  test : Nat := 0
deriving DecidableEq, Repr

/-- States of a HART loop (Table 11-3). -/
inductive HartState where
  | off | connect | cyclic | lost
deriving DecidableEq, Repr

/-- Codes of HART_STATE (Table 11-9). -/
def HartState.code : HartState → Nat
  | .off => 0 | .connect => 1 | .cyclic => 2 | .lost => 3

/-- A loop of a HART master: 2n the AI loop of master n, 2n + 1 its AO loop. -/
structure HartLoop where
  state : HartState := .off
  unanswered : Nat := 0
  /-- A transaction is out: its command, whether it is a pass-through, raw count of sending. -/
  out : Option (Nat × Bool × Nat) := none
  more : Bool := false
  address : Nat := 0
  last : Nat := 0
  malfunction : Bool := false
  /-- Raw count of the last violation record (R252). -/
  violAt : Option Nat := none
deriving DecidableEq, Repr

/-- A HART master (R307 to R310). -/
structure HartMaster where
  turn : Bool := false
  transactions : Nat := 0
  unanswered : Nat := 0
  changed : Nat := 0
  /-- Pass-through request held: loop, command, data. -/
  pass : Option (Nat × Nat × List Byte) := none
  response : List Byte := []
  responses : Nat := 0
  /-- Raw count of the last refresh of each device variable slot. -/
  refreshed : Table Nat := []
deriving DecidableEq, Repr

/-- A faceplate trim in progress (R306): channel (0 to 7 inputs, 8 to 15 outputs), point, entered reading in µA. -/
structure PlateTrim where
  channel : Nat
  point : Nat := 0
  entered : Nat := 0
  lastKey : Nat := 0
deriving DecidableEq, Repr

/-- The analogue field die (chapter 11). -/
structure AioPart where
  ai : Table AiChan := []
  ao : Table AoChan := []
  aiCfg : Table Nat := []
  aoCfg : Table Nat := []
  aoSafe : Table Nat := []
  /-- User trims in MRAM: Z and K, REAL64 bits, by channel (0 to 7 inputs, 8 to 15 outputs). -/
  z : Table Nat := []
  k : Table Nat := []
  link : Bool := false
  ready : Bool := false
  ctrl : Nat := 0
  pend : Nat := 0
  loops : Table HartLoop := []
  masters : Table HartMaster := []
  plate : Option PlateTrim := none
deriving DecidableEq, Repr

/-- A safety input channel (R317, R318). -/
structure SafChan where
  raw : Bool := false
  on : Bool := false
  pulseMissing : Bool := false
  /-- Consecutive frames in which it stayed high through its ignore window. -/
  missRun : Nat := 0
  missCount : Nat := 0
  /-- Raw count since which it has been ON (R333). -/
  onAt : Nat := 0
deriving DecidableEq, Repr

/-- A safety function (Table 12-5). -/
structure SafFn where
  state : Nat := 0
  demand : Bool := false
  /-- OFF demand carried by the triad's last check frame. -/
  triadOff : Bool := false
  t0 : MTime := 0
  t0Raw : Nat := 0
  v0 : Nat := 0
  envelope : Bool := false
  demands : Nat := 0
  /-- Raw count since which v ≤ V_STILL (R331). -/
  stillSince : Option Nat := none
deriving DecidableEq, Repr

/-- A safety output pair (R323 to R325). -/
structure SafPair where
  highClosed : Bool := false
  lowClosed : Bool := false
  permit : Bool := false
  stuckH : Bool := false
  stuckL : Bool := false
  openH : Bool := false
  openL : Bool := false
  /-- The last light test of each switch passed (Table 12-7, SWITCH-OPEN). -/
  passH : Bool := false
  passL : Bool := false
  xshort : Bool := false
  short : Bool := false
  overload : Bool := false
  extDrive : Bool := false
  nhCond : Bool := false
  edmFault : Bool := false
  edmOn : Bool := false
  /-- Enableable by Ep ON for 10 ms (R324). -/
  edmReady : Bool := false
  /-- Raw count of the last energise or de-energise, until Ep has followed. -/
  edmWait : Option Nat := none
  ma : Nat := 0
  lastTest : Nat := 0
  /-- The next switch to be tested: false the high side, true the low side. -/
  testLow : Bool := false
  /-- Enable the duty staged (R335). -/
  stagedEnable : Bool := false
  lastSent : Bool := false
deriving DecidableEq, Repr

/-- A speed axis (R321, R322). -/
structure SafAxis where
  speed : Int := 0
  bad : Bool := false
  phase : Bool := false
  freq : Bool := false
  wire : Bool := false
  disc : Bool := false
  discSince : Option Nat := none
  /-- Fault bits whose cause was present at the last update (R333). -/
  live : Nat := 0
deriving DecidableEq, Repr

/-- The safety group (chapter 12). -/
structure SafetyPart where
  set : Option SafetySet := none
  crc : Nat := 0
  pending : Option SafetySet := none
  pendCrc : Nat := 0
  pendAt : Nat := 0
  activated : MTime := 0
  /-- CRC of the partner's active set as last known (R340). -/
  partnerCrc : Option Nat := none
  chans : Table SafChan := []
  /-- DISCREPANCY latched by input pair; raw count since which the channels disagree. -/
  disc : List Nat := []
  disagree : Table Nat := []
  sources : List Nat := []
  fns : Table SafFn := []
  pairs : Table SafPair := []
  axes : Table SafAxis := []
  link : Bool := false
  divergence : Bool := false
  channelFault : Bool := false
  selfTest : Bool := false
  divRun : Nat := 0
  diverge : Nat := 0
  checks : Nat := 0
  lastCheck : Nat := 0
  frameSeq : Nat := 0
  checkSeq : Nat := 0
  /-- The next sequence number expected of a check frame (R314, R85). -/
  expectSeq : Nat := 0
  resets : Nat := 0
  resetsDiscarded : Nat := 0
  /-- Start of the present test-pulse frame. -/
  frameAt : MTime := 0
  /-- Reset edges seen since the last status frame, by channel. -/
  edges : Nat := 0
  ctrl : Nat := 0
  pend : Nat := 0
  /-- CHn_CFG registers as written. -/
  chCfg : Table Nat := []
  lastEnableSend : Nat := 0
  /-- Raw count since which the function states have differed from the staged enables (R336). -/
  mismatchSince : Option Nat := none
deriving DecidableEq, Repr

end Sys2Proof.Machine
end

