-- ==== Sys2Proof/Parts/Service.lean ====
section
/-!
DEFINITION. The parts of the state for the CAN controllers (chapter 13), the Cartouche (chapter 16), clocks, memory and
power (chapter 17), and the log of what the module's ports sent.
-/
namespace Sys2Proof.Machine

/-- One message object (R349 to R355). -/
structure CanObj where
  outcome : Nat := 0
  pending : Bool := false
  inTx : Bool := false
  /-- Payload to send, and the raw count of its placement. -/
  payload : Nat := 0
  placedAt : Nat := 0
  /-- Attempts ended in error. -/
  attempts : Nat := 0
  /-- A placement held while the object is being transmitted: its payload. -/
  held : Option Nat := none
  overwritten : Nat := 0
  rxStale : Bool := false
  rxBad : Bool := false
  /-- Raw count of the last frame received, and of the configuration. -/
  lastRx : Nat := 0
  frames : Nat := 0
  lastTime : MTime := 0
  failures : Nat := 0
  /-- Raw count of the start of frame of the transmission in progress (R105). -/
  sofAt : Nat := 0
deriving DecidableEq, Repr

/-- One controller. -/
structure CanCtrl where
  ctrl : Nat := 0
  nbt : Nat := 0
  dbt : Nat := 0
  tdc : Nat := 0
  /-- Transmitter delay last measured (R348), in 12.5 ns steps. -/
  tdcMeas : Nat := 0
  flt : Table Nat := []
  tec : Nat := 0
  rec_ : Nat := 0
  lec : Nat := 0
  lecData : Bool := false
  busOff : Bool := false
  passive : Bool := false
  recovering : Bool := false
  idle : Bool := true
  pend : Nat := 0
  ie : Nat := 0
  rxcnt : Nat := 0
  txcnt : Nat := 0
  noMatch : Nat := 0
  busoffs : Nat := 0
  errBit : Nat := 0
  errStuff : Nat := 0
  errForm : Nat := 0
  errAck : Nat := 0
  errCrc : Nat := 0
  /-- Raw count of the last error of the present episode (R358). -/
  episode : Option Nat := none
  /-- Kind of the episode's first error. -/
  episodeLec : Nat := 0
  rxqDrops : Nat := 0
  short : Nat := 0
  objs : Table CanObj := []
deriving DecidableEq, Repr

/-- The CAN controllers (chapter 13). -/
structure CanPart where
  c0 : CanCtrl := {}
  c1 : CanCtrl := {}
  c2 : CanCtrl := {}
  c3 : CanCtrl := {}
  /-- Items in RXQ0, by controller order of arrival. -/
  rxq0 : List (List Byte) := []
  /-- Next sequence numbers of receive-queue items: RXQ0 of controller c at c, triad queue q at 16 + q (R84). -/
  qSeq : Table Nat := []
  /-- Raw count at which the configuration in force took effect. -/
  since : Nat := 0
deriving DecidableEq, Repr

/-- An update of a bistable panel (R401 to R403). -/
structure Update where
  external : Bool
  full : Bool
  band : Nat
  /-- Raw count of its start, and the rows it drives. -/
  at_ : Nat := 0
  first : Nat := 0
  last : Nat := 0
  /-- The frame to show, as it stood when the update started. -/
  frame : Memory := []
deriving DecidableEq, Repr

/-- What the controller keeps of one panel. -/
structure Panel where
  /-- Changed-lines updates since the last full one; band of the last full one; no update yet since power-on. -/
  changed : Nat := 0
  band : Nat := 0
  fresh : Bool := true
  interrupted : Bool := false
  held : Bool := false
deriving DecidableEq, Repr

/-- The Cartouche (chapter 16). -/
structure CartouchePart where
  update : Option Update := none
  fp : Panel := {}
  ext : Panel := {}
  present : Bool := false
  /-- Frames shown on the glass and the scan memory of an LCD: bytes by offset. -/
  shownFp : Memory := []
  shownExt : Memory := []
  scan : Memory := []
  keys : List Nat := []
  /-- Presses read from the queue during an update, which are acted on once it has ended (R399). -/
  late : List Nat := []
  banner : Bool := false
  full : Bool := false
  lp : Bool := false
  ie : Nat := 0
  pend : Nat := 0
  extCfg : Nat := 0
  reserveMv : Nat := 0
  capMf : Nat := 0
  weak : Bool := false
  /-- Faceplate temperature, 0.1 °C, and band. -/
  temp : Int := 0
  band : Nat := 0
  /-- The marker in MRAM (R409). -/
  markSeq : Nat := 0
  markState : Nat := 0
  markPanel : Nat := 0
  markBand : Nat := 0
  markKind : Nat := 0
  foundInterrupted : Bool := false
  lastFirst : Nat := 0
  lastLast : Nat := 0
  page : Nat := 0
  scroll : Nat := 0
  /-- Raw count at which the last faceplate update since the reset began. -/
  lastFp : Option Nat := none
deriving DecidableEq, Repr

/-- One clock source (R416 to R418). -/
structure Source17 where
  running : Bool := false
  ok : Bool := false
  failed : Bool := false
  /-- In its start-up window. -/
  window : Bool := true
  err : Int := 0
deriving DecidableEq, Repr

/-- The clock block (R413 to R422). -/
structure ClockPart where
  root : Nat := 4
  fastRc : Source17 := {}
  slowRc : Source17 := {}
  xa : Source17 := {}
  xb : Source17 := {}
  clkin : Source17 := {}
  aLock : Bool := false
  aCoast : Bool := false
  bLock : Bool := false
  bCoast : Bool := false
  /-- Reference of loop A: 0 XA, 1 XB. -/
  aRef : Nat := 0
  /-- A root switch under way: the new root. -/
  switching : Option Nat := none
  /-- Loop A stays unlocked: the retry limit of R49 was reached. -/
  aStuck : Bool := false
  /-- Raw count at which loop A locked, while the root waits to return to it. -/
  returnFrom : Option Nat := none
  ratioXb : Int := 0
  ratioRc : Int := 0
  switches : Nat := 0
  deadSw : Nat := 0
  ctrl : Nat := 0
  pend : Nat := 0
  trimCode : Nat := 0
  trimRef : Nat := 0
  /-- ppm stepped within the present second while the root runs from the fast RC (R422), in hundredths, and its start. -/
  trimUsed : Nat := 0
  trimAt : Nat := 0
  /-- Source failures that raised the non-maskable event and are not yet taken. -/
  nmi : Bool := false
deriving DecidableEq, Repr

/-- A handover bank (R425). -/
structure Owner where
  owner : Nat
  transferring : Bool := false
deriving DecidableEq, Repr

/-- Memories (R423 to R426): contents by physical address. On-chip bank b lies at b × 0x8_0000 (bank 48 is not mapped),
MRAM and DRAM at the addresses of Table 03-1. The Survey image, loop records, Contour tables, event records and firmware's
own state are kept in their parts. -/
structure MemPart where
  data : Memory := []
  own0 : Owner := { owner := 3 }
  own1 : Owner := { owner := 5 }
  own2 : Owner := { owner := 2 }
  own3 : Owner := { owner := 2 }
  bist : Table Nat := []
  bistPassed : Bool := false
  spares : Bool := false
  tamper : Bool := false
  secureReady : Bool := false
  ctrl : Nat := 0
  pend : Nat := 0
  sramCe : Nat := 0
  sramUe : Nat := 0
  sramAddr : Nat := 0
  dramCe : Nat := 0
  dramUe : Nat := 0
  /-- Words with an uncorrectable error standing, and the raw count of each word's last one (R423). -/
  bad : List Nat := []
  lastUe : Table Nat := []
deriving DecidableEq, Repr

/-- Power (R428 to R433). -/
structure PowerPart where
  ina : Nat := 0
  inb : Nat := 0
  inaOk : Bool := false
  inbOk : Bool := false
  inaIso : Bool := false
  inbIso : Bool := false
  pfail : Bool := false
  holdMv : Nat := 0
  holdCap : Nat := 0
  weak : Bool := false
  pcrq : Bool := false
  pcrqUntil : Nat := 0
  fault : Bool := false
  code : Nat := 5
  pfails : Nat := 0
  inserted : Bool := true
  ctrl : Nat := 0
  pend : Nat := 0
deriving DecidableEq, Repr

/-- What the module put on its ports: kind, and its fields in the order the sending operation names. -/
inductive OutMsg where
  /-- A Legend message: where to, and the bytes of Table 09-5 and its payload. -/
  | legend (dst : Nat × Nat) (bytes : List Byte)
  /-- Status and detail answered to a request that reached the model as a row of its own. -/
  | status (code detail retry : Nat)
  /-- Claim traffic: where to (0 ring, 1 partner, 2 witness, 3 own stages), fields of Table 08-2. -/
  | claim (dst kind station holder claim : Nat) (f : MTime) (seq tag info : Nat)
  /-- A ring frame: KIND of Table 14-5, exchange, instant, claim, repeat. -/
  | ring (kind exch : Nat) (instant : MTime) (claim : Nat) (rep : Bool) (data : List (Nat × Nat))
  | ringSync (origin : MTime) (seq : Nat)
  | ptp (port kind seq : Nat) (t : MTime)
  /-- A copy unit of Table 08-1 by its number, with its owner and instant. -/
  | copy (unit owner : Nat) (t : MTime) (data : List Nat)
  | can (ctrl id : Nat) (data : List Byte)
  | hart (loop command : Nat) (data : List Byte)
  | heartbeat (datum : Nat) (fields : List Nat)
  | heartbeatAck (index : Nat)
  | supervision (port : Nat) (seq : Nat)
  /-- An item for a hardware queue. -/
  | queue (q : Nat) (bytes : List Byte)
  | safety (kind : Nat) (fields : List Nat)
  | plant (port kind : Nat)
  /-- The value a register read returns to an agent. -/
  | busRead (agent addr value : Nat)
  /-- The value a shared read returns to a triad core. -/
  | coreRead (core addr value : Nat)
deriving DecidableEq, Repr

end Sys2Proof.Machine
end

