-- ==== Sys2Proof/Parts/Station.lean ====
section
/-!
DEFINITION. The parts of the state for duty, standby and witness (chapter 8), the networks (chapter 14), and the Legend,
Survey and cascade (chapter 9).
-/
namespace Sys2Proof.Machine

/-- A claim an output stage keeps: number, holder, effective instant, and whether it has come into effect. -/
structure StageClaim where
  claim : Nat := 0
  holder : Nat := 0xFF
  f : MTime := 0
deriving DecidableEq, Repr

/-- What the witness keeps of one station (R215 to R217). -/
structure WitnessStation where
  e : Nat := 0
  holder : Nat := 0xFF
  lastEndorse : MTime := 0
  refusals : Nat := 0
  /-- Raw count at which a renewal of E last arrived, and at which any renewal of the station did. -/
  lastRenew : Option Nat := none
  lastAny : Option Nat := none
  /-- A YIELD of E that is held: its F and whether it is a swap. -/
  yield_ : Option MTime := none
  /-- Watched for 10 µs since WITNESS was entered. -/
  watched : Bool := false
  silent : Bool := false
deriving DecidableEq, Repr

/-- A copy being received: its units and its running count of bytes. -/
structure CopyIn where
  units : List CopyUnit := []
  bytes : List Byte := []
deriving DecidableEq, Repr

/-- A planned transfer (R222). -/
structure Transfer where
  f : MTime
  swap : Bool
deriving DecidableEq, Repr

/-- A value staged for a release instant by the partner, an analogue one in mA (R212), or by an output frame (R210). -/
structure StagedPreset where
  chan : Chan
  value : Nat
  /-- The value of an analogue channel is a current in mA. -/
  ma : Bool := true
  latch : MTime
  release : MTime
deriving DecidableEq, Repr

/-- Duty, standby and witness (chapter 8). -/
structure StationPart where
  /-- 128-bit station key in the secure bank (0: none). -/
  key : Nat := 0
  keyHeld : Bool := false
  /-- Renewal permit: raw count of its last refresh. -/
  permitAt : Option Nat := none
  seq : Nat := 0
  lastRenewM : MTime := 0
  /-- Raw count at which the own claim unit last renewed (R211), and at which a renewal of the partner was received. -/
  ownRenew : Option Nat := none
  peerRenew : Option Nat := none
  lastEcho : Option Nat := none
  lastAck : Option Nat := none
  suspended : Bool := false
  /-- F of the claim this module holds, as its CLAIM carried it: 0 for one effective on receipt. -/
  heldF : MTime := 0
  /-- This module is entitled to renew: it holds the claim (R203). -/
  holds : Bool := false
  renewing : Bool := false
  /-- Own output stages: current claim, previous claim, a claim accepted whose F is still to come (R210). -/
  cur : StageClaim := {}
  prev : StageClaim := {}
  next_ : Option StageClaim := none
  lastChange : MTime := 0
  rejLower : Nat := 0
  rejHolder : Nat := 0
  rejTag : Nat := 0
  rejValue : Nat := 0
  /-- Highest claim of the station this member knows. -/
  highest : Nat := 0
  ready : Bool := false
  /-- A request is outstanding (R214): the claim asked for, F, raw count at which it was last sent. -/
  request : Option (Nat × MTime × Nat) := none
  lapse : Bool := false
  witnessLost : Bool := false
  transfer : Option Transfer := none
  /-- Mode the duty last reported (MODE units). -/
  dutyMode : Nat := 0
  copies : Table CopyIn := []
  nextUnit : Nat := 0
  /-- The sequence number of the next copy this module sends. -/
  copySeq : Nat := 0
  copyDisc : Nat := 0
  copyMax : Nat := 0
  copyAdmitted : Nat := 0
  divergences : Nat := 0
  lagMax : Nat := 0
  /-- Consecutive matching shadows, by task and by 16 + group (R227). -/
  matched : Table Nat := []
  /-- Values staged by the partner (R212), and presets in force by channel key. -/
  staged : List StagedPreset := []
  /-- Resynchronisation (R225): running, regions still flagged (page addresses), pass, bytes remaining, raw count since
  which its page writes have outrun the capacity, raw count at which it may start again. -/
  resync : Bool := false
  pages : List Nat := []
  pass : Nat := 0
  remaining : Nat := 0
  outrunSince : Option Nat := none
  restartAt : Option Nat := none
  /-- Swap (R228): state, new program, old program's outputs for comparison, differences, fresh instances. -/
  swap : Nat := 0
  newProgram : Option Program := none
  swapCycles : Table Nat := []
  swapDiffs : Nat := 0
  fresh : Nat := 0
  /-- The program that shadowed before the swap's mapping. -/
  oldProgram : Option Program := none
  /-- Tasks and 16 + groups whose state here is complete, so that they shadow (R225). -/
  shadowing : List Nat := []
  /-- CHANGE units whose instant is still to come: element, value, instant. -/
  changes : List (Nat × Nat × MTime) := []
  /-- The value and latch instant of the last STAGE unit of each channel. -/
  lastStage : Table (Nat × MTime) := []
  /-- Owners whose remaining pages the duty has still to append (R225). -/
  finishing : List Nat := []
  /-- Raw count of the last resynchronisation pass. -/
  passAt : Nat := 0
  /-- Copy bytes of the present millisecond, and the raw count at which it began. -/
  copyBytes : Nat := 0
  copyAt : Nat := 0
  ctrl : Nat := 0
  pend : Nat := 0
deriving DecidableEq, Repr

/-- The witness (R213 to R217): its stations by record 0 to 15, with the keys it holds for them. -/
structure WitnessPart where
  stations : Table WitnessStation := []
  keys : Table Nat := []
  /-- Raw count at which WITNESS was entered. -/
  since : Nat := 0
deriving DecidableEq, Repr

/-- Counters of an Ethernet port (Table 14-8). -/
structure PortState where
  up : Bool := false
  rxok : Nat := 0
  txok : Nat := 0
  other : Nat := 0
  policed : Nat := 0
  viol : Nat := 0
  aborted : Nat := 0
  dupdisc : Nat := 0
  downs : Nat := 0
  /-- Frames accepted in the present second, by class (Table 14-3), and when that second began. -/
  windows : Table Nat := []
  windowAt : Nat := 0
  icmpReplies : Nat := 0
  /-- Raw count of the last policing drop (R368). -/
  policedAt : Option Nat := none
  /-- Raw count of the last violation record (R252). -/
  violAt : Option Nat := none
deriving DecidableEq, Repr

/-- A lane of the tie link. -/
structure Lane where
  up : Bool := false
  rx : Nat := 0
  /-- Messages handed to the lane. -/
  tx : Nat := 0
  crc : Nat := 0
  downs : Nat := 0
deriving DecidableEq, Repr

/-- The networks (chapter 14). -/
structure NetPart where
  na : PortState := {}
  nb : PortState := {}
  ia : PortState := {}
  ib : PortState := {}
  tl0 : Lane := {}
  tl1 : Lane := {}
  ctrl : Nat := 0
  pend : Nat := 0
  mac : Nat := 0
  /-- PRP and HSR: sequence numbers seen (source and number) with their raw count; node table; own sequence. -/
  seen : List (Nat × Nat × Nat) := []
  nodes : Table Nat := []
  prpSeq : Nat := 0
  lastSup : Nat := 0
  /-- A message being relayed to this member over the tie link (R260), as far as its blocks have come. -/
  relay : List Byte := []
deriving DecidableEq, Repr

/-- An outstanding nonce (R240): its 32 bytes, key slot, raw count of issue. -/
structure Nonce where
  bytes : List Byte
  key : Nat
  at_ : Nat
deriving DecidableEq, Repr

/-- A kept answer (R244). -/
structure Kept where
  reqId : Nat
  bytes : List Byte
  at_ : Nat
deriving DecidableEq, Repr

/-- A session (R238, R239). -/
structure Session where
  /-- 0 free, 1 PROVING, 2 open. -/
  state : Nat := 0
  level : Nat := 0
  id : Nat := 0
  key : Nat := 0xFF
  source : Option Source_ := none
  challenge : List Byte := []
  opened : MTime := 0
  last : MTime := 0
  openedAt : Nat := 0
  lastAt : Nat := 0
  nonces : List Nonce := []
  kept : List Kept := []
  /-- Bucket: level in 400,000,000ths of a unit and raw count of the last refill (R249). -/
  bucket : Nat := 25600000000
  refillAt : Nat := 0
deriving DecidableEq, Repr

/-- A key slot (R237). -/
structure KeySlot where
  pub : Nat := 0
  level : Nat := 0
deriving DecidableEq, Repr

/-- An admission bucket: level in 400,000,000ths of a unit, raw count of the last refill. -/
structure Bucket where
  level : Nat
  at_ : Nat
deriving DecidableEq, Repr

/-- A directory record at the Datum (Table 09-14). -/
structure DirRec where
  state : Nat := 0
  role : Nat := 0
  station : Nat := 0
  partner : Nat := 0xFF
  mode : Nat := 0
  mq : Nat := 0
  ready : Nat := 0
  addr : Nat := 0
  container : Nat := 0
  lastSeen : MTime := 0
  seenAt : Nat := 0
  hashes : List (Nat × Nat) := []
deriving DecidableEq, Repr

/-- A request whose parts were sent to other modules (R260, R262), or relayed to the duty: who asked, the 24 header bytes of the
request, the parts outstanding (target index and positions of its items), and the answers so far by position. -/
structure Forward where
  id : Nat
  source : Source_
  head : List Byte
  parts : List (Nat × List Nat)
  items : List (List Byte)
  at_ : Nat
  /-- Instant of an ATOMIC read. -/
  q : Option MTime := none
  /-- A request sent to every module: one block a module (R262). -/
  cluster : Bool := false
  /-- The whole request went to one module, whose answer is returned as it is. -/
  whole : Bool := false
deriving DecidableEq, Repr

/-- An ATOMIC read waiting for its instant, or holding its inset (R257): the local points with their positions in the request. -/
structure Atomic where
  id : Nat
  source : Source_
  head : List Byte
  q : MTime
  meta_ : Bool
  points : List Nat
  at_ : Nat
  /-- The answer completes a request whose other parts were sent to other modules: its number and the positions. -/
  part : Option (Nat × List Nat) := none
deriving DecidableEq, Repr

/-- A message being reassembled from CAN FD frames (R246). -/
structure Reassembly where
  bytes : List Byte
  counter : Nat
  at_ : Nat
deriving DecidableEq, Repr

/-- A hardware queue (R14, R248): class code, depth, credit, fill, largest fill, refusals. -/
structure HwQueue where
  cls : Nat := 0
  depth : Nat := 0
  credit : Nat := 0
  fill : Nat := 0
  maxFill : Nat := 0
  refusals : Nat := 0
  items : List (List Byte) := []
deriving DecidableEq, Repr

/-- A service (R263). -/
structure Service where
  state : Nat := 0
  last : Nat := 0
  skipped : Nat := 0
  /-- Raw count of the last activation. -/
  lastAt : Nat := 0
deriving DecidableEq, Repr

/-- The Legend server and the cascade (chapter 9). -/
structure LegendPart where
  udpUp : Bool := false
  canUp : Bool := false
  sessions : Table Session := []
  /-- Identities of the sessions that have expired (detail 2 of SESSION, Table 09-7). -/
  expired : List Nat := []
  keys : Table KeySlot := []
  clusterKey : Nat := 0
  /-- Buckets of unopened sources, peers, program and module. -/
  sources : List (Source_ × Bucket) := []
  peers : Table Bucket := []
  program : Bucket := { level := 102400000000, at_ := 0 }
  module : Bucket := { level := 409600000000, at_ := 0 }
  /-- BUSY and MALFORMED answers of each source in the present second (R250, R252): raw count of the second, and counts. -/
  rates : List (Source_ × Nat × Nat × Nat) := []
  busyAt : Option Nat := none
  /-- Raw count of the last violation record of each source (R252). -/
  violRec : List (Source_ × Nat) := []
  admitted : Nat := 0
  busy : Nat := 0
  viol : Nat := 0
  tokenRefused : Nat := 0
  maxAnswer : Nat := 0
  dropped : Nat := 0
  /-- Staging buffer in DRAM: bytes by offset, and highest byte written + 1. -/
  staging : Memory := []
  stagingLen : Nat := 0
  directory : Table DirRec := []
  /-- Index serving as Datum now (Legend 0xA8440.1), and the raw count of its last acknowledgement. -/
  datum : Nat := 0xFF
  datumAck : Nat := 0
  datumLost : Bool := false
  lastBeat : Nat := 0
  forwards : List Forward := []
  atomics : List Atomic := []
  reasm : List ((Nat × Nat) × Reassembly) := []
  nextId : Nat := 0
  queues : Table HwQueue := []
  services : Table Service := []
  /-- The key slot whose token authorises the request now being applied; none between commands (R240). -/
  grant : Option Nat := none
  /-- The item that each queue window shows to the triad. -/
  shown : Table (List Byte) := []
  ctrl : Nat := 0
  pend : Nat := 0
deriving DecidableEq, Repr

/-- The Survey image and its metadata (R254 to R259). -/
structure SurveyPart where
  /-- Records by local point; unlisted records read all zero. -/
  image : Table SurveyRec := []
  points : Table PointMeta := []
  /-- The output channel whose command point a local point is. -/
  cmdPts : List (Nat × Chan) := []
  /-- Active forces in MRAM: how many (R259). -/
  forceCount : Nat := 0
  /-- Points the sweep has still to visit in the present pass: the next local point. -/
  sweepNext : Nat := 0
deriving DecidableEq, Repr

end Sys2Proof.Machine
end

