-- ==== Sys2Proof/Machine/State.lean ====
section
/-!
DEFINITION. The state of one module, the ways a command can stop, and the state before power is applied.
-/
namespace Sys2Proof.Machine

/-- Everything the specification gives one module, and the queue of commands that wait. -/
structure State where
  /-- The commands that are waiting, first in first out. -/
  pending : List Instr := []
  /-- The model's own field: the index of the next free value (Config's opaque functions are applied to it). -/
  freeCtr : Nat := 0
  mode : ModePart := {}
  evr : RecorderPart := {}
  sys : RegPart := {}
  tri : TriadPart := {}
  mer : MeridianPart := {}
  wpt : WaypointPart := {}
  tsk : TaskPart := {}
  ring : RingPart := {}
  cen : EnginePart := {}
  red : StationPart := {}
  wit : WitnessPart := {}
  net : NetPart := {}
  leg : LegendPart := {}
  sur : SurveyPart := {}
  dio : DioPart := {}
  aio : AioPart := {}
  saf : SafetyPart := {}
  can : CanPart := {}
  crt : CartouchePart := {}
  clk : ClockPart := {}
  mem : MemPart := {}
  pwr : PowerPart := {}
  /-- The Legend elements that hold a written value, by element address (R13); an unlisted one holds its default. -/
  elems : Table Nat := []
  /-- What the module put on its ports, newest first. -/
  sent : List OutMsg := []
deriving DecidableEq, Repr

/-- Why a command stops without a next state. -/
inductive Fault where
  /-- The command carries an operand that its row cannot carry (`Instr.wf` is false). Raised by the meanings of the rows
  whose operands are wider than their types' ranges. Safe: no agent of the station can send such a command. -/
  | illFormed
deriving DecidableEq, Repr

/-- Why the model refuses a command. -/
inductive Refusal where
  /-- The row has no meaning yet. Raised by the dispatch alone. Safe. -/
  | notModelled (mnemonic : String)
deriving DecidableEq, Repr

/-- The module before power is applied: every field at the value it has when the supply first reaches 18 V (Table 02-5,
step 1). What lies in flash and MRAM is that of a module that has never been configured (log entries 1 and 2). -/
def State.reset : State := {}

end Sys2Proof.Machine
end

