-- ==== Sys2Proof/Machine/Ops.lean ====
section
/-!
DEFINITION. The operations every chapter shares: time, free values, the element store, events, open faults, retries and the
ports' log.
-/
namespace Sys2Proof.Machine

/-- What a command answers. -/
abbrev Res := Host.Outcome State Fault Refusal

/-- The module runs: step 8 of Table 02-5 was reached and no reset or power-down has come since (R31, R40). -/
def State.up (s : State) : Bool := decide (s.mode.phase = .up)

/-- The effect of a command that only a running module performs; otherwise it does not occur (log entry 7). -/
def whenUp (s : State) (f : State → State) : Res := .next (if s.up then f s else s)

/-! ## Time -/

/-- M in units of 2⁻⁴¹ ns (R92). -/
def State.mExact (s : State) : Int :=
  s.mer.offset * 512 + (s.mer.raw : Int) * 5 * (1099511627776 + s.mer.rho)

/-- M rounded down to whole nanoseconds (R92). -/
def State.now (s : State) : MTime := Int.fdiv s.mExact 2199023255552

/-- Raw counts in a millisecond, a microsecond (R91: 400 MHz). -/
def ticksMs (n : Nat) : Nat := n * 400000
def ticksUs (n : Nat) : Nat := n * 400

/-- At least `n` raw counts have passed since `since`. -/
def State.elapsed (s : State) (since n : Nat) : Bool := decide (since + n ≤ s.mer.raw)

/-- The root runs from anything other than loop A on XA (R419); before the counter starts, CLK_STATUS stands at its reset value. -/
def State.fallback (s : State) : Bool := s.mer.running && decide (s.clk.root ≠ 0)

/-- The Meridian quality byte (Table 04-2). -/
def State.mq (s : State) : Nat :=
  s.mer.state.code + bitAt s.mer.ptpScale 3 + bitAt s.mer.utcValid 4 + bitAt s.fallback 5 + bitAt s.mer.leap 6
    + bitAt s.mer.stepped 7

/-- OFFSET after a change of ρ at this raw count (R92), so that M does not jump: ties to even. -/
def MeridianPart.setRho (m : MeridianPart) (rho : Int) : MeridianPart :=
  { m with rho := rho, offset := m.offset + roundHalfEven ((m.raw : Int) * 5 * (m.rho - rho)) 512 }

/-! ## Free values -/

/-- The next free value's index, and the state that has used it. -/
def State.draw (s : State) : Nat × State := (s.freeCtr, { s with freeCtr := s.freeCtr + 1 })

/-- The 32 little-endian bytes of a random draw. -/
def randomBytes (n : Nat) : List Byte := leBytes 32 (Config.random n).toNat

/-! ## Elements -/

/-- The key of element `n` of Legend entry `e` (R9). -/
def ea (e n : Nat) : Nat := e * 256 + n

/-- The EA of a message or an event: entry in bits 19 to 0, element in bits 27 to 20 (R233). -/
def eaWord (x : Nat) : Nat := x / 256 + x % 256 * 2 ^ 20

/-- The value of an element, `d` where nothing was written. -/
def State.el (s : State) (e n d : Nat) : Nat := Table.get s.elems d (ea e n)

/-- A Boolean element. -/
def State.elB (s : State) (e n : Nat) (d : Bool) : Bool := s.el e n d.toNat != 0

/-- A signed element of `w` bits. -/
def State.elI (s : State) (w e n : Nat) (d : Int) : Int := toSigned w (s.el e n (ofSigned w d))

/-- Write an element. An element listed holds what was written, whatever its default (R464). -/
def State.setEl (s : State) (e n v : Nat) : State := { s with elems := Table.put s.elems (ea e n) v }

/-- Role (Legend 0x50001.0): 0 standalone, 1 station member, 2 witness. -/
def State.role (s : State) : Nat := s.el 0x50001 0 0
/-- A member of a process station. -/
def State.pairMember (s : State) : Bool := s.role == 1
/-- The module's own index (R28); 0xFF where the configuration gives none (log entry 8). -/
def State.modIndex (s : State) : Nat := s.mode.modIndex
/-- Station identity (R216: 0 for a standalone module). -/
def State.station (s : State) : Nat := if s.role == 1 then s.el 0x50001 1 0 else 0
/-- Index of the partner. -/
def State.partner (s : State) : Nat := s.el 0x50001 2 0xFF

/-- A channel declared parallel with the partner's (Legend 0x50002, R212). -/
def State.paralleled (s : State) : Chan → Bool
  | .dio n => s.pairMember && bitOf (s.el 0x50002 0 0) n
  | .ao n => s.pairMember && bitOf (s.el 0x50002 1 0) n
  | _ => false

/-! ## Ports -/

/-- A frame leaves by a port that is up (NET_Pp_TXOK); a message is handed to a lane that is up. -/
def PortState.sends (p : PortState) : PortState := if p.up then { p with txok := satInc 32 p.txok } else p
def Lane.sends (l : Lane) : Lane := if l.up then { l with tx := satInc 32 l.tx } else l

/-- The ports by which a message leaves: NA and NB of the doubly attached node (R366), IA and IB of the ring (R373), or the tie
link (R379, R380), which a Legend message takes under the address 2³². -/
def NetPart.counts (n : NetPart) : OutMsg → NetPart
  | .legend d _ =>
    if d.1 < 2 ^ 32 then { n with na := n.na.sends, nb := n.nb.sends }
    else if d.1 = 2 ^ 32 then { n with tl0 := n.tl0.sends, tl1 := n.tl1.sends } else n
  | .heartbeat _ _ | .heartbeatAck _ => { n with na := n.na.sends, nb := n.nb.sends }
  | .ptp p _ _ _ | .supervision p _ | .plant p _ =>
    match p with
    | 0 => { n with na := n.na.sends } | 1 => { n with nb := n.nb.sends } | 2 => { n with ia := n.ia.sends } | _ => { n with ib := n.ib.sends }
  | .ring _ _ _ _ _ _ | .ringSync _ _ => { n with ia := n.ia.sends, ib := n.ib.sends }
  | .claim d _ _ _ _ _ _ _ _ =>
    if d = 0 then { n with ia := n.ia.sends, ib := n.ib.sends }
    else if d = 3 then n else { n with tl0 := n.tl0.sends, tl1 := n.tl1.sends }
  | .copy _ _ _ _ => { n with tl0 := n.tl0.sends, tl1 := n.tl1.sends }
  | .status _ _ _ | .can _ _ _ | .hart _ _ _ | .queue _ _ | .safety _ _ | .busRead _ _ _ | .coreRead _ _ _ => n

/-- Put a message on its ports. -/
def State.send (s : State) (m : OutMsg) : State := { s with sent := m :: s.sent, net := s.net.counts m }

/-! ## Events (R385, R387, R388) -/

/-- Entries of the staging queue. -/
def evrDepth : Nat := 4096

/-- The record 0xB001 a run of drops leads to (R385). -/
def dropOffer (s : State) : Offer :=
  { code := 0xB001, args := [s.evr.dropRun], mt := s.evr.dropFirst, mq := s.evr.dropFirstQ, mtLast := s.evr.dropLast, mqLast := s.evr.dropLastQ,
    optime := s.mer.opMs, pcyc := s.mer.pcyc }

/-- Set bits of the recorder's pending register. -/
def RecorderPart.raise (r : RecorderPart) (bit : Nat) : RecorderPart := { r with pend := setBit r.pend bit true }

/-- Offer an event; one that finds the queue full is dropped and counted (R385). -/
def State.offer (s : State) (o : Offer) : State :=
  if s.evr.staged.length < evrDepth then { s with evr := { s.evr with staged := s.evr.staged ++ [o] } }
  else
    let r := s.evr
    let r := if r.dropRun = 0 then { r with dropFirst := o.mt, dropFirstQ := o.mq } else r
    { s with evr := { r with dropped := satInc 32 r.dropped, dropRun := satInc 32 r.dropRun, dropLast := o.mt, dropLastQ := o.mq }.raise 2 }

/-- Extension records of an event: its values do not fit into 8 bytes at their own widths, or its table names such records (R389:
the durations of 0x1004, a claim number and an instant, a table and an instant, four trim values). -/
def eventExt (code : Nat) : Nat :=
  match code with
  | 0x1004 | 0x3015 | 0x5001 | 0x5002 | 0x7020 => 1
  | _ => 0

/-- An offer stamped at the staging tick; before the raw counter starts its quality is FREE (R386). -/
def State.stamp (s : State) (code src rung : Nat) (args : List Nat) : Offer :=
  { code := code, src := src, rung := rung, args := args, mt := s.now, mq := if s.mer.running then s.mq else 0, mtLast := s.now,
    mqLast := if s.mer.running then s.mq else 0, ext := eventExt code, optime := s.mer.opMs, pcyc := s.mer.pcyc }

/-- Record an event from a source as FIRST. -/
def State.evS (s : State) (code src : Nat) (args : List Nat) : State := s.offer (s.stamp code src 0 args)

/-- Record an event of the module as FIRST. -/
def State.ev (s : State) (code : Nat) (args : List Nat) : State := s.evS code 0 args

/-- Record an event as REPEAT (R390). -/
def State.evRep (s : State) (code src : Nat) (args : List Nat) : State :=
  s.offer { s.stamp code src 0 args with rep := true }

/-- Record an event with an instant its source fixed (R388). -/
def State.evAt (s : State) (code src : Nat) (t : MTime) (args : List Nat) : State :=
  s.offer { s.stamp code src 0 args with mt := t, mtLast := t }

/-- A claim number, count or flag of an instant as an event argument: 64 bits, two's complement. -/
def i64 (i : Int) : Nat := ofSigned 64 i

/-! ## Open faults (R50) -/

/-- The fault of a function, event and object, if open. -/
def State.openFault? (s : State) (fn code obj : Nat) : Option OpenFault :=
  s.mode.faults.find? (fun f => f.fn == fn && f.code == code && f.obj == obj)

/-- Open a fault that calls for a rung, and record its event with that rung. A fault whose call rises joins the end of the
order in which faults called for their rung. -/
def State.fault (s : State) (fn code obj rung : Nat) (args : List Nat) : State :=
  let o := { s.stamp code fn rung args with obj := obj }
  match s.openFault? fn code obj with
  | none =>
    { s with mode := { s.mode with faults := s.mode.faults ++ [({ fn := fn, code := code, obj := obj, rung := rung } : OpenFault)] } : State }.offer o
  | some f =>
    if f.rung = rung then s.offer o
    else
      let rest := s.mode.faults.filter (fun g => !(g.fn == fn && g.code == code && g.obj == obj))
      { s with mode := { s.mode with faults := rest ++ [({ fn := fn, code := code, obj := obj, rung := rung } : OpenFault)] } }.offer o

/-- The same, offered as REPEAT. -/
def State.faultRep (s : State) (fn code obj rung : Nat) (args : List Nat) : State :=
  let o := { s.stamp code fn rung args with obj := obj, rep := true }
  match s.openFault? fn code obj with
  | none =>
    { s with mode := { s.mode with faults := s.mode.faults ++ [({ fn := fn, code := code, obj := obj, rung := rung } : OpenFault)] } : State }.offer o
  | some _ => s.offer o

/-- Close one fault: its condition has ended. -/
def State.closeFault (s : State) (fn code obj : Nat) : State :=
  { s with mode := { s.mode with faults := s.mode.faults.filter (fun g => !(g.fn == fn && g.code == code && g.obj == obj)) } }

/-- Close every fault of a function (its re-initialisation). -/
def State.closeFn (s : State) (fn : Nat) : State :=
  { s with mode := { s.mode with faults := s.mode.faults.filter (fun g => g.fn != fn) } }

/-- The fault that Legend 0x10030 names: the highest rung, the one that called for it first. -/
def topFault : List OpenFault → Option OpenFault
  | [] => none
  | f :: fs =>
    match topFault fs with
    | none => some f
    | some g => if f.rung < g.rung then some g else some f

/-- Note the sequence number of the record that carries the fault's call (R50). -/
def noteSeq (o : Offer) (q : Nat) : List OpenFault → List OpenFault
  | [] => []
  | f :: fs =>
    (if f.fn = o.src && f.code = o.code && f.obj = o.obj && f.rung = o.rung then { f with seq := some q } else f)
      :: noteSeq o q fs

/-- A write of a word whose uncorrectable error stands restores it, and its fault closes (R423): the words of `n` bytes from
`lo` up. -/
def State.restoreWords (s : State) (lo n : Nat) : State :=
  let hit (a : Nat) : Bool := decide (lo < a + 8) && decide (a < lo + n)
  if s.mem.bad.any hit then
    { s with mem := { s.mem with bad := s.mem.bad.filter (fun a => !hit a) },
             mode := { s.mode with faults := s.mode.faults.filter (fun f => !(f.fn == 0 && f.code == 0xD012 && hit f.obj)) } }
  else s

/-! ## Rung 1 (R49) -/

/-- The limit n and the window W in raw counts. -/
def State.retryN (s : State) : Nat := s.el 0x10031 0 3
def State.retryW (s : State) : Nat := ticksMs (s.el 0x10031 1 10000)

/-- Retries of a function that lie within the window ending now. -/
def State.recentRetries (s : State) (fn : Nat) : List Nat :=
  (Table.get s.mode.retries [] fn).filter (fun t => decide (s.mer.raw < t + s.retryW))

/-- One more retry keeps within the limit of n in any window W. -/
def State.retryFree (s : State) (fn : Nat) : Bool := decide ((s.recentRetries fn).length < s.retryN)

/-- Count a retry. -/
def State.countRetry (s : State) (fn : Nat) : State :=
  { s with mode := { s.mode with retries := Table.set s.mode.retries [] fn (s.mer.raw :: s.recentRetries fn) } }

/-- Clear the retry count of a function (a successful rung 2). -/
def State.clearRetries (s : State) (fn : Nat) : State :=
  { s with mode := { s.mode with retries := Table.erase s.mode.retries fn } }

/-- The retry is not performed: the fault calls for rung 2 and event 0x100A records it (R49, R50). The fault that called for
rung 1 is the one whose call rises, so it is replaced by this one. -/
def State.retryLimit (s : State) (fn code obj : Nat) : State :=
  (s.closeFault fn code obj).fault fn 0x100A obj 2 [fn]

/-! ## Lists and tables -/

/-- The numbers 0 to n − 1. -/
def upto (n : Nat) : List Nat := List.range n

/-- Fold a state change over a list. -/
def State.each {α : Type} (s : State) (l : List α) (f : State → α → State) : State := l.foldl f s

end Sys2Proof.Machine
end

