-- ==== Sys2Proof/Machine/SurveyOps.lean ====
section
/-!
DEFINITION. Writing and reading the Survey image (R12, R13, R18, R127, R254, R255, R259).
-/
namespace Sys2Proof.Machine

/-- Quality codes of Table 00-5. -/
def qBad : Nat := 0
def qStale : Nat := 1
def qUncertain : Nat := 2
def qSubstituted : Nat := 3
def qForced : Nat := 4
def qGood : Nat := 5

/-- The quality code of a quality byte; the codes 6 and 7 are treated as BAD (R13). -/
def qCode (q : Nat) : Nat := if 5 < q % 8 then 0 else q % 8

/-- The lower of two quality codes (R13). -/
def qMin (a b : Nat) : Nat := if qCode b < qCode a then qCode b else qCode a

/-- A point is configured (R256). -/
def State.configured (s : State) (p : Nat) : Bool := (Table.find s.sur.points p).isSome

/-- Metadata of a point. -/
def State.pointMeta (s : State) (p : Nat) : PointMeta := Table.get s.sur.points {} p

/-- Points written by a writer (R19, Table 09-13). -/
def State.pointsOf (s : State) (kind id : Nat) : List (Nat × PointMeta) :=
  s.sur.points.filter (fun x => x.2.kind == kind && x.2.writer == id)

/-- The record of a point; one never written reads all zero (R12). -/
def State.record (s : State) (p : Nat) : SurveyRec := Table.get s.sur.image {} p

/-- The active forces: slot and local point (R259). -/
def State.forces (s : State) : List (Nat × Nat) :=
  ((s.elems.filter (fun x => decide (ea 0xA8300 0 ≤ x.1) && decide (x.1 < ea 0xA8400 0) && x.1 % 256 == 2 && x.2 != 0)).map
    (fun x => (x.1 / 256 - 0xA8300, s.el (x.1 / 256) 0 0)))

/-- The value a point is forced to. -/
def State.forceOf (s : State) (p : Nat) : Option Nat :=
  (s.forces.find? (fun x => x.2 == p)).map (fun x => s.el (0xA8300 + x.1) 1 0)

/-- The points of a task's input set (R127). -/
def State.inputSet (s : State) (t : Nat) : List Nat :=
  match s.tsk.active with
  | some p => ((p.inputs.find? (fun x => x.1 == t)).map (·.2)).getD []
  | none => []

/-- Keep the frozen record of a point in the inset of every task whose image is frozen and lists it (R127). -/
def State.keepInsets (s : State) (p : Nat) : State :=
  { s with tsk := { s.tsk with runs := s.tsk.runs.map (fun x =>
      if x.2.frozen && (s.inputSet x.1).contains p && (Table.find x.2.inset p).isNone
      then (x.1, { x.2 with inset := Table.put x.2.inset p (s.record p) }) else x) } }

/-- AGE of a value that belongs to an instant (Table 09-12). -/
def ageOf (t : MTime) : Nat := ofSigned 24 (Int.fdiv t 1000)

/-- Write all 16 bytes of a record (R18): the value and quality of the point's writer, unless a force stands (R259). -/
def State.surveyWrite (s : State) (p value quality flags : Nat) (t : MTime) : State :=
  if s.configured p then
    let s := s.keepInsets p
    let old := s.record p
    let vq := match s.forceOf p with | some v => (v, qForced) | none => (value, quality)
    let r : SurveyRec :=
      { value := vq.1 % 2 ^ 64, quality := vq.2 % 256, age := ageOf t, flags := flags % 65536,
        seq := (old.seq + 1) % 32768, old := false }
    ({ s with sur := { s.sur with image := Table.set s.sur.image {} p r } } : State).restoreWords (16 * p) 16
  else s

/-- Rewrite a point with its last value and another quality: the value still belongs to its instant. -/
def State.requalifyPoint (s : State) (p quality : Nat) : State :=
  let r := s.record p
  s.surveyWrite p r.value quality r.flags (1000 * (r.age : Int))

/-- The value of a REAL32 point, 32 bits in bytes 0 to 3 (R254). -/
def real32 (x : F64) : Nat := (F64.narrow x).toNat

/-- The age of a record in µs, modulo 2²⁴ (R255). -/
def State.age (s : State) (r : SurveyRec) : Nat := (ageOf s.now + 16777216 - r.age) % 16777216

end Sys2Proof.Machine
end

