-- ==== Sys2Proof/Machine/AioOps.lean ====
section
/-!
DEFINITION. The analogue channels' shared operations: scaling, trims, bands, release, checks (R290 to R302).
-/
namespace Sys2Proof.Machine

def State.aiCh (s : State) (n : Nat) : AiChan := Table.get s.aio.ai {} n
def State.aoCh (s : State) (n : Nat) : AoChan := Table.get s.aio.ao {} n
def State.updAi (s : State) (n : Nat) (f : AiChan → AiChan) : State :=
  { s with aio := { s.aio with ai := Table.upd s.aio.ai {} n f } }
def State.updAo (s : State) (n : Nat) (f : AoChan → AoChan) : State :=
  { s with aio := { s.aio with ao := Table.upd s.aio.ao {} n f } }

/-- AIO_AIn_CFG and AIO_AOn_CFG as the registers hold them (resets of Tables 11-7 and 11-8). -/
def State.aiCfg (s : State) (n : Nat) : Nat := Table.get s.aio.aiCfg 0 n
def State.aoCfg (s : State) (n : Nat) : Nat := Table.get s.aio.aoCfg 0x1000 n

/-- A REAL32 element, widened. -/
def State.elF (s : State) (e n : Nat) (d : F64) : F64 :=
  match Table.find s.elems (ea e n) with
  | some v => F32.widen (BitVec.ofNat 32 v)
  | none => d

def f64 (n d : Int) : F64 := F64.ofRatio n d

/-- ENG_LO and ENG_HI of input or output `n` (R292: defaults 4 and 20). -/
def State.aiLo (s : State) (n : Nat) : F64 := s.elF (0x70100 + n) 1 (F64.ofInt 4)
def State.aiHi (s : State) (n : Nat) : F64 := s.elF (0x70100 + n) 2 (F64.ofInt 20)
def State.aoLo (s : State) (n : Nat) : F64 := s.elF (0x70300 + n) 1 (F64.ofInt 4)
def State.aoHi (s : State) (n : Nat) : F64 := s.elF (0x70300 + n) 2 (F64.ofInt 20)

/-- The user trim of a channel: 0 to 7 inputs, 8 to 15 outputs (Z = 0, K = 1 at first). -/
def State.trimZ (s : State) (c : Nat) : F64 := BitVec.ofNat 64 (Table.get s.aio.z 0 c)
def State.trimK (s : State) (c : Nat) : F64 := BitVec.ofNat 64 (Table.get s.aio.k F64.one.toNat c)

/-- Engineering value of a current in mA (R292). -/
def engOf (lo hi i : F64) : F64 :=
  F64.add lo (F64.div (F64.mul (F64.sub i (F64.ofInt 4)) (F64.sub hi lo)) (F64.ofInt 16))

/-- Requested current of an engineering value, before the limits (R295, R299). -/
def requestedMa (lo hi v : F64) : F64 :=
  F64.add (F64.ofInt 4) (F64.div (F64.mul (F64.ofInt 16) (F64.sub v lo)) (F64.sub hi lo))

/-- Trimmed input current of a result code (R290, R304): the LSB is 25 mA / 2¹⁸. -/
def State.aiCurrent (s : State) (n code : Nat) : F64 :=
  F64.mul (s.trimK n) (F64.sub (f64 (25 * (code % 262144 : Nat)) 262144) (s.trimZ n))

/-- The bands of Table 11-1 in rising order of current, by detail, with the boundary above each, in hundredths of a mA. -/
def bands : List (Nat × Int) := [(5, 50), (3, 360), (1, 380), (0, 2050), (2, 2100)]

/-- The band of a current, by detail: a boundary of `margin` hundredths of mA past the nominal one, on the side away from
the present band (R293). `past` says that the present band lies at or below the boundary. -/
def bandUp (i : F64) (m : Int) : List (Nat × Int) → Nat
  | [] => 4
  | (d, b) :: rest =>
    let x := f64 (b + m) 100
    -- the boundaries 0.5, 3.6 and 3.8 belong to the band above them, 20.5 and 21.0 to the band below
    if (if b < 1000 then F64.lt i x else F64.le i x) then d else bandUp i m rest

/-- Rank of a detail in rising order of current. -/
def bandRank : Nat → Nat
  | 5 => 0 | 3 => 1 | 1 => 2 | 0 => 3 | 2 => 4 | _ => 5

/-- Classification with the 0.02 mA rule of R293: moving up, boundaries count 0.02 mA later; moving down, 0.02 mA earlier. -/
def classify (prev : Nat) (i : F64) : Nat :=
  if 5 < prev then bandUp i 0 bands else
  let up := bandUp i 2 bands
  let down := bandUp i (-2) bands
  if bandRank prev < bandRank up then up else if bandRank down < bandRank prev then down else prev

/-- Quality of an input by detail (Table 11-1). -/
def aiQuality : Nat → Nat
  | 0 => qGood
  | 1 | 2 => qUncertain
  | _ => qBad

/-- Raise a bit of AIO_PEND. -/
def State.aioPend (s : State) (b : Nat) : State := { s with aio := { s.aio with pend := setBit s.aio.pend b true } }

/-- An input's detail as its point shows it. -/
def State.aiDetail (s : State) (n : Nat) : Nat := if s.aio.link then (s.aiCh n).detail else 7

/-- Write an input's point (R291, R292). -/
def State.writeAi (s : State) (n : Nat) (t : MTime) : State :=
  let d := s.aiDetail n
  let i := if (s.aiCh n).limiterOpen then F64.zero else (s.aiCh n).current
  s.each (s.pointsOf 1 (0x100 + n)) (fun s x =>
    s.surveyWrite x.1 (real32 (engOf (s.aiLo n) (s.aiHi n) i)) (aiQuality d + 8 * d) 0 t)

/-- A stage of a paralleled output whose member does not hold the claim (R301). -/
def State.aoIdleParallel (s : State) (n : Nat) : Bool := s.paralleled (.ao n) && !s.red.holds

/-- The detail an output's readback point shows: the first row of Table 11-2 that holds. -/
def State.aoDetail (s : State) (n : Nat) : Nat :=
  if !s.aio.link then 5 else if s.aoIdleParallel n then 0 else
  let c := (s.aoCh n).conds
  if c.contains 4 then 4 else if c.contains 2 then 2 else if c.contains 1 then 1 else if c.contains 3 then 3 else 0

/-- Quality of an output by detail (Table 11-2). -/
def aoQuality : Nat → Nat
  | 0 => qGood
  | 1 => qUncertain
  | _ => qBad

/-- Write an output's readback point (R300). -/
def State.writeAoRb (s : State) (n : Nat) : State :=
  let d := s.aoDetail n
  s.each (s.pointsOf 1 (0x200 + n)) (fun s x =>
    s.surveyWrite x.1 (real32 (engOf (s.aoLo n) (s.aoHi n) (s.aoCh n).rb)) (aoQuality d + 8 * d) 0 s.now)

/-- The DAC code of a commanded current: K × (i_cmd − Z), LSB 24 mA / 2¹⁶ (R295, R304). -/
def State.dacCode (s : State) (n : Nat) (i : F64) : Nat :=
  let d := F64.mul (s.trimK (8 + n)) (F64.sub i (s.trimZ (8 + n)))
  let c := F64.nearest (F64.div (F64.mul d (F64.ofInt 65536)) (F64.ofInt 24))
  (clampI c 0 65535).toNat

/-- Settling time of R296 in raw counts. -/
def State.aoSettle (s : State) (n : Nat) : Nat := if bitOf (s.aoCfg n) 1 then ticksMs 40 else ticksUs 50

/-- Drive a current: the DAC takes its code, and the nominal response starts. -/
def State.driveAo (s : State) (n : Nat) (i : F64) : State :=
  let hz := s.aoIdleParallel n || !(!s.pairMember || s.red.ownRenew.isSome)
  let code := s.dacCode n i
  let u := s.mer.raw + s.aoSettle n
  s.updAo n (fun c =>
    { c with iCmd := i, dac := code, highZ := hz, resp := if hz then F64.zero else i,
             settleUntil := if c.iCmd = i && c.highZ == hz then c.settleUntil else u,
             resumeAt := if c.highZ && !hz then u else c.resumeAt })

/-- The sign the stage reports to the control engine (R299): 1 DS_HI, 2 DS_LO, 0 none. Delivered and requested belong to
the value that was released until now (log entry 10). -/
def State.aoSign (s : State) (n : Nat) : Nat :=
  if s.aoIdleParallel n then 0 else
  let c := s.aoCh n
  let diff := F64.sub c.rb (requestedMa (s.aoLo n) (s.aoHi n) c.v)
  let tol := f64 5 100
  let rev := F64.lt (s.aoHi n) (s.aoLo n)
  if F64.lt diff (F64.neg tol) then (if rev then 2 else 1)
  else if F64.lt tol diff then (if rev then 1 else 2) else 0

/-- i_cmd of a value (R295). -/
def State.aoCommand (s : State) (n : Nat) (v : F64) : F64 :=
  F64.clamp (requestedMa (s.aoLo n) (s.aoHi n) v) (s.elF (0x70300 + n) 3 (f64 38 10)) (s.elF (0x70300 + n) 4 (f64 205 10))

/-- Release a value on an output (R295, R296, R299). -/
def State.releaseAo (s : State) (n : Nat) (v : F64) : State :=
  if bitOf (s.aoCfg n) 0 then
    let sign := s.aoSign n
    let s := s.updAo n (fun c => { c with v := v, ds := sign })
    s.driveAo n (s.aoCommand n v)
  else s

/-- STOP_VAL or SAFE_VAL as a current (R302); none holds. The configured currents stand in AIO_AOn_SAFE, in µA. -/
def aoIdleVal (sel cfgUa : Nat) : Option F64 :=
  match sel with
  | 1 => some F64.zero
  | 2 => some (f64 36 10)
  | 3 => some (F64.ofInt 21)
  | 4 => some (f64 cfgUa 1000)
  | _ => none

/-- The current an output takes where tasks and loops do not command it (Table 02-2, R302). -/
def State.aoIdle (s : State) (m : Mode) (n : Nat) : Option F64 :=
  match m with
  | .stop => aoIdleVal (field (s.aoCfg n) 11 9) (field (Table.get s.aio.aoSafe 0 n) 15 0)
  | .safe => aoIdleVal (field (s.aoCfg n) 14 12) (field (Table.get s.aio.aoSafe 0 n) 31 16)
  | .run | .hold => none
  | _ => some F64.zero

/-- The checks of Table 11-2 are suspended: on a paralleled output of a member without the claim, and while it settles after
the driver has left high impedance (R301). -/
def State.aoSuspended (s : State) (n : Nat) : Bool := s.aoIdleParallel n || decide (s.mer.raw < (s.aoCh n).resumeAt)

/-- Give an output its current for a mode; a preset on a paralleled non-holder stays in the DAC (R301). -/
def State.idleAo (s : State) (m : Mode) (n : Nat) : State :=
  if bitOf (s.aoCfg n) 0 then
    let s := if m = .service then s else s.updAo n (fun c => { c with test := 0 })
    match s.aoIdle m n with
    | some i => s.driveAo n i
    | none => s
  else s

/-- A condition's detection over time: it sets after `h` raw counts true and clears after `c` raw counts false. -/
def State.aoDetect (s : State) (n d : Nat) (b : Bool) (h c : Nat) : State :=
  let ch := s.aoCh n
  if b then
    let t := (Table.find ch.since d).getD s.mer.raw
    s.updAo n (fun x => { x with since := Table.put x.since d t, clearSince := Table.erase x.clearSince d,
                                 conds := if t + h ≤ s.mer.raw && !x.conds.contains d then x.conds ++ [d] else x.conds })
  else
    let t := (Table.find ch.clearSince d).getD s.mer.raw
    if ch.conds.contains d then
      if t + c ≤ s.mer.raw then
        s.updAo n (fun x => { x with since := Table.erase x.since d, clearSince := Table.erase x.clearSince d,
                                     conds := x.conds.filter (· != d) })
      else s.updAo n (fun x => { x with since := Table.erase x.since d, clearSince := Table.put x.clearSince d t })
    else s.updAo n (fun x => { x with since := Table.erase x.since d, clearSince := Table.erase x.clearSince d })

/-! ## HART loops -/

def State.hartLoop (s : State) (l : Nat) : HartLoop := Table.get s.aio.loops {} l
def State.hartMaster (s : State) (m : Nat) : HartMaster := Table.get s.aio.masters {} m
def State.updLoopH (s : State) (l : Nat) (f : HartLoop → HartLoop) : State :=
  { s with aio := { s.aio with loops := Table.upd s.aio.loops {} l f } }
def State.updMaster (s : State) (m : Nat) (f : HartMaster → HartMaster) : State :=
  { s with aio := { s.aio with masters := Table.upd s.aio.masters {} m f } }

/-- Configuration register of a loop: 2n the AI n loop, 2n + 1 the AO n loop. -/
def State.hartCfg (s : State) (l : Nat) : Nat := if l % 2 = 0 then s.aiCfg (l / 2) else s.aoCfg (l / 2)

/-- The loop is enabled: its HART_EN, and the alternation setting (0 both, 1 AI only, 2 AO only). -/
def State.hartOn (s : State) (l : Nat) : Bool :=
  let alt := s.el (0x70700 + l / 2) 2 0
  bitOf (s.hartCfg l) 1 && (alt == 0 || (alt == 1 && l % 2 == 0) || (alt == 2 && l % 2 == 1))

/-- HART_STATE of a loop (Table 11-9): off where HART is not enabled on it. -/
def State.hartShown (s : State) (l : Nat) : Nat := if s.hartOn l then (s.hartLoop l).state.code else 0

end Sys2Proof.Machine
end

