-- ==== Sys2Proof/Machine/DioOps.lean ====
section
/-!
DEFINITION. The digital channels' shared operations: configuration, command, readback, quality, points (R269 to R286).
-/
namespace Sys2Proof.Machine

/-- DIO_CHn_CFG, D in µs, MAX_ACTIVE in ms as the registers hold them (R287). -/
def State.dioCfg (s : State) (n : Nat) : Nat := Table.get s.dio.cfg 0 n
def State.dioDeb (s : State) (n : Nat) : Nat := Table.get s.dio.deb 1 n
def State.dioMaxact (s : State) (n : Nat) : Nat := Table.get s.dio.maxact 0 n

/-- MODE of Table 10-1. -/
def State.dioMode (s : State) (n : Nat) : Nat := field (s.dioCfg n) 2 0

/-- A channel, a group. -/
def State.dioCh (s : State) (n : Nat) : DioChan := Table.get s.dio.chans {} n
def State.dioGrp (s : State) (g : Nat) : DioGroup := Table.get s.dio.groups {} g

/-- Change a channel, a group. -/
def State.updDio (s : State) (n : Nat) (f : DioChan → DioChan) : State :=
  { s with dio := { s.dio with chans := Table.upd s.dio.chans {} n f } }
def State.updGrp (s : State) (g : Nat) (f : DioGroup → DioGroup) : State :=
  { s with dio := { s.dio with groups := Table.upd s.dio.groups {} g f } }

/-- The function code of a channel's group (Table 02-10). -/
def grpFn (n : Nat) : Nat := 0x0400 + n / 8

/-- The channel that holds the command of `n`: the even channel of a pair. -/
def State.dioBase (s : State) (n : Nat) : Nat := if s.dioMode n = 3 then n - n % 2 else n

/-- The channels switched together with `n` (R279). -/
def State.dioUnit (s : State) (n : Nat) : List Nat :=
  if s.dioMode n = 3 then [n - n % 2, n - n % 2 + 1] else [n]

/-- An output of any kind. -/
def State.dioIsOut (s : State) (n : Nat) : Bool := let m := s.dioMode n; m == 2 || m == 3 || m == 4

/-- A member's own claim unit renews its stages (R211); a standalone module needs no gate. -/
def State.stagesOpen (s : State) : Bool := !s.pairMember || s.red.ownRenew.isSome

/-- The output switch of channel `n` is closed: commanded on, not latched off, and its claim watchdog fed. -/
def State.dioDrive (s : State) (n : Nat) : Bool :=
  s.dioIsOut n && (s.dioCh (s.dioBase n)).cmd && !(s.dioUnit n).any (fun k => (s.dioCh k).latched) && s.stagesOpen

/-- Readback checks apply: on a member, a paralleled channel is checked only while the member holds the claim (R284). -/
def State.dioChecked (s : State) (n : Nat) : Bool := !s.paralleled (.dio n) || s.red.holds

/-- The lowest quality, and on a tie the lowest detail (R286), as a quality byte. -/
def worstQuality : List (Nat × Nat) → Nat
  | [] => qGood
  | (q, d) :: rest =>
    let w := worstQuality rest
    if w = qGood || q < w % 8 || (q == w % 8 && d < w / 8) then q + 8 * d else w

/-- Quality of an output's readback by detail (Table 10-4). -/
def outQuality : Nat → Option Nat
  | 1 | 2 | 3 | 4 | 5 | 12 | 13 => some qBad
  | 6 | 8 | 11 => some qUncertain
  | _ => none

/-- Quality of an input's state by detail; SUPPLY conditions count where SUPPLY_DEP is set. -/
def stateQuality (dep : Bool) : Nat → Option Nat
  | 7 | 13 => some qBad
  | 9 | 10 => some qUncertain
  | 11 => if dep then some qUncertain else none
  | 12 => if dep then some qBad else none
  | _ => none

/-- Quality of an input's counter by detail. -/
def countQuality (dep : Bool) : Nat → Option Nat
  | 7 | 13 => some qBad
  | 14 => some qUncertain
  | 11 => if dep then some qUncertain else none
  | 12 => if dep then some qBad else none
  | _ => none

/-- The conditions that stand for a channel, those of its group among them. -/
def State.dioConds (s : State) (n : Nat) : List Nat :=
  let g := s.dioGrp (n / 8)
  (s.dioCh n).conds ++ (if g.low then [11] else []) ++ (if g.missing then [12] else []) ++ (if g.link then [] else [13])

/-- A quality byte from the details that stand. -/
def qualityOf (f : Nat → Option Nat) (l : List Nat) : Nat :=
  worstQuality (l.filterMap (fun d => (f d).map (fun q => (q, d))))

/-- Write the readback point of an output: the readback of `n`, of a pair with the state of both in FLAGS bits 0 and 1
(log entry 9). -/
def State.writeReadback (s : State) (n : Nat) : State :=
  let b := s.dioBase n
  let u := s.dioUnit n
  let q := qualityOf outQuality (u.flatMap s.dioConds)
  let flags := if s.dioMode n = 3 then packBits (u.map (fun k => (s.dioCh k).rb)) else 0
  s.each (s.pointsOf 1 b) (fun s x => s.surveyWrite x.1 (s.dioCh b).rb.toNat q flags s.now)

/-- Write the state point (BOOL) and the counter point (UINT32) of an input from its last latch. -/
def State.writeInput (s : State) (n : Nat) (t : MTime) : State :=
  let dep := bitOf (s.dioCfg n) 13
  let c := s.dioCh n
  let l := s.dioConds n
  s.each (s.pointsOf 1 n) (fun s x =>
    if x.2.vtype = 6 then s.surveyWrite x.1 c.latchState.toNat (qualityOf (stateQuality dep) l) 0 t
    else if field (s.dioCfg n) 4 3 ≠ 0 then s.surveyWrite x.1 c.latchCount (qualityOf (countQuality dep) l) 0 t
    else s)

/-- The points of an input take the qualities of the conditions that stand; their values still belong to the last latch. -/
def State.requalifyInput (s : State) (n : Nat) : State :=
  let dep := bitOf (s.dioCfg n) 13
  let l := s.dioConds n
  s.each (s.pointsOf 1 n) (fun s x =>
    if x.2.vtype = 6 then s.requalifyPoint x.1 (qualityOf (stateQuality dep) l)
    else if field (s.dioCfg n) 4 3 ≠ 0 then s.requalifyPoint x.1 (qualityOf (countQuality dep) l)
    else s)

/-- Write the points of a channel whose conditions have changed. -/
def State.writeDio (s : State) (n : Nat) : State :=
  if s.dioIsOut n then s.writeReadback n else if s.dioMode n = 1 then s.requalifyInput n else s

/-- Latch an input channel: the debounced state and the counter as they stand; a counter clear that is pending takes
effect (R271, R273). A standby latches no field input (R24). -/
def State.latchDio (s : State) (n : Nat) : State :=
  if s.dioMode n = 1 && decide (s.mode.mode ≠ .standby) then
    let s := s.updDio n (fun c =>
      let cnt := if c.clearPending then 0 else c.counter
      { c with latchState := c.state, latchCount := cnt, counter := cnt, clearPending := false })
    s.writeInput n s.now
  else s

/-- Raise the die's interrupt condition for a new output or supply condition (Table 10-7): it has no pending bit of its own. -/
def State.setCond (s : State) (n d : Nat) (on : Bool) : State :=
  s.updDio n (fun c =>
    { c with conds := if on then (if c.conds.contains d then c.conds else c.conds ++ [d]) else c.conds.filter (· != d) })

/-- The readback follows the switch (R277), and the readback point is written. -/
def State.settleReadback (s : State) (n : Nat) : State :=
  let d := s.dioDrive n
  let s := (s.dioUnit n).foldl (fun s k => s.updDio k (fun c => { c with rb := d })) s
  s.writeReadback n

/-- Unlatch a channel at its release instant (R283): its latching conditions end. -/
def State.doUnlatch (s : State) (n : Nat) : State :=
  if (s.dioCh n).unlatch then
    let was := (s.dioCh n).latched
    let s := s.updDio n (fun c =>
      { c with unlatch := false, latched := false, tripAt := none, conds := c.conds.filter (fun d => d != 2 && d != 3 && d != 4) })
    if was then ((((s.closeFault (grpFn n) 0x6003 n).closeFault (grpFn n) 0x6004 n).closeFault (grpFn n) 0x6005 n).closeFault
      (grpFn n) 0x100A n).evS 0x6011 (grpFn n) [n] else s
  else s

/-- Release a command to an output (R277): a pending unlatch takes effect, a command to on ends EXTERNAL-DRIVE (R281), the switch
follows, the readback settles. -/
def State.releaseDio (s : State) (n : Nat) (v : Bool) : State :=
  if s.dioIsOut n then
    let b := s.dioBase n
    let s := (s.dioUnit n).foldl State.doUnlatch s
    let s := if (s.dioCh b).cmd = v then s
      else (s.dioUnit n).foldl (fun s k => s.updDio k (fun c =>
        { c with changedAt := s.now, changedRaw := some s.mer.raw, onSince := if v then s.mer.raw else c.onSince })) s
    let s := s.updDio b (fun c => { c with cmd := v })
    let s := if v then (s.dioUnit n).foldl (fun s k => s.setCond k 1 false) s else s
    s.settleReadback n
  else s

/-- The value a channel takes where tasks and loops do not command it (R278, Table 02-2): none leaves it as it is. -/
def State.dioIdle (s : State) (m : Mode) (n : Nat) : Option Bool :=
  match m with
  | .stop => match field (s.dioCfg n) 11 10 with | 0 => some false | 1 => some true | _ => none
  | .safe => some (bitOf (s.dioCfg n) 12)
  | .run | .hold => none
  | _ => some false

/-- Give a channel its value for a mode. -/
def State.idleDio (s : State) (m : Mode) (n : Nat) : State :=
  if s.dioIsOut n && s.dioBase n == n then
    match s.dioIdle m n with
    | some v => s.releaseDio n v
    | none => s
  else s

/-- Latch a channel (and its pair) off with a condition. -/
def State.latchOff (s : State) (n d : Nat) : State :=
  let s := (s.dioUnit n).foldl (fun s k => s.updDio k (fun c => { c with latched := true, changedRaw := some s.mer.raw })) s
  let s := s.setCond n d true
  s.settleReadback n

end Sys2Proof.Machine
end

