-- ==== Sys2Proof/Machine/TaskOps.lean ====
section
/-!
DEFINITION. The task table, timing, images, hand-over and instances of the program cycle (R20 to R24, R121 to R147), and the
Waypoint slots firmware arms (R113, R123).
-/
namespace Sys2Proof.Machine

/-! ## Ring geometry -/

/-- A head is configured: its identity is not 0 (Legend 0xA0100 + h .0). -/
def State.headUsed (s : State) (h : Nat) : Bool := s.el (0xA0100 + h) 0 0 != 0
/-- The configured heads. -/
def State.heads (s : State) : List Nat := (upto 24).filter s.headUsed
/-- Ring nodes other than the module: the heads, and on a station the partner (R369). -/
def State.ringNodes (s : State) : Nat := s.heads.length + s.pairMember.toNat
/-- Position of a head from IA. -/
def State.headPos (s : State) (h : Nat) : Nat := s.el (0xA0100 + h) 1 0
/-- Hop count h of a head: the links on the shorter path of the intact ring; on a station the larger of the two members'
(R369). Positions count from 0. -/
def State.headHops (s : State) (h : Nat) : Nat :=
  let p := s.headPos h
  let n := s.ringNodes
  let own := min (p + 1) (n - p)
  if s.pairMember then max own (min (n - 1 - p) (p + 2)) else own
/-- Missed-cycle count n of a head. -/
def State.headMiss (s : State) (h : Nat) : Nat := s.el (0xA0100 + h) 2 1
/-- A head's state as the module keeps it. -/
def State.head (s : State) (h : Nat) : Head := Table.get s.ring.heads {} h
def State.updHead (s : State) (h : Nat) (f : Head → Head) : State :=
  { s with ring := { s.ring with heads := Table.upd s.ring.heads {} h f } }

/-- The guard G for outputs that reach the given channels (R21), ns. -/
def State.guardNs (s : State) (chans : List Chan) : Int :=
  let hops := chans.map (fun c => match c with | .head h _ => s.headHops h | _ => 0)
  2000 + 800 * ((hops.foldl max 0 : Nat) : Int)

/-- t_in of the ring (Table 01-4): 2 µs + 0.8 µs × (N + 1). -/
def State.ringTin (s : State) : Int := 2000 + 800 * ((s.ringNodes + 1 : Nat) : Int)

/-! ## Task records -/

/-- The record of a task, Legend 0x21000 + t (Table 05-1). -/
def State.taskRec (s : State) (t : Nat) : TaskRec :=
  let e (n d : Nat) := s.el (0x21000 + t) n d
  { enable := e 0 0 != 0, period := e 1 0, phase := e 2 0, priority := e 3 0, latency := e 4 0, ringOwner := e 5 0 != 0,
    inGroup := e 6 0, outGroup := e 7 0, rel1 := e 8 0, rel2 := e 9 0, rel3 := e 10 0, warnPct := e 11 80, skipLimit := e 12 3,
    ovrReaction := e 13 1 }

/-- A task is configured. -/
def State.taskOn (s : State) (t : Nat) : Bool := s.el (0x21000 + t) 0 0 != 0
/-- The configured tasks. -/
def State.tasks (s : State) : List Nat := (upto 16).filter s.taskOn

/-- T, and L and the release offsets in ns: a tick is 2.5 ns, and an offset that falls between two ns counts from the later
one (log entry 14). -/
def taskTNs (r : TaskRec) : Int := (r.period : Int) * 1000
def ticksNs (n : Nat) : Int := ((n * 5 + 1) / 2 : Nat)
def taskLNs (r : TaskRec) : Int := ticksNs r.latency

/-- The entry of a per-task list. -/
def forTask {α : Type} (l : List (Nat × List α)) (t : Nat) : List α := ((l.find? (fun x => x.1 == t)).map (·.2)).getD []

/-- Output channels of a task. -/
def State.taskChans (s : State) (t : Nat) : List Chan :=
  match s.tsk.active with | some p => forTask p.outputs t | none => []

/-- On-module input channels that a task's input set lists. -/
def State.taskInChans (s : State) (t : Nat) : List Nat :=
  match s.tsk.active with | some p => forTask p.inChans t | none => []

/-- t_in of a task (R126). -/
def State.taskTin (s : State) (t : Nat) : Int := if (s.taskRec t).ringOwner then s.ringTin else 1000
/-- G of a task (R21). -/
def State.taskG (s : State) (t : Nat) : Int := s.guardNs (s.taskChans t)

/-- The run state of a task. -/
def State.taskRun (s : State) (t : Nat) : TaskRun := Table.get s.tsk.runs {} t
def State.updTask (s : State) (t : Nat) (f : TaskRun → TaskRun) : State :=
  { s with tsk := { s.tsk with runs := Table.upd s.tsk.runs {} t f } }

/-- Raise a bit of TSK_PEND. -/
def State.tskPend (s : State) (b : Nat) : State := { s with tsk := { s.tsk with pend := setBit s.tsk.pend b true } }

/-! ## Waypoint slots -/

def State.slot (s : State) (n : Nat) : WptRec := Table.get s.wpt.slots {} n
def State.setSlot (s : State) (n : Nat) (r : WptRec) : State :=
  { s with wpt := { s.wpt with slots := Table.set s.wpt.slots {} n r } }

/-- The first instant of the series φ + k × T at or after `t0`. -/
def firstInstant (phase period t0 : Int) : Int :=
  if period ≤ 0 then phase else
  let k := Int.fdiv (t0 - phase + period - 1) period
  phase + (if k < 0 then 0 else k) * period

/-- Arm the slot of a task (R123). -/
def State.armTask (s : State) (t : Nat) : State :=
  let r := s.taskRec t
  if r.enable && decide (0 < r.period) then
    s.setSlot (256 + t)
      { instant := firstInstant r.phase (taskTNs r) s.now, period := r.period * 1000, action := 7, enable := true, target := t }
  else s.setSlot (256 + t) {}

/-- Loop group record elements (Table 06-1): enable, period in µs, phase. -/
def State.groupOn (s : State) (g : Nat) : Bool := s.el (0x30100 + g) 0 0 != 0

/-- Arm the slot of a loop group (R113, R155). -/
def State.armGroup (s : State) (g : Nat) (period phase : Int) : State :=
  if s.groupOn g && decide (0 < period) then
    s.setSlot g { instant := firstInstant phase period s.now, period := period.toNat, action := 3, enable := true, target := g }
  else s.setSlot g {}

/-! ## Timers, edges and counters (R138 to R142) -/

/-- Elapsed time of a running timer, not below 0 and not above PT. -/
def elapsedPt (tt start : MTime) (pt : Nat) : Nat := min (tt - start).toNat pt

/-- One evaluation of an instance; `tt` is the task time. Off-delay and pulse timers as IEC 61131-3 defines TOF and TP. -/
def evalInst (tt : MTime) (lo hi : Int) (x : InstState) : Eval → InstState
  | .timer _ .onDelay inp pt =>
    if inp then
      let start := if x.running then x.start else tt
      let et := elapsedPt tt start pt
      { x with start := start, running := true, et := et, q := et == pt, prev := inp, prevValid := true }
    else { x with running := false, et := 0, q := false, prev := inp, prevValid := true }
  | .timer _ .offDelay inp pt =>
    if inp then { x with running := false, et := 0, q := true, prev := inp, prevValid := true }
    else if x.running || (x.prevValid && x.prev) then
      let start := if x.running then x.start else tt
      let et := elapsedPt tt start pt
      { x with start := start, running := true, et := et, q := decide (et < pt), prev := inp, prevValid := true }
    else { x with et := x.et, q := false, prev := inp, prevValid := true }
  | .timer _ .pulse inp pt =>
    let begins := inp && !x.running && !(x.prevValid && x.prev)
    if x.running || begins then
      let start := if begins then tt else x.start
      let et := elapsedPt tt start pt
      let ended := et == pt
      { x with start := start, running := !ended || inp, et := if ended && !inp then 0 else et, q := !ended, prev := inp,
               prevValid := true }
    else { x with et := if inp then x.et else 0, q := false, prev := inp, prevValid := true }
  | .edge _ falling clk =>
    if !x.prevValid then { x with prev := clk, prevValid := true, q := false }
    else { x with q := if falling then !clk && x.prev else clk && !x.prev, prev := clk }
  | .counter _ down clk =>
    if !x.prevValid then { x with prev := clk, prevValid := true }
    else
      let v := if clk && !x.prev then (if down then x.value - 1 else x.value + 1) else x.value
      { x with value := clampI v lo hi, prev := clk }

/-- Index of the instance an evaluation names. -/
def evalIndex (e : Eval) : Nat :=
  match e with
  | .timer i _ _ _ => i | .edge i _ _ => i | .counter i _ _ => i

/-- Declaration of an instance. -/
def State.instDecl (s : State) (i : Nat) : InstDecl :=
  match s.tsk.active with | some p => p.insts.getD i { task := 0 } | none => { task := 0 }

/-- Apply the evaluations of a commit. -/
def State.applyEvals (s : State) (tt : MTime) (l : List Eval) : State :=
  s.each l (fun s e =>
    let d := s.instDecl (evalIndex e)
    { s with tsk := { s.tsk with insts := Table.upd s.tsk.insts {} (evalIndex e) (fun x => evalInst tt d.lo d.hi x e) } })

/-- Add an amount to START of the timers of a task (R100, R140). -/
def State.shiftTimers (s : State) (t : Nat) (delta : Int) : State :=
  if delta = 0 then s else
  { s with tsk := { s.tsk with insts := s.tsk.insts.map (fun x =>
      let d := s.instDecl x.1
      if d.cls = .timer && d.task == t then (x.1, { x.2 with start := x.2.start + delta }) else x) } }

/-- Non-retentive instances lose PREV_VALID and their state at STOP to RUN and after a warm reset (R141, R146). -/
def State.clearInsts (s : State) : State :=
  { s with tsk := { s.tsk with insts := s.tsk.insts.filter (fun x => (s.instDecl x.1).retentive) } }

/-- The constants of a program as its tasks first read them: by 64 × task + place in the batch. -/
def initConsts (p : Program) : Table Nat :=
  p.consts.foldl (fun t d => d.tasks.foldl (fun t k => Table.put t (64 * k + d.idx) d.init) t) []

/-! ## Output values -/

/-- Whether a channel is one of a task's outputs. -/
def sameChan (a b : Chan) : Bool := decide (a = b)

/-- Later values replace earlier ones of the same channel. -/
def mergeOuts (old new : List OutVal) : List OutVal :=
  old.filter (fun o => !new.any (fun n => sameChan o.chan n.chan)) ++ new

/-- The first release instant whose commit deadline is still ahead (R132). -/
def State.releaseAt (s : State) (t : Nat) (c : MTime) : MTime :=
  let r := s.taskRec t
  let g := s.taskG t
  let rels := ([r.rel1, r.rel2, r.rel3].filter (· != 0)).map (fun x => c + ticksNs x)
  ((rels.filter (fun i => decide (s.now < i - g))).head?).getD (c + (taskLNs r))

/-- The release instant of a cycle that missed its own: the first C + j × T + L, j ≥ 1, whose deadline is ahead (R135). -/
def State.lateRelease (s : State) (t : Nat) (c : MTime) : MTime :=
  let r := s.taskRec t
  let j := Int.fdiv (s.now + s.taskG t - (taskLNs r) - c) (max (taskTNs r) 1) + 1
  c + (if j < 1 then 1 else j) * (taskTNs r) + (taskLNs r)

/-- Hand values to their output stages for an instant. -/
def State.handOver (s : State) (t : Nat) (at_ : MTime) (outs : List OutVal) : State :=
  if outs.isEmpty then s else s.updTask t (fun r => { r with handed := r.handed ++ [{ at_ := at_, outs := outs }] })

/-- The tasks a freeze at the cycle end and a stop have to leave alone are those between cycles. -/
def TaskRun.busy (r : TaskRun) : Bool := r.latched || r.frozen

end Sys2Proof.Machine
end

