-- ==== Sys2Proof/Machine/RingOps.lean ====
section
/-!
DEFINITION. Ring exchanges and head states (R151, R152, R369 to R378).
-/
namespace Sys2Proof.Machine

/-- Function code of a head (Table 02-10). -/
def headFn (h : Nat) : Nat := 0x0800 + h

/-- RING: station identity, or 0x8000 + module index when standalone (Table 14-5). -/
def State.ringId (s : State) : Nat := if s.pairMember then s.station else 0x8000 + s.modIndex

/-- SEQ_EXCH of an owner: 0x100 for the ring-owning task, else the loop group (an owner is a task, or 16 + group). -/
def exchCode (owner : Nat) : Nat := if owner < 16 then 0x100 else owner - 16

/-- The entries of a slot map (Legend 0xA0100 + h .4): exchange, input offset and length, output offset and length. -/
def slotMap : Nat → Nat → List (Nat × Nat × Nat × Nat × Nat)
  | 0, _ => []
  | k + 1, v =>
    if v = 0 then []
    else (field v 15 0, field v 23 16, field v 31 24, field v 39 32, field v 47 40) :: slotMap k (v / 2 ^ 48)

/-- The slots of a head in an exchange. -/
def State.headSlot (s : State) (h exch : Nat) : Option (Nat × Nat × Nat × Nat) :=
  ((slotMap 257 (s.el (0xA0100 + h) 4 0)).find? (fun e => e.1 == exch)).map (·.2)

/-- Heads that an exchange serves: those with a slot in it; every head belongs to the ring owner's exchange. -/
def State.exchHeads (s : State) (owner : Nat) : List Nat :=
  s.heads.filter (fun h => owner < 16 || (s.headSlot h (exchCode owner)).isSome)

/-- The exchange of an owner, if one runs. -/
def State.exchange? (s : State) (owner : Nat) : Option Exchange := s.ring.exchanges.find? (fun e => e.owner == owner)

/-- Change the exchange of an owner. -/
def State.updExch (s : State) (owner : Nat) (f : Exchange → Exchange) : State :=
  { s with ring := { s.ring with exchanges := s.ring.exchanges.map (fun e => if e.owner = owner then f e else e) } }

/-- Start an exchange: COLLECT goes out in both directions at the latch instant (R373). -/
def State.startExchange (s : State) (owner : Nat) (at_ : MTime) : State :=
  if (s.exchHeads owner).isEmpty then s else
  let e : Exchange := { owner := owner, at_ := at_, seq := s.ring.seq }
  let s : State := { s with ring := { s.ring with
    seq := s.ring.seq + 1, exchanges := s.ring.exchanges.filter (fun x => x.owner != owner) ++ [e] } }
  let s := s.each (s.exchHeads owner) (fun s h => s.updHead h (fun x => { x with answered := false }))
  s.send (.ring 3 (exchCode owner) at_ s.red.cur.claim false [])

/-- Send an exchange's OUTPUT in both directions with its release instant (R373); the acknowledgement check falls at launch
+ 2 µs + 1.6 µs × N at the latest. -/
def State.sendOutput (s : State) (owner : Nat) (release : MTime) (rep : Bool) : State :=
  if (s.exchHeads owner).isEmpty then s else
  let s := s.updExch owner (fun e =>
    { e with sentOut := true, backA := false, backB := false, release := release,
             checkAt := s.now + 2000 + 1600 * (s.ringNodes : Int) })
  let s := s.each (s.exchHeads owner) (fun s h => s.updHead h (fun x => { x with acked := false }))
  let data := (s.exchHeads owner).flatMap (fun h => (s.head h).outs.map (fun o => (256 * h + o.1, o.2)))
  s.send (.ring 4 (exchCode owner) release s.red.cur.claim rep data)

/-- Write a head's status point (R152): its quality follows its state. -/
def State.writeHeadStatus (s : State) (h : Nat) : State :=
  let st := (s.head h).state
  let q := match st with | .present => qGood | .missing => qStale | .failSafe => qBad
  s.each (s.pointsOf 10 h) (fun s x => s.surveyWrite x.1 st.code q 0 s.now)

/-- The input points of a head. -/
def State.headPoints (s : State) (h : Nat) : List Nat :=
  (s.sur.points.filter (fun x => x.2.kind == 2 && x.2.writer / 256 == h)).map (·.1)

/-- Rewrite a head's input points with their last values and a quality. -/
def State.requalify (s : State) (h q : Nat) : State :=
  s.each (s.headPoints h) (fun s p => s.surveyWrite p (s.record p).value q (s.record p).flags s.now)

/-- The head becomes missing (Table 05-3, step 3). -/
def State.headMissing (s : State) (h : Nat) : State :=
  match (s.head h).state with
  | .present =>
    let s := s.updHead h (fun x => { x with state := .missing })
    (s.writeHeadStatus h).faultRep (headFn h) 0x2104 h 1 [h]
  | _ => s

/-- The head is readmitted (Table 05-3). -/
def State.headReadmit (s : State) (h : Nat) : State :=
  match (s.head h).state with
  | .missing =>
    let s := s.updHead h (fun x => { x with state := .present, missed := 0 })
    ((s.writeHeadStatus h).closeFault (headFn h) 0x2104 h).evS 0x2106 (headFn h) [h]
  | _ => s

/-- Function code of a ring port (Table 02-10). -/
def portFn (p : Nat) : Nat := 0x0200 + p

/-- NET_PEND. -/
def State.netPend (s : State) (b : Nat) : State := { s with net := { s.net with pend := setBit s.net.pend b true } }

/-- The ring opens at a break (R376): rung 1, that of a port's link loss. -/
def State.ringOpens (s : State) (pos : Nat) : State :=
  if s.ring.isOpen then s else
  let s : State := { s with ring := { s.ring with isOpen := true, breakA := pos } }
  (s.netPend 1).fault 0 0xA010 0 1 [pos]

/-- Traffic goes full circle again (R376). -/
def State.ringCloses (s : State) : State :=
  if s.ring.isOpen then
    let s : State := { s with ring := { s.ring with isOpen := false, breakA := 0xFF } }
    (((s.netPend 1).closeFault 0 0xA010 0).ev 0xA011 [])
  else s

end Sys2Proof.Machine
end

