-- ==== Sys2Proof/Machine/LoopMath.lean ====
section
/-!
DEFINITION. The arithmetic of a loop: its record, point references, coefficient sets, Contour tables and the Sounding model
(R157 to R165, R182 to R196).
-/
namespace Sys2Proof.Machine

/-! ## Points -/

/-- A value read through a point reference: usable means not BAD and finite (R162). -/
structure PtIn where
  val : F64 := 0
  q : Nat := 0
  ok : Bool := false
deriving DecidableEq, Repr

/-- The REAL64 of a record value by the TYPE of Table 06-6 (R158); an INT64 is rounded as R159 rounds (log entry 16). -/
def decodeVal (ty raw : Nat) : F64 :=
  match ty with
  | 0 => BitVec.ofNat 64 raw
  | 1 => F32.widen (BitVec.ofNat 32 raw)
  | 2 => F64.ofInt (toSigned 64 raw)
  | 3 => F64.ofInt (toSigned 32 raw)
  | 4 => F64.ofInt (toSigned 16 raw)
  | 5 => F64.ofInt ((raw % 65536 : Nat) : Int)
  | _ => F64.ofInt ((if raw % 256 = 0 then 0 else 1 : Nat) : Int)

/-- The largest finite binary32. -/
def maxReal32 : F64 := F32.widen 0x7F7FFFFF#32

/-- The record value of a REAL64 by TYPE: rounded to nearest, saturating at the type's limits (R158, R254). -/
def encodeVal (ty : Nat) (x : F64) : Nat :=
  match ty with
  | 0 => x.toNat
  | 1 => (F64.narrow (F64.clamp x (F64.neg maxReal32) maxReal32)).toNat
  | 2 => ofSigned 64 (clampI (F64.nearest x) (-(2 ^ 63)) (2 ^ 63 - 1))
  | 3 => ofSigned 64 (clampI (F64.nearest x) (-(2 ^ 31)) (2 ^ 31 - 1))
  | 4 => ofSigned 64 (clampI (F64.nearest x) (-32768) 32767)
  | 5 => (clampI (F64.nearest x) 0 65535).toNat
  | _ => (clampI (F64.nearest x) 0 1).toNat

/-- Fields of a point reference (Table 06-6). -/
def refNone (r : Nat) : Bool := bitOf r 31
def refLocal (r : Nat) : Nat := r % 524288
def refType (r : Nat) : Nat := field r 27 25

/-- Read a point reference in the module's own Survey image (R158). -/
def State.readRef (s : State) (r : Nat) : PtIn :=
  if refNone r then {} else
  let c := s.record (refLocal r)
  let v := decodeVal (refType r) c.value
  { val := v, q := qCode c.quality, ok := qCode c.quality != qBad && F64.isFinite v }

/-! ## The loop record -/

/-- An element of a loop record. -/
def State.lN (s : State) (slot n d : Nat) : Nat := s.el (0x31000 + slot) n d
/-- A REAL32 element of a loop record. -/
def State.lF (s : State) (slot n : Nat) : F64 := F32.widen (BitVec.ofNat 32 (s.lN slot n 0))
/-- CTRL (Table 06-5: INT_EN resets to 1). -/
def State.loopCtrl (s : State) (slot : Nat) : Nat := s.lN slot 0 8
def State.loopEnabled (s : State) (slot : Nat) : Bool := bitOf (s.loopCtrl slot) 0
def State.loopGroup (s : State) (slot : Nat) : Nat := s.lN slot 1 0
/-- MODE_REQ; never written, MAN (log entry 17). -/
def State.loopReq (s : State) (slot : Nat) : Nat := s.lN slot 2 1
/-- A point reference, elements .4 to .13; never written, unused (log entry 17). -/
def State.loopRef (s : State) (slot n : Nat) : Nat := s.lN slot n 0xFFFFFFFF
/-- A CT_ field, elements .15 to .18: GAIN, SET, LIM, MODEL. -/
def State.loopCt (s : State) (slot n : Nat) : Option Nat :=
  let v := s.lN slot n 0xFFFF
  if v = 0xFFFF then none else some v
def State.loopCtAny (s : State) (slot : Nat) : Bool := [15, 16, 17, 18].any (fun n => (s.loopCt slot n).isSome)
def State.missLimit (s : State) (slot : Nat) : Nat := s.lN slot 19 3
/-- The enabled slots, ascending. -/
def State.slots (s : State) : List Nat :=
  ((s.elems.filter (fun x => decide (ea 0x31000 0 ≤ x.1) && decide (x.1 < ea 0x32000 0) && x.1 % 256 == 0 && bitOf x.2 0)).map
    (fun x => x.1 / 256 - 0x31000))
/-- The enabled slots of a group (R155). -/
def State.groupSlots (s : State) (g : Nat) : List Nat := s.slots.filter (fun i => s.loopGroup i == g)
def State.loop (s : State) (slot : Nat) : LoopState := Table.get s.cen.loops {} slot
def State.updLoop (s : State) (slot : Nat) (f : LoopState → LoopState) : State :=
  { s with cen := { s.cen with loops := Table.upd s.cen.loops {} slot f } }
def State.group (s : State) (g : Nat) : GroupRun := Table.get s.cen.groups {} g
def State.updGroup (s : State) (g : Nat) (f : GroupRun → GroupRun) : State :=
  { s with cen := { s.cen with groups := Table.upd s.cen.groups {} g f } }
def State.groupPeriod (s : State) (g : Nat) : Nat := s.el (0x30100 + g) 1 0
def State.groupPhase (s : State) (g : Nat) : Nat := s.el (0x30100 + g) 2 0

/-- P in seconds (R160): ticks of 2.5 ns. -/
def periodS (ticks : Nat) : F64 := F64.ofRatio ticks 400000000

/-- The loop whose SPC_PT is this loop's OUT_PT (R166). -/
def State.innerOf (s : State) (slot : Nat) : Option Nat :=
  let o := s.loopRef slot 11
  if refNone o then none else
  s.slots.find? (fun j => j != slot && !refNone (s.loopRef j 6) && refLocal (s.loopRef j 6) == refLocal o)

/-! ## Coefficient sets (R160, R161) -/

/-- One coefficient set. -/
structure Coef where
  b0 : F64
  b1 : F64
  b2 : F64
  b3 : F64
  a1 : F64
  a2 : F64
  a3 : F64
deriving DecidableEq, Repr

/-- Set `k` of its 32 bytes; FORM 0 takes b3 and a3 as 0. -/
def coefOf (form : Bool) (bytes : Nat) : Coef :=
  let w (i : Nat) : F64 := F32.widen (BitVec.ofNat 32 (bytes >>> (32 * i)))
  { b0 := w 0, b1 := w 1, b2 := w 2, b3 := if form then w 3 else 0, a1 := w 4, a2 := w 5, a3 := if form then w 6 else 0 }

def State.coef (s : State) (slot k : Nat) : Coef := coefOf (bitOf (s.loopCtrl slot) 1) (s.lN slot (31 + k) 0)

def F64.sum (l : List F64) : F64 :=
  match l with | [] => 0 | x :: xs => xs.foldl F64.add x

def Coef.num (c : Coef) : F64 := F64.sum [c.b0, c.b1, c.b2, c.b3]
def Coef.den (c : Coef) : F64 := F64.sum [F64.one, c.a1, c.a2, c.a3]

/-- v of R160. -/
def Coef.v (c : Coef) (e : F64) (x : LoopState) : F64 :=
  let p := F64.sum [F64.mul c.b0 e, F64.mul c.b1 x.e1, F64.mul c.b2 x.e2, F64.mul c.b3 x.e3]
  F64.sub (F64.sub (F64.sub p (F64.mul c.a1 x.v1)) (F64.mul c.a2 x.v2)) (F64.mul c.a3 x.v3)

/-- The preset of R165: `ff` is the feedforward term, 0 with FF_EN 0. -/
def preset (c : Coef) (g ff bias e u : F64) (x : LoopState) : LoopState :=
  let v0 := F64.div (F64.mul e c.num) c.den
  { x with e1 := e, e2 := e, e3 := e, v1 := v0, v2 := v0, v3 := v0,
           i := F64.sub (F64.sub (F64.sub u (F64.mul g v0)) ff) bias }

/-- The states rebuilt for set B (R189). -/
def rebuild (c : Coef) (x : LoopState) : LoopState :=
  let sb := F64.div c.num c.den
  let se := F64.mul sb x.e3
  let line (p q r t : F64) (v w z : F64) : F64 :=
    F64.sub (F64.sub (F64.sub (F64.sum [F64.mul c.b0 p, F64.mul c.b1 q, F64.mul c.b2 r, F64.mul c.b3 t]) (F64.mul c.a1 v))
      (F64.mul c.a2 w)) (F64.mul c.a3 z)
  let v3 := se
  let v2 := line x.e2 x.e3 x.e3 x.e3 v3 se se
  let v1 := line x.e1 x.e2 x.e3 x.e3 v2 v3 se
  { x with v1 := v1, v2 := v2, v3 := v3 }

/-! ## Contour tables (R182 to R188) -/

def CTable.kind (t : CTable) : Nat := field t.hdr 7 0
def CTable.dim (t : CTable) : Nat := field t.hdr 15 8
def CTable.nx (t : CTable) : Nat := field t.hdr 23 16
def CTable.ny (t : CTable) : Nat := field t.hdr 31 24
def CTable.nl (t : CTable) : Nat := field t.hdr 39 32
def CTable.hysX (t : CTable) : F32 := BitVec.ofNat 32 (t.hdr >>> 64)
def CTable.hysY (t : CTable) : F32 := BitVec.ofNat 32 (t.hdr >>> 96)
def word32 (n i : Nat) : F32 := BitVec.ofNat 32 (n >>> (32 * i))
def CTable.layer (t : CTable) (l : Nat) : Nat := match l with | 0 => t.l0 | 1 => t.l1 | _ => t.l2
/-- The grid value of a layer. -/
def CTable.grid (t : CTable) (l i j : Nat) : F64 := F32.widen (word32 (t.layer l) (j * 16 + i))
/-- The set code of a cell. -/
def CTable.setAt (t : CTable) (i j : Nat) : Nat := field (t.setmap >>> (8 * (j * 16 + i))) 7 0

/-- cell(v) on an axis of n breakpoints: the largest i ≤ n − 2 with B[i] ≤ v, 0 below B[0] (R185). -/
def cellOf (bp : Nat) (n : Nat) (v : F64) : Nat :=
  ((upto (n - 1)).filter (fun i => F64.le (F32.widen (word32 bp i)) v)).foldl max 0

/-- f(v) on an axis (R185). -/
def fracOf (bp : Nat) (n : Nat) (v : F64) : F64 :=
  let i := cellOf bp n v
  let b := F32.widen (word32 bp i)
  F64.clamp (F64.div (F64.sub v b) (F64.sub (F32.widen (word32 bp (i + 1))) b)) F64.zero F64.one

/-- A value layer at a scheduling point (R185). -/
def CTable.value (t : CTable) (l : Nat) (x y : F64) : F64 :=
  let i := cellOf t.xbp t.nx x
  let fx := fracOf t.xbp t.nx x
  let gx := F64.sub F64.one fx
  let row (j : Nat) : F64 := F64.add (F64.mul gx (t.grid l i j)) (F64.mul fx (t.grid l (i + 1) j))
  if t.dim = 2 then
    let j := cellOf t.ybp t.ny y
    let fy := fracOf t.ybp t.ny y
    F64.add (F64.mul (row j) (F64.sub F64.one fy)) (F64.mul (row (j + 1)) fy)
  else F64.mul (row 0) (F64.sub F64.one F64.zero)

/-- The candidate set of a set map (R188). -/
def CTable.candidate (t : CTable) (x y : F64) : Nat :=
  t.setAt (cellOf t.xbp t.nx x) (if t.dim = 2 then cellOf t.ybp t.ny y else 0)

/-- Some cell of the hysteresis box holds the set `k` (R188). -/
def CTable.boxHolds (t : CTable) (x y : F64) (k : Nat) : Bool :=
  let hx := F32.widen t.hysX
  let hy := F32.widen t.hysY
  let is_ := (upto 16).filter (fun i => cellOf t.xbp t.nx (F64.sub x hx) ≤ i && i ≤ cellOf t.xbp t.nx (F64.add x hx))
  let js := if t.dim = 2 then
      (upto 16).filter (fun j => cellOf t.ybp t.ny (F64.sub y hy) ≤ j && j ≤ cellOf t.ybp t.ny (F64.add y hy))
    else [0]
  js.any (fun j => is_.any (fun i => t.setAt i j == k))

def State.ctable (s : State) (t : Nat) : CTable := Table.get s.cen.tables {} t

/-- A two-dimensional table is named. -/
def State.schedTwo (s : State) (slot : Nat) : Bool :=
  [15, 16, 17, 18].any (fun n => match s.loopCt slot n with | some t => (s.ctable t).dim == 2 | none => false)

/-- The scheduling point of a loop and whether it is usable (R184). -/
def State.schedPoint (s : State) (slot : Nat) : F64 × F64 × Bool :=
  let x := s.readRef (s.loopRef slot 12)
  let y := s.readRef (s.loopRef slot 13)
  (x.val, y.val, x.ok && (!s.schedTwo slot || y.ok))

/-! ## Sounding (R192 to R196) -/

/-- The Sounding model's parameters in effect. -/
structure Model where
  km : F64
  tm : F64
  td : F64
  tf : F64
  p : F64
deriving DecidableEq, Repr

/-- The update of R192 for u released last and PV. -/
def soundingStep (m : Model) (u pv : F64) (x : LoopState) : LoopState :=
  let α := F64.div m.p (F64.add m.tm m.p)
  let β := F64.div m.p (F64.add m.tf m.p)
  let d := (clampI (F64.floor (F64.add (F64.div m.td m.p) (F64.ofRatio 1 2))) 0 15).toNat
  let line := x.sdLine.map F32.widen
  let l0 := line.getD 0 0
  let w := F64.add l0 (F64.mul α (F64.sub u l0))
  let dw := if d = 0 then F64.sub w l0 else F64.sub (line.getD (d - 1) 0) (line.getD d 0)
  let yp := F64.add x.sdYm (F64.mul m.km dw)
  let r := F64.sub pv yp
  { x with sdLine := (F64.narrow w) :: ((upto 15).map (fun i => x.sdLine.getD i 0)),
           sdRes := F64.add x.sdRes (F64.mul β (F64.sub r x.sdRes)), sdYm := F64.add yp (F64.mul β r) }

/-- W of R192. -/
def soundingW (m : Model) : Nat :=
  (F64.ceil (F64.div (F64.mul (F64.ofInt 3) (F64.sum [m.tm, m.td, m.tf])) m.p)).toNat

/-- The model's values at a re-initialisation (R192). -/
def soundingInit (u pv : F64) (x : LoopState) : LoopState :=
  { x with sdYm := pv, sdRes := F64.zero, sdLine := List.replicate 16 (F64.narrow u) }

/-- States of Table 07-4. -/
def sdOff : Nat := 0
def sdSettling : Nat := 1
def sdClear : Nat := 2
def sdSuspect : Nat := 3
def sdFault : Nat := 4
def sdSuspended : Nat := 5

/-- Every state of a loop is finite (R168). -/
def LoopState.finite (x : LoopState) : Bool :=
  [x.e1, x.e2, x.e3, x.v1, x.v2, x.v3, x.i, x.uPrev, x.uPre, x.ffLast, x.gainNow, x.kiNow, x.sdYm, x.sdRes].all F64.isFinite
    && x.sdLine.all F32.isFinite

end Sys2Proof.Machine
end

