-- ==== Sys2Proof/Machine/LoopEval.lean ====
section
/-!
DEFINITION. One loop evaluation: scheduling, Sounding, mode selection and the compensator, in the order of R187 (R160 to R168,
R176, R187 to R197).
-/
namespace Sys2Proof.Machine

/-- What the lane reads for a loop (R171). -/
structure LoopIn where
  pv : PtIn
  spl : PtIn
  spc : PtIn
  ff : PtIn
  man : PtIn
  trk : PtIn
  tsw : PtIn
  /-- An inner loop exists, the MODE_ACT its output record shows is CAS, and its SPL. -/
  inner : Option (Bool × PtIn)
  dsHi : Bool
  dsLo : Bool
deriving DecidableEq, Repr

/-- The inputs of an evaluation. DS_HI and DS_LO come from the output stage or, exchanged for CAS_SENSE −1, from the inner
loop's output record (R164). -/
def State.loopIn (s : State) (slot : Nat) : LoopIn :=
  let rd (n : Nat) := s.readRef (s.loopRef slot n)
  let x := s.loop slot
  let base : LoopIn :=
    { pv := rd 4, spl := rd 5, spc := rd 6, ff := rd 7, man := rd 8, trk := rd 9, tsw := rd 10, inner := none,
      dsHi := x.dsHi, dsLo := x.dsLo }
  match s.innerOf slot with
  | none => base
  | some j =>
    let f := if refNone (s.loopRef j 11) then (s.loop j).flags else (s.record (refLocal (s.loopRef j 11))).flags
    let neg := decide (toSigned 8 (s.lN slot 3 1) < 0)
    { base with inner := some (f % 8 == 3, s.readRef (s.loopRef j 5)),
                dsHi := if neg then bitOf f 4 else bitOf f 3, dsLo := if neg then bitOf f 3 else bitOf f 4 }

/-- MODE_ACT codes of Table 06-7. -/
def mOff : Nat := 0
def mMan : Nat := 1
def mAuto : Nat := 2
def mCas : Nat := 3
def mTrack : Nat := 4
def mInit : Nat := 5
def mHeld : Nat := 6
def mFail : Nat := 7

/-- A computing mode. -/
def computes (m : Nat) : Bool := m == mAuto || m == mCas

/-- CAS is requested and its set point usable. -/
def casUsable (req : Nat) (r : LoopIn) : Bool := req == 3 && r.spc.ok

/-- PV and the set point that CAS or AUTO would use are usable. -/
def inputsOk (req : Nat) (r : LoopIn) : Bool := r.pv.ok && (if casUsable req r then r.spc.ok else r.spl.ok)

/-- Mode selection (R162, Table 06-7). -/
def selectMode (trkEn : Bool) (req bad held : Nat) (r : LoopIn) : Nat :=
  if bitOf held 2 || bitOf held 3 || bitOf held 4 then mHeld
  else if trkEn && r.tsw.ok && !F64.eq r.tsw.val 0 then mTrack
  else if req = 1 then mMan
  else if (match r.inner with | some (cas, _) => !cas | none => false) then mInit
  else if !inputsOk req r then (if bad = 0 then mHeld else mFail)
  else if casUsable req r then mCas
  else mAuto

/-- Output target u_t of a mode that does not compute (Table 06-7). -/
def target (m : Nat) (fail uPrev : F64) (r : LoopIn) : F64 :=
  let or_ (p : PtIn) : F64 := if p.ok then p.val else uPrev
  if m = mTrack then or_ r.trk else if m = mMan then or_ r.man
  else if m = mInit then (match r.inner with | some (_, p) => or_ p | none => uPrev)
  else if m = mFail then fail else uPrev

/-- Output quality (Table 06-8) by mode; `sched` are the qualities of the scheduling variables in use. -/
def loopQuality (m : Nat) (ffEn : Bool) (sched : List Nat) (r : LoopIn) : Nat :=
  let u (p : PtIn) : Nat := if p.ok then p.q else qUncertain
  let b (p : PtIn) : Nat := if p.ok then p.q else qBad
  let low (l : List Nat) : Nat := l.foldl qMin qGood
  if m = mAuto || m = mCas then
    low ([b r.pv, if m = mCas then b r.spc else b r.spl] ++ (if ffEn then [u r.ff] else []) ++ sched)
  else if m = mMan then u r.man
  else if m = mTrack then (if r.trk.ok then low [r.trk.q, b r.tsw] else qUncertain)
  else if m = mInit then (match r.inner with | some (_, p) => u p | none => qUncertain)
  else if m = mFail then qSubstituted
  else qUncertain

/-- What a Sounding evaluation reports: 0 nothing, 1 FAULT entered, 2 self-cleared, 3 ended by re-initialisation. -/
structure SdOut where
  x : LoopState
  report : Nat := 0
deriving DecidableEq, Repr

/-- The SOUNDING flag as the loop's last output record carries it. -/
def LoopState.sounding (x : LoopState) : Bool := bitOf x.flags 8

/-- The Sounding state at an evaluation (R195, R196): `blocked` is SCHED_HOLD with CT_MODEL in use. -/
def soundingEval (en blocked : Bool) (m : Model) (thr : F64) (pers react : Nat) (u : F64) (pv : PtIn) (x : LoopState) : SdOut :=
  if !en then { x := { x with sdState := sdOff } }
  else if x.latched then
    let y := if !pv.ok then x else if x.reinit then { soundingInit u pv.val x with reinit := false } else soundingStep m u pv.val x
    { x := { y with sdState := sdFault } }
  else if !pv.ok || blocked then { x := { x with sdState := sdSuspended } }
  else if x.reinit || x.sdState == sdOff || x.sdState == sdSuspended then
    { x := { soundingInit u pv.val x with reinit := false, sdState := sdSettling, sdCnt := soundingW m },
      report := if x.sounding then 3 else 0 }
  else
    let y := soundingStep m u pv.val x
    if x.sdState = sdSettling then
      { x := { y with sdCnt := y.sdCnt - 1, sdState := if y.sdCnt - 1 = 0 then sdClear else sdSettling } }
    else
      let c := if F64.lt thr (F64.abs y.sdRes) then min (y.sdCnt + 1) pers else y.sdCnt - 1
      if x.sdState = sdFault then
        { x := { y with sdCnt := c, sdState := if c = 0 then sdClear else sdFault }, report := if c = 0 then 2 else 0 }
      else if pers ≤ c then
        { x := { y with sdCnt := c, sdState := sdFault, latched := react != 0 }, report := 1 }
      else { x := { y with sdCnt := c, sdState := if c = 0 then sdClear else sdSuspect } }

/-- What an evaluation leaves: new states, whether a numeric fault fell, the Sounding report, and the set switch if any. -/
structure LoopOut where
  x : LoopState
  numeric : Bool := false
  report : Nat := 0
  switched : Option (Nat × Nat) := none
deriving DecidableEq, Repr

/-- What was in force before the on-line changes of this sample (R176). -/
structure OldSet where
  kff : F64
  bias : F64
  coef : Coef
deriving DecidableEq, Repr

/-- Scheduled quantities of step 1 of R187. -/
structure Sched where
  hold : Bool
  set : Nat
  g : F64
  ki : F64
  lo : F64
  hi : F64
  km : F64
  tm : F64
  td : F64
deriving DecidableEq, Repr

/-- Step 1 of R187. A loop with no CT_ field in use takes the record's values and set 0 (R157). Where the schedule has never
been usable, GAIN_NOW and KI_NOW are the record's (log entry 18). -/
def State.sched (s : State) (slot : Nat) (x : LoopState) : Sched :=
  let f (n : Nat) := s.lF slot n
  let (px, py, ok) := s.schedPoint slot
  let rec_ : Sched :=
    { hold := false, set := 0, g := f 30, ki := f 29, lo := f 23, hi := f 24, km := f 35, tm := f 36, td := f 37 }
  if !s.loopCtAny slot then rec_
  else if ok then
    let r := match s.loopCt slot 15 with
      | some t => let t := s.ctable t
        { rec_ with g := F64.mul (f 30) (t.value 0 px py), ki := if t.nl = 2 then F64.mul (f 29) (t.value 1 px py) else f 29 }
      | none => rec_
    let r := match s.loopCt slot 16 with
      | some t => let t := s.ctable t
        let cand := t.candidate px py
        { r with set := if x.first then cand else if cand = x.activeSet || t.boxHolds px py x.activeSet then x.activeSet else cand }
      | none => { r with set := x.activeSet }
    let r := match s.loopCt slot 17 with
      | some t => let t := s.ctable t
        { r with lo := F64.max (f 23) (t.value 0 px py), hi := F64.min (f 24) (t.value 1 px py) }
      | none => r
    match s.loopCt slot 18 with
    | some t => let t := s.ctable t
      { r with km := t.value 0 px py, tm := t.value 1 px py, td := t.value 2 px py }
    | none => r
  else
    let fresh := x.gainNow == 0
    { rec_ with hold := true, set := x.activeSet, g := if fresh then f 30 else x.gainNow, ki := if fresh then f 29 else x.kiNow }

/-- The flags of Table 06-8, MISSED apart. -/
def loopFlags (m : Nat) (hi lo frozen shed sound : Bool) : Nat :=
  m + bitAt hi 3 + bitAt lo 4 + bitAt frozen 5 + bitAt shed 7 + bitAt sound 8

/-- Steps 4 and 5 in a computing mode (R163, R176, R187). `x` has the Sounding update behind it and `old` what the on-line
changes replaced. -/
def computeLoop (c : Coef) (m : Nat) (dir intEn ffEn : Bool) (p rate bias kff spLo spHi : F64) (sc : Sched)
    (newCoef : Coef) (old : OldSet) (changed ctGain : Bool) (transfer : Bool) (r : LoopIn) (x : LoopState) : LoopState :=
  let sp := F64.clamp (if m = mCas then r.spc.val else r.spl.val) spLo spHi
  let e := if dir then F64.sub r.pv.val sp else F64.sub sp r.pv.val
  -- the compensation of an on-line change (R176), before step 1 of R187
  let x := if changed && !transfer then
      let gN := if ctGain then x.gainNow else sc.g
      let i := F64.sub (F64.add x.i (F64.mul x.gainNow (old.coef.v e x))) (F64.mul gN (c.v e x))
      let i := if ffEn then F64.add i (F64.mul (F64.sub old.kff kff) x.ffLast) else i
      { x with i := F64.sub (F64.add i old.bias) bias, gainNow := gN }
    else x
  let switch := sc.set != x.activeSet && !transfer
  -- step 4: the set, then the gain, each compensated
  let x := if switch then
      let y := rebuild newCoef x
      { y with i := F64.add y.i (F64.mul y.gainNow (F64.sub (c.v e x) (newCoef.v e y))) }
    else x
  let x := if !transfer && sc.g != x.gainNow then
      { x with i := F64.add x.i (F64.mul (F64.sub x.gainNow sc.g) ((if switch then newCoef else c).v e x)) }
    else x
  let x := { x with activeSet := sc.set, gainNow := sc.g, kiNow := sc.ki }
  let c := newCoef
  -- step 5
  let x := if r.ff.ok then { x with ffLast := r.ff.val } else x
  let ff := if ffEn then F64.mul kff x.ffLast else F64.zero
  let x := if transfer then preset c sc.g ff bias e x.uPrev x else x
  let v := c.v e x
  let dI := if transfer || !intEn then F64.zero else F64.mul (F64.mul (F64.mul sc.g sc.ki) p) e
  let uPre := F64.add (F64.add (F64.add (F64.mul sc.g v) (F64.add x.i dI)) ff) bias
  let step := F64.mul rate p
  let u := if F64.lt 0 rate then F64.clamp uPre (F64.sub x.uPrev step) (F64.add x.uPrev step) else uPre
  let u := F64.clamp u sc.lo sc.hi
  let hi := F64.lt u uPre || r.dsHi
  let lo := F64.lt uPre u || r.dsLo
  let frozen := (F64.lt 0 dI && hi) || (F64.lt dI 0 && lo)
  let dI := if frozen then F64.zero else dI
  { x with i := F64.add x.i dI, e3 := x.e2, e2 := x.e1, e1 := e, v3 := x.v2, v2 := x.v1, v1 := v, uPre := uPre, uPrev := u,
           flags := bitAt hi 3 + bitAt lo 4 + bitAt frozen 5 }

/-- Steps 4 and 5 in a mode that does not compute: the target, limited, and the preset of R165. -/
def holdLoop (c : Coef) (m req : Nat) (dir ffEn : Bool) (p rate bias kff spLo spHi fail : F64) (sc : Sched) (r : LoopIn)
    (x : LoopState) : LoopState :=
  let x := { x with activeSet := sc.set, gainNow := sc.g, kiNow := sc.ki }
  let u := target m fail x.uPrev r
  let step := F64.mul rate p
  let u := if (m == mMan || m == mFail) && F64.lt 0 rate then F64.clamp u (F64.sub x.uPrev step) (F64.add x.uPrev step) else u
  let u := F64.clamp u sc.lo sc.hi
  let spIn := if req = 3 then r.spc else r.spl
  let e := if r.pv.ok && spIn.ok then
      let sp := F64.clamp spIn.val spLo spHi
      if dir then F64.sub r.pv.val sp else F64.sub sp r.pv.val
    else F64.zero
  let ff := if ffEn then F64.mul kff x.ffLast else F64.zero
  { preset c sc.g ff bias e u x with uPrev := u, flags := 0 }

/-- One evaluation of an enabled loop. `duty`: the module's own evaluation, not a standby's shadow (R197). -/
def State.evalLoop (s : State) (slot : Nat) (old : OldSet) (changed duty : Bool) : LoopOut :=
  let x0 := s.loop slot
  let ctrl := s.loopCtrl slot
  let f (n : Nat) := s.lF slot n
  let p := periodS (s.groupPeriod (s.loopGroup slot))
  let req := s.loopReq slot
  let r := s.loopIn slot
  let sc := s.sched slot x0
  let md : Model := { km := sc.km, tm := sc.tm, td := sc.td, tf := f 38, p := p }
  let react := s.lN slot 41 0
  let sd := soundingEval (bitOf ctrl 6) (sc.hold && (s.loopCt slot 18).isSome) md (f 39) (s.lN slot 40 1) react x0.uPrev r.pv x0
  let held := if sd.x.latched && duty then setBit sd.x.heldSet 4 true else sd.x.heldSet
  let sound := if sd.report = 1 then true else if sd.report = 2 || sd.report = 3 || !bitOf ctrl 6 then false else x0.sounding
  let m := selectMode (bitOf ctrl 5) req (s.lN slot 20 0) held r
  let held := if inputsOk req r then setBit held 1 false
    else if m = mHeld && !(bitOf held 2 || bitOf held 3 || bitOf held 4) then setBit held 1 true else held
  let transfer := x0.transfer || !computes x0.modeAct || x0.modeAct != m
  let c := s.coef slot x0.activeSet
  let cN := s.coef slot sc.set
  let ffEn := bitOf ctrl 4
  let y := if computes m then
      computeLoop c m (bitOf ctrl 2) (bitOf ctrl 3) ffEn p (f 25) (f 27) (f 26) (f 21) (f 22) sc cN old changed
        (s.loopCt slot 15).isSome transfer r sd.x
    else holdLoop cN m req (bitOf ctrl 2) ffEn p (f 25) (f 27) (f 26) (f 21) (f 22) (f 28) sc r sd.x
  let y := { y with modeAct := m, heldSet := held, schedHold := sc.hold, first := false, transfer := false }
  let used := if s.loopCtAny slot then
      [s.readRef (s.loopRef slot 12)] ++ (if s.schedTwo slot then [s.readRef (s.loopRef slot 13)] else []) else []
  if y.finite then
    { x := { y with evals := x0.evals + 1, sdFaults := x0.sdFaults + (if sd.report = 1 then 1 else 0),
                    flags := y.flags + loopFlags m false false false (req == 3 && m == mAuto) sound,
                    setSwitches := if sc.set != x0.activeSet then satInc 16 x0.setSwitches else x0.setSwitches,
                    outQ := loopQuality m ffEn (used.map (fun p => if p.ok then p.q else qBad)) r },
      report := sd.report, switched := if sc.set != x0.activeSet then some (x0.activeSet, sc.set) else none }
  else
    { x := { x0 with evals := x0.evals + 1, heldSet := setBit x0.heldSet 2 true, modeAct := mHeld,
                     flags := loopFlags mHeld false false false false x0.sounding, outQ := qUncertain },
      numeric := true }

end Sys2Proof.Machine
end

