-- ==== Sys2Proof/Machine/CanOps.lean ====
section
/-!
DEFINITION. The CAN controllers' shared operations: objects, packing and unpacking, placement and outcomes (R345 to R361).
-/
namespace Sys2Proof.Machine

/-- A controller. -/
def State.canCtl (s : State) (c : Nat) : CanCtrl :=
  match c with | 0 => s.can.c0 | 1 => s.can.c1 | 2 => s.can.c2 | _ => s.can.c3
/-- Change a controller. -/
def State.updCan (s : State) (c : Nat) (f : CanCtrl → CanCtrl) : State :=
  { s with can := match c with
      | 0 => { s.can with c0 := f s.can.c0 } | 1 => { s.can with c1 := f s.can.c1 }
      | 2 => { s.can with c2 := f s.can.c2 } | _ => { s.can with c3 := f s.can.c3 } }
def State.canObj (s : State) (c o : Nat) : CanObj := Table.get (s.canCtl c).objs {} o
def State.updObj (s : State) (c o : Nat) (f : CanObj → CanObj) : State :=
  s.updCan c (fun x => { x with objs := Table.upd x.objs {} o f })
/-- Raise a bit of CANc_PEND (Table 13-13). -/
def State.canPend (s : State) (c b : Nat) : State := s.updCan c (fun x => { x with pend := setBit x.pend b true })

/-- An element of an object's record (Table 13-4). -/
def State.objEl (s : State) (c o n d : Nat) : Nat := s.el (0x91000 + 0x100 * c + o) n d
def State.objOn (s : State) (c o : Nat) : Bool := s.objEl c o 0 0 != 0
def State.objSend (s : State) (c o : Nat) : Bool := s.objOn c o && s.objEl c o 1 0 == 1
/-- The enabled objects of a controller. -/
def State.objs (s : State) (c : Nat) : List Nat :=
  let lo := 0x91000 + 0x100 * c
  (s.elems.filter (fun x => decide (ea lo 0 ≤ x.1) && decide (x.1 < ea (lo + 128) 0) && x.1 % 256 == 0 && x.2 != 0)).map
    (fun x => x.1 / 256 - lo)

/-- The mode a controller is in (R346): OFF outside STOP, RUN, HOLD, STANDBY and SAFE. -/
def State.canMode (s : State) (c : Nat) : Nat :=
  match s.mode.mode with
  | .blank | .witness | .service => 0
  | _ => field (s.canCtl c).ctrl 1 0

/-- Data bytes of a DLC (Table 13-4); a classical frame carries at most 8. -/
def dlcLen (fdf : Bool) (d : Nat) : Nat :=
  if d ≤ 8 then d else if !fdf then 8 else
  match d with | 9 => 12 | 10 => 16 | 11 => 20 | 12 => 24 | 13 => 32 | 14 => 48 | _ => 64

/-- A field record (Table 13-5). -/
structure CanField where
  ref : Nat
  start : Nat
  len : Nat
  coding : Nat
  swap : Bool
  scale : F64
  offset : F64
deriving DecidableEq, Repr

def canField (r : Nat) : CanField :=
  { ref := field r 31 0, start := field r 47 32, len := field r 55 48, coding := field r 57 56, swap := bitOf r 58,
    scale := F32.widen (BitVec.ofNat 32 (r >>> 64)), offset := F32.widen (BitVec.ofNat 32 (r >>> 96)) }

/-- The fields of an object. -/
def State.objFields (s : State) (c o : Nat) : List CanField :=
  (upto (s.objEl c o 14 0)).map (fun i => canField (s.objEl c o (15 + i) 0))

/-- The bits of a field in payload order: most significant byte first where ORDER is 1. -/
def orderBits (f : CanField) (raw : Nat) : Nat :=
  if f.swap then leNat ((leBytes (f.len / 8) raw).reverse) else raw

/-- Pack one value (R350). A NaN has no integer the rule names: `free` stands for it (log entry 19). -/
def packField (f : CanField) (x : F64) (free : Nat) : Nat :=
  let raw : Nat :=
    match f.coding with
    | 2 => (F64.narrow x).toNat
    | 3 => x.toNat
    | k =>
      let y := F64.div (F64.sub x f.offset) f.scale
      let lo : Int := if k = 1 then -(2 ^ (f.len - 1)) else 0
      let hi : Int := if k = 1 then 2 ^ (f.len - 1) - 1 else 2 ^ f.len - 1
      match F64.num y with
      | .nan => free
      | .inf neg => ofSigned f.len (if neg then lo else hi)
      | .fin _ _ _ => ofSigned f.len (clampI (F64.nearest y) lo hi)
  orderBits f (raw % 2 ^ f.len)

/-- Unpack one field (R350). -/
def unpackField (f : CanField) (payload : Nat) : F64 :=
  let raw := orderBits f (field payload (f.start + f.len - 1) f.start)
  match f.coding with
  | 2 => F32.widen (BitVec.ofNat 32 raw)
  | 3 => BitVec.ofNat 64 raw
  | k => F64.add (F64.mul (F64.ofInt (if k = 1 then toSigned f.len raw else (raw : Int))) f.scale) f.offset

/-- The payload of an object from the Survey records as they stand (R351), as a number whose bit b is payload bit b. -/
def State.packPayload (s : State) (c o : Nat) : Nat :=
  ((s.objFields c o).map (fun f =>
    packField f (decodeVal (refType f.ref) (s.record (refLocal f.ref)).value) (Config.random s.freeCtr).toNat <<< f.start)).foldl (· + ·) 0

/-- A mapped value is not a number, so the payload draws a free value. -/
def State.payloadFree (s : State) (c o : Nat) : Bool :=
  (s.objFields c o).any (fun f => f.coding < 2 &&
    (match F64.num (decodeVal (refType f.ref) (s.record (refLocal f.ref)).value) with | .nan => true | _ => false))

/-- Some mapped point is BAD (R352, QGATE). -/
def State.objBad (s : State) (c o : Nat) : Bool :=
  (s.objFields c o).any (fun f => qCode (s.record (refLocal f.ref)).quality == qBad)

/-- Write STATUS_PT (R352, Table 13-7). -/
def State.writeStatusPt (s : State) (c o code : Nat) (t : MTime) : State :=
  let p := s.objEl c o 12 0xFFFFFFFF
  if p = 0xFFFFFFFF then s else s.surveyWrite p code (if code = 1 then qGood else qBad) 0 t

/-- An outcome other than SENT: the object leaves arbitration. EXPIRED and RETRY-LIMIT are recorded (event 0x9008). -/
def State.objFails (s : State) (c o code : Nat) : State :=
  let s := s.updObj c o (fun x =>
    { x with outcome := code, pending := false, inTx := false, held := none,
             failures := x.failures + (if code = 2 || code = 3 then 1 else 0) })
  let s := (s.writeStatusPt c o code s.now).canPend c 5
  if code = 2 || code = 3 then s.evRep 0x9008 (0x0100 + c) [c * 128 + o] else s

/-- The module's claim unit holds the current claim (R353, R211). -/
def State.holder (s : State) : Bool := !s.pairMember || s.red.holds

/-- A process object may be placed (R353). -/
def State.mayPlace (s : State) (c o : Nat) : Bool :=
  s.objEl c o 5 0 == 0 ||
    (s.holder && match s.mode.mode with
      | .run | .hold => true
      | .stop => bitOf (s.objEl c o 9 0) 0
      | .safe => bitOf (s.objEl c o 9 0) 1
      | _ => false)

/-! ## Transmission -/

/-- The key by which a frame wins arbitration, the least first: a base identifier beats the extended ones that begin with it. -/
def arbKey (id : Nat) : Nat :=
  if bitOf id 31 then (id % 2 ^ 29) / 2 ^ 18 * 2 ^ 19 + 2 ^ 18 + id % 2 ^ 18 else id % 2048 * 2 ^ 19

/-- The object of least key among some. -/
def State.firstByArb (s : State) (c : Nat) : List Nat → Option Nat
  | [] => none
  | o :: r =>
    match s.firstByArb c r with
    | none => some o
    | some p => if arbKey (s.objEl c p 2 0) < arbKey (s.objEl c o 2 0) then some p else some o

/-- Raw counts of a nominal bit (R347). -/
def State.nominalBit (s : State) (c : Nat) : Nat :=
  let t := (s.canCtl c).nbt
  (field t 4 0 + 1) * (1 + (field t 12 5 + 1) + (field t 19 13 + 1)) * 5

/-- Start the transmission of the pending object that would win arbitration, on a bus that this controller finds idle (R352,
R361). Its start of frame lies `gap` bits away, and within `span` further bits plus 50 ns: a free value (R105, 12.5 ns steps). -/
def State.startTx (s : State) (c gap span : Nat) : State :=
  let x := s.canCtl c
  if s.canMode c ≠ 1 || x.busOff || x.objs.any (fun o => o.2.inTx) then s
  else
    match s.firstByArb c ((x.objs.filter (fun o => o.2.pending)).map (·.1)) with
    | none => s.updCan c (fun x => { x with idle := true })
    | some o =>
      let d := s.draw
      let bit := s.nominalBit c
      let sof := (s.mer.raw + gap * bit + (Config.random d.1).toNat % (span * bit + 21)) / 5 * 5
      (d.2.updCan c (fun x => { x with idle := false })).updObj c o (fun y => { y with inTx := true, sofAt := sof })

/-- Place an object into arbitration (R351 to R353, R359). A controller that is OFF takes no placement. -/
def State.placeObj (s : State) (c o : Nat) : State :=
  if !s.objSend c o || s.canMode c == 0 || !s.mayPlace c o then s
  else if (s.canCtl c).busOff then s.objFails c o 4
  else if s.objEl c o 10 0 != 0 && s.objBad c o then s.objFails c o 5
  else
    let pl := s.packPayload c o
    let s := if s.payloadFree c o then s.draw.2 else s
    let s := s.updObj c o (fun x =>
      if x.inTx then { x with held := some pl }
      else if x.pending then
        { x with payload := pl, placedAt := s.mer.raw,
                 overwritten := if x.placedAt = s.mer.raw then x.overwritten else satInc 16 x.overwritten }
      else { x with pending := true, payload := pl, placedAt := s.mer.raw, attempts := 0 })
    s.startTx c 0 1

/-- Objects of every controller placed by a trigger: TRIGGER and a test of the object (Table 13-6). -/
def State.placeBy (s : State) (trigger : Nat) (test : State → Nat → Nat → Bool) : State :=
  s.each [0, 1, 2, 3] (fun s c => s.each (s.objs c) (fun s o =>
    if s.objEl c o 6 0 == trigger && test s c o then s.placeObj c o else s))

/-- The release of a point places the objects whose FIELD0 it is (R351, TRIGGER 1). -/
def State.placeOnRelease (s : State) (p : Nat) : State :=
  s.placeBy 1 (fun s c o => match s.objFields c o with | f :: _ => refLocal f.ref == p | [] => false)

/-- A notification committed to a queue places the objects that name it (TRIGGER 2). -/
def State.placeOnQueue (s : State) (q : Nat) : State := s.placeBy 2 (fun s c o => s.objEl c o 13 0 == q)

end Sys2Proof.Machine
end

