-- ==== Sys2Proof/Machine/QueueOps.lean ====
section
/-!
DEFINITION. The hardware queues (R14, R84, R248).
-/
namespace Sys2Proof.Machine

def State.queue (s : State) (q : Nat) : HwQueue := Table.get s.leg.queues {} q

/-- Push an item: a producer with no credit left is refused at once (R14). A refusal in class SAFETY or CYCLIC is a module
fault of rung 3 (R248). An accepted item places the CAN objects its queue triggers (R351). -/
def State.pushQueue (s : State) (q : Nat) (bytes : List Byte) : Bool × State :=
  let x := s.queue q
  if x.fill < x.credit && x.fill < x.depth then
    let x := { x with fill := x.fill + 1, maxFill := max x.maxFill (x.fill + 1), items := x.items ++ [bytes] }
    let s : State := { s with leg := { s.leg with queues := Table.set s.leg.queues {} q x } }
    (true, s.placeOnQueue q)
  else
    let s : State := { s with leg := { s.leg with queues := Table.set s.leg.queues {} q { x with refusals := satInc 32 x.refusals } } }
    (false, if x.cls ≤ 1 then ({ s with leg := { s.leg with pend := setBit s.leg.pend 0 true } } : State).fault 0 0xA813 q 3 [q] else s)

/-- The consumer takes the oldest item. -/
def State.popQueue (s : State) (q : Nat) : State :=
  { s with leg := { s.leg with queues := Table.upd s.leg.queues {} q (fun x =>
      { x with fill := x.fill - 1, items := x.items.drop 1 }) } }

end Sys2Proof.Machine
end

