-- ==== Sys2Proof/Machine/SafOps.lean ====
section
/-!
DEFINITION. The safety group's shared operations: evaluation of channels, pairs, functions and output pairs (R313 to R337).
-/
namespace Sys2Proof.Machine

/-- Function code of the safety field die (Table 02-10). -/
def fnSafety : Nat := 0x0500

def State.safCh (s : State) (n : Nat) : SafChan := Table.get s.saf.chans {} n
def State.safFn (s : State) (f : Nat) : SafFn := Table.get s.saf.fns {} f
def State.safPair (s : State) (p : Nat) : SafPair := Table.get s.saf.pairs {} p
def State.safAxis (s : State) (a : Nat) : SafAxis := Table.get s.saf.axes {} a
def State.updSafCh (s : State) (n : Nat) (f : SafChan → SafChan) : State :=
  { s with saf := { s.saf with chans := Table.upd s.saf.chans {} n f } }
def State.updSafFn (s : State) (n : Nat) (f : SafFn → SafFn) : State :=
  { s with saf := { s.saf with fns := Table.upd s.saf.fns {} n f } }
def State.updSafPair (s : State) (n : Nat) (f : SafPair → SafPair) : State :=
  { s with saf := { s.saf with pairs := Table.upd s.saf.pairs {} n f } }
def State.updSafAxis (s : State) (n : Nat) (f : SafAxis → SafAxis) : State :=
  { s with saf := { s.saf with axes := Table.upd s.saf.axes {} n f } }

/-- Raise a bit of SAF_PEND. -/
def State.safPend (s : State) (b : Nat) : State := { s with saf := { s.saf with pend := setBit s.saf.pend b true } }

/-- Records of the active set. -/
def State.fnRec (s : State) (f : Nat) : FnRec := match s.saf.set with | some x => x.fns.getD f {} | none => {}
def State.outRec (s : State) (p : Nat) : PairOutRec := match s.saf.set with | some x => x.outs.getD p {} | none => {}
def State.inRec (s : State) (q : Nat) : PairInRec := match s.saf.set with | some x => x.pairs.getD q {} | none => {}
def State.axisRec (s : State) (a : Nat) : AxisRec := match s.saf.set with | some x => x.axes.getD a {} | none => {}
def State.stationWired (s : State) : Bool := match s.saf.set with | some x => x.station | none => false
def State.chPointRec (s : State) (n : Nat) : Nat :=
  match s.saf.set with | some x => x.chPoint.getD n 0xFFFFFFFF | none => 0xFFFFFFFF

/-- The die evaluates: a set is active and the mode configures the group (R337). -/
def State.safActive (s : State) : Bool :=
  s.saf.set.isSome && s.mode.mode != .blank && s.mode.mode != .witness

/-- Mode of a safety input (Table 12-2), as SAF_CHn_CFG holds it. -/
def State.safMode (s : State) (n : Nat) : Nat := field (Table.get s.saf.chCfg 0 n) 2 0

/-- The source that feeds a channel is switched off by SOURCE-SHORT (R320). -/
def State.sourceOff (s : State) (n : Nat) : Bool :=
  let m := s.safMode n
  decide (1 ≤ m) && decide (m ≤ 4) && s.saf.sources.contains (m - 1)

/-- The latched faults that stand on a channel. -/
def State.chLatched (s : State) (n : Nat) : Bool := (s.safCh n).pulseMissing || s.sourceOff n

/-- The evaluated state of a channel: held OFF by PULSE-MISSING and SOURCE-SHORT (R318, R320). -/
def State.safOn (s : State) (n : Nat) : Bool := (s.safCh n).on && !s.chLatched n

/-- The input pair's channels show its ON pattern (R319). -/
def pairOn (mode : Nat) (a b : Bool) : Bool := if mode = 1 then a && b else mode == 2 && a && !b

/-- The channels of a pair agree with its mode. -/
def pairAgree (mode : Nat) (a b : Bool) : Bool := if mode = 1 then a == b else a != b

/-- The evaluated state of an input pair. -/
def State.inPairOn (s : State) (q : Nat) : Bool :=
  pairOn (s.inRec q).mode (s.safOn (2 * q)) (s.safOn (2 * q + 1)) && !s.saf.disc.contains q
    && !s.chLatched (2 * q) && !s.chLatched (2 * q + 1)

/-- The channels and pairs that demand a function: a pair in mode 1 or 2 is named by its even bit (Table 12-4). -/
def State.demandChans (s : State) (f : Nat) : List Nat := (upto 12).filter (fun n => bitOf (s.fnRec f).demand n)

/-- Live OFF of a demand channel, latches set aside (R333). -/
def State.chanOff (s : State) (n : Nat) : Bool :=
  let m := (s.inRec (n / 2)).mode
  if m = 0 then !(s.safCh n).on
  else !pairOn m (s.safCh (n / 2 * 2)).on (s.safCh (n / 2 * 2 + 1)).on

/-- Latched fault on a demand channel or its pair. -/
def State.chanFault (s : State) (n : Nat) : Bool :=
  if (s.inRec (n / 2)).mode = 0 then s.chLatched n
  else s.chLatched (n / 2 * 2) || s.chLatched (n / 2 * 2 + 1) || s.saf.disc.contains (n / 2)

/-- The axis speed fault bits as SAF_SPDa_STAT shows them. -/
def axisBits (a : SafAxis) : Nat := packBits [a.phase, a.freq, a.wire, a.disc]

/-- A latched fault on an output pair. -/
def pairFault (p : SafPair) : Bool :=
  p.stuckH || p.stuckL || p.openH || p.openL || p.xshort || p.short || p.overload || p.extDrive || p.nhCond || p.edmFault

/-- The pairs a function names. -/
def State.fnPairs (s : State) (f : Nat) : List Nat := (upto 4).filter (fun p => bitOf (s.fnRec f).outputs p)

/-- The function uses its axis. -/
def State.usesAxis (s : State) (f : Nat) : Bool := (s.fnRec f).type == 3

/-- The demand without the latched faults: channels and pairs, DEM_PT, the triad's OFF demand (R328). -/
def State.liveDemand (s : State) (f : Nat) : Bool :=
  (s.demandChans f).any s.chanOff || (s.safFn f).triadOff

/-- A latched fault of Table 12-7 on something the function uses. -/
def State.faultDemand (s : State) (f : Nat) : Bool :=
  (s.demandChans f).any s.chanFault || (s.usesAxis f && axisBits (s.safAxis (s.fnRec f).axis) != 0)
    || (s.fnPairs f).any (fun p => pairFault (s.safPair p)) || (s.safFn f).envelope

/-- An STO function is demanded on one of these pairs (R330). -/
def State.stoOn (s : State) (pairs : List Nat) : Bool :=
  (upto 8).any (fun g => (s.fnRec g).type == 1 && (s.liveDemand g || s.faultDemand g) && (s.fnPairs g).any pairs.contains)

/-- A demanded function stops without a ramp: STO (R329), SS1-t on any speed fault or with an STO demand on its pairs (R330),
SS1-r on a speed fault of its axis (R331). -/
def State.stopsAtOnce (s : State) (f : Nat) : Bool :=
  match (s.fnRec f).type with
  | 1 => true
  | 2 => (upto 2).any (fun a => axisBits (s.safAxis a) != 0) || s.stoOn (s.fnPairs f)
  | _ => axisBits (s.safAxis (s.fnRec f).axis) != 0

/-- Set a function's state and write its STATE_PT. -/
def State.setFn (s : State) (f st : Nat) : State :=
  let s := s.updSafFn f (fun x => { x with state := st })
  let pt := (s.fnRec f).statePt
  if pt = 0xFFFFFFFF then s else s.surveyWrite (pt % 524288) st qGood 0 s.now

/-- Enter STOPPED, with the cause event 0x8011 carries: 0 STO, 1 standstill, 2 RAMP-TIMEOUT, 3 ENVELOPE (log entry 11). -/
def State.stopFn (s : State) (f cause : Nat) : State := (s.setFn f 0).evS 0x8011 fnSafety [f, cause]

/-- One function at a die sample (R328 to R332, Table 12-5). A demand that comes anew during RAMP keeps t0 and v0. -/
def State.evalFn (s : State) (f : Nat) : State :=
  let r := s.fnRec f
  if r.type = 0 then s else
  let x := s.safFn f
  let d := s.liveDemand f || s.faultDemand f
  let s := if d && !x.demand then
      let ramp := x.state == 3
      ((s.updSafFn f (fun x =>
          { x with t0 := if ramp then x.t0 else s.now, t0Raw := if ramp then x.t0Raw else s.mer.raw, demands := x.demands + 1 })).evRep
        0x8010 fnSafety [f, if s.liveDemand f then 0 else 1]).safPend 0
    else s
  let s := s.updSafFn f (fun x => { x with demand := d })
  match x.state with
  | 0 => if d then s else if r.restart = 1 then s.setFn f 2 else s.setFn f 1
  | 1 => if d then s.setFn f 0 else s
  | 2 =>
    if !d then s
    else if s.stopsAtOnce f then s.stopFn f 0
    else
      let v := (s.safAxis r.axis).speed.natAbs
      (s.updSafFn f (fun x => { x with v0 := v, stillSince := none })).setFn f 3
  | _ => if s.stopsAtOnce f then s.stopFn f 0 else s

/-- A die fault de-energises every pair (R315, Table 12-7). -/
def State.dieFault (s : State) : Bool :=
  s.saf.divergence || s.saf.channelFault || s.saf.selfTest
    || (upto 4).any (fun p => let x := s.safPair p; x.stuckH || x.stuckL || x.xshort || x.extDrive)

/-- Causes of Table 12-7 that name SAFE. -/
def safetySafe (c : Nat) : Bool := c == 0x8030 || c == 0x8033 || c == 0x8040 || c == 0x8041 || c == 0x8042

/-- The mode lets the pair follow its functions (R337). -/
def State.modePermits (s : State) (p : Nat) : Bool :=
  match s.mode.mode with
  | .stop | .run | .hold => true
  | .safe => (s.outRec p).safeBehav == 1 && !s.mode.kept.any (fun c => safetySafe c.code)
  | _ => false

/-- The functions that name a pair. -/
def State.namers (s : State) (p : Nat) : List Nat :=
  (upto 8).filter (fun f => (s.fnRec f).type != 0 && bitOf (s.fnRec f).outputs p)

/-- Every function that names a pair permits it. -/
def State.fnsPermit (s : State) (p : Nat) : Bool :=
  !(s.namers p).isEmpty && (s.namers p).all (fun f => let st := (s.safFn f).state; st == 2 || st == 3)

/-- The pair is energised. -/
def SafPair.energised (x : SafPair) : Bool := x.highClosed && x.lowClosed

/-- The member drives the group: the holder, its own claim watchdog fed (R325, R335). -/
def State.safHolder (s : State) : Bool := !s.pairMember || (s.red.holds && s.red.ownRenew.isSome)

/-- The die's enable of a pair (R325). A pair that no function names is never enabled (log entry 12). -/
def State.dieEnable (s : State) (p : Nat) : Bool :=
  s.safActive && s.safHolder && s.modePermits p && !s.dieFault
    && s.fnsPermit p && !pairFault (s.safPair p)
    && ((s.outRec p).edmInput == 0xFF || (s.safPair p).energised || ((s.safPair p).edmOn && (s.safPair p).edmReady))

/-- Drive one pair: energised while the die's enable and PERMIT are both 1. A change starts the feedback time of R324. -/
def State.drivePair (s : State) (p : Nat) : State :=
  let on := s.dieEnable p && (s.safPair p).permit
  if on = (s.safPair p).energised then s.updSafPair p (fun x => { x with highClosed := on, lowClosed := on })
  else s.updSafPair p (fun x =>
    { x with highClosed := on, lowClosed := on, edmWait := some s.mer.raw, edmReady := false,
             edmOn := if on then false else x.edmOn, ma := if on then x.ma else 0 })

/-- Detail and quality of a safety channel's point. -/
def State.safChQuality (s : State) (n : Nat) : Nat :=
  let d (k : Nat) : Nat := (Config.safetyDetail k).toNat
  if !s.saf.link then 8 * d 4 else if (s.safCh n).pulseMissing then 8 * d 1 else if s.sourceOff n then 8 * d 3 else qGood

/-- Quality of an input pair's point. -/
def State.safPairQuality (s : State) (q : Nat) : Nat :=
  if s.saf.disc.contains q then 8 * (Config.safetyDetail 2).toNat
  else if qCode (s.safChQuality (2 * q)) ≠ qGood then s.safChQuality (2 * q) else s.safChQuality (2 * q + 1)

/-- Write the points of the channels and input pairs. -/
def State.writeSafInputs (s : State) : State :=
  let s := s.each (upto 12) (fun s n =>
    let pt := s.chPointRec n
    if pt = 0xFFFFFFFF || s.safMode n = 0 then s else s.surveyWrite (pt % 524288) (s.safOn n).toNat (s.safChQuality n) 0 s.now)
  s.each (upto 6) (fun s q =>
    let r := s.inRec q
    if r.point = 0xFFFFFFFF || r.mode = 0 then s
    else s.surveyWrite (r.point % 524288) (s.inPairOn q).toNat (s.safPairQuality q) 0 s.now)

/-- A member that does not hold the claim watches how long its function states differ from the duty's staged enables (R336). -/
def State.noteMismatch (s : State) : State :=
  let differ := s.safActive && s.pairMember && !s.red.holds && (upto 4).any (fun p => s.fnsPermit p != (s.safPair p).stagedEnable)
  { s with saf := { s.saf with mismatchSince := if differ then some (s.saf.mismatchSince.getD s.mer.raw) else none } }

/-- A member that takes the claim tests its switches within 100 ms and drives its sources in the frame in progress (R336). -/
def State.safTakeover (s : State) : State :=
  { s with saf := { s.saf with frameAt := 0, pairs := s.saf.pairs.map (fun p => (p.1, { p.2 with lastTest := 0, testLow := false })) } }

/-- Start or end the disagreement time of a channel's pair (R319). -/
def State.noteDisagree (s : State) (n : Nat) : State :=
  let q := n / 2
  let m := (s.inRec q).mode
  if m = 0 then s else
  let agree := pairAgree m (s.safCh (2 * q)).on (s.safCh (2 * q + 1)).on
  let d := if agree then Table.erase s.saf.disagree q
    else if (Table.find s.saf.disagree q).isSome then s.saf.disagree else Table.put s.saf.disagree q s.mer.raw
  { s with saf := { s.saf with disagree := d } }

/-- What follows the functions' states in a die sample: the pairs, the points. -/
def State.safDrive (s : State) : State :=
  (s.each (upto 4) State.drivePair).writeSafInputs.noteMismatch

/-- A die sample: the functions, the pairs, the points. -/
def State.safEval (s : State) : State :=
  if s.safActive then (s.each (upto 8) State.evalFn).safDrive
  else s.each (upto 4) (fun s p => s.updSafPair p (fun x => { x with highClosed := false, lowClosed := false, ma := 0 }))

end Sys2Proof.Machine
end

