-- ==== Sys2Proof/Machine/TransOps.lean ====
section
/-!
DEFINITION. Transitions in progress (R37) and the release of values to output channels.
-/
namespace Sys2Proof.Machine

/-- A transition is in progress (R37): some task or loop group is still awaited, its instant is still to come, or a claim
application is outstanding (R465). The instant of STOP to RUN is no end: it only keeps earlier starts back (R36). -/
def State.inTransition (s : State) : Bool :=
  s.mode.applying || match s.mode.trans with
    | none => false
    | some t => !t.tasks.isEmpty || !t.groups.isEmpty
        || (t.frm != .stop && match t.until_ with | some i => decide (s.now < i) | none => false)

/-- Change the transition in progress; one with nothing left to wait for ends. -/
def State.updTrans (s : State) (f : Trans → Trans) : State :=
  { s with mode := { s.mode with trans := match s.mode.trans with
      | none => none
      | some t => let u := f t; if u.tasks.isEmpty && u.groups.isEmpty && u.until_.isNone then none else some u } }

/-- A task or group has done what the transition waited for. -/
def State.taskSettled (s : State) (t : Nat) : State := s.updTrans (fun x => { x with tasks := x.tasks.filter (· != t) })
def State.groupSettled (s : State) (g : Nat) : State := s.updTrans (fun x => { x with groups := x.groups.filter (· != g) })

/-- A group's sample has been staged: STOP to RUN no longer waits for it. -/
def State.groupStarted (s : State) (g : Nat) : State :=
  s.updTrans (fun x => if x.dest = .run then { x with groups := x.groups.filter (· != g) } else x)

/-- A start at an instant is not kept back by STOP to RUN: it lies at least 1 ms after acceptance (R36). -/
def State.startOk (s : State) (i : MTime) : Bool :=
  match s.mode.trans with
  | some t => !(t.frm == .stop && t.dest == .run) || (match t.until_ with | some u => decide (u ≤ i) | none => true)
  | none => true

/-- The transition in progress waits for this task, this group. -/
def State.awaitsTask (s : State) (t : Nat) : Bool := match s.mode.trans with | some x => x.tasks.contains t | none => false
def State.awaitsGroup (s : State) (g : Nat) : Bool := match s.mode.trans with | some x => x.groups.contains g | none => false

/-- Release a value on an output channel. A head's value travels in the output frame; a CAN object is placed (R351). -/
def State.releaseChan (s : State) (ch : Chan) (raw : Nat) (x : F64) : State :=
  match ch with
  | .dio n => s.releaseDio n (!F64.eq x 0)
  | .ao n => s.releaseAo n x
  | .head h c => s.updHead h (fun k => { k with outs := Table.set k.outs 0 c raw })
  | .can c o => s.placeObj c o
  | .saf p => s.updSafPair p (fun x => { x with stagedEnable := raw != 0 })

/-- Release one value of a task. -/
def State.releaseOut (s : State) (o : OutVal) : State :=
  match o.chan with
  | .ao _ => s.releaseChan o.chan o.value (F32.widen (BitVec.ofNat 32 o.value))
  | _ => s.releaseChan o.chan o.value (F64.ofInt o.value)

/-- Give a channel its stop value (R36); a head keeps its own stop values. -/
def State.stopChan (s : State) : Chan → State
  | .dio n => s.idleDio .stop n
  | .ao n => s.idleAo .stop n
  | _ => s

end Sys2Proof.Machine
end

