-- ==== Sys2Proof/Machine/CenOps.lean ====
section
/-!
DEFINITION. The control engine's shared operations: instants of a sample, starts, misses, releases (R155, R156, R169 to R177).
-/
namespace Sys2Proof.Machine

/-- The output channel whose command point is the loop's OUT_PT. -/
def State.loopChan (s : State) (slot : Nat) : Option Chan :=
  let o := s.loopRef slot 11
  if refNone o then none else (s.sur.cmdPts.find? (fun x => x.1 == refLocal o)).map (·.2)

/-- L and G of a loop in ns (R20, R21, R170). -/
def State.loopLNs (s : State) (slot : Nat) : Int := ticksNs (s.lN slot 14 0)
def State.loopG (s : State) (slot : Nat) : Int := s.guardNs ((s.loopChan slot).toList)

/-- The point a reference names is written by a head, by an on-module channel. -/
def State.refHead (s : State) (r : Nat) : Bool := !refNone r && (s.pointMeta (refLocal r)).kind == 2
def State.loopReadsHead (s : State) (slot : Nat) : Bool := [4, 5, 6, 7, 8, 9, 10, 12, 13].any (fun n => s.refHead (s.loopRef slot n))
def State.loopWritesHead (s : State) (slot : Nat) : Bool := match s.loopChan slot with | some (.head _ _) => true | _ => false
/-- The group makes its own ring exchange (R156). -/
def State.groupOnRing (s : State) (g : Nat) : Bool := (s.groupSlots g).any (fun i => s.loopReadsHead i || s.loopWritesHead i)

/-- T_RDY of a group in ns (R171). -/
def State.groupTRdy (s : State) (g : Nat) : Int := if (s.groupSlots g).any s.loopReadsHead then s.ringTin else 1000

/-- The on-module digital channels that the loops of a group read. -/
def State.groupInChans (s : State) (g : Nat) : List Nat :=
  ((s.groupSlots g).flatMap (fun i => [4, 5, 6, 7, 8, 9, 10, 12, 13].filterMap (fun n =>
    let r := s.loopRef i n
    let m := s.pointMeta (refLocal r)
    if !refNone r && m.kind == 1 && m.writer < 32 then some m.writer else none))).eraseDups

/-- The enabled loop groups. -/
def State.groups (s : State) : List Nat := (upto 256).filter s.groupOn

/-- An input group counts as configured, an output group counts as configured (R114). -/
def State.inGroupUsed (s : State) (n : Nat) : Bool :=
  s.tasks.any (fun t => (s.taskRec t).inGroup == n) || s.groups.any (fun g => s.el (0x30100 + g) 3 0xFFFF == n)
def State.outGroupUsed (s : State) (n : Nat) : Bool := s.tasks.any (fun t => (s.taskRec t).outGroup == n)

/-- The channels of an input group: the union over the records that name it (R114). -/
def State.inGroupChans (s : State) (n : Nat) : List Nat :=
  ((s.tasks.filter (fun t => (s.taskRec t).inGroup == n)).flatMap s.taskInChans
    ++ (s.groups.filter (fun g => s.el (0x30100 + g) 3 0xFFFF == n)).flatMap s.groupInChans).eraseDups

/-- Latch an input group: each channel once (R23). -/
def State.latchGroup (s : State) (n : Nat) : State := s.each (s.inGroupChans n) State.latchDio

/-- The commit deadline of a group's sample: the earliest of its loops' (R22, R174). -/
def State.groupDeadline (s : State) (g : Nat) : MTime :=
  let l := (s.groupSlots g).map (fun i => s.loopLNs i - s.loopG i)
  (s.group g).s + (l.tail.foldl min (l.headD 0))

/-- A sample is missed (R174): no output is released, MISS_CNT advances, and MISS_LIMIT holds the loop with cause 3. -/
def State.markMissed (s : State) (g : Nat) : State :=
  let S := (s.group g).s
  let s := s.updGroup g (fun x =>
    { x with missedNow := true, latched := false, missed := satInc 32 x.missed,
             due := x.due ++ (s.groupSlots g).map (fun i => (i, S + s.loopLNs i, 1)) })
  let s : State := { s with cen := { s.cen with missed := satInc 32 s.cen.missed, lastMiss := g, missSeen := true } }
  let s := s.faultRep 0 0x3002 g 1 [g]
  s.each (s.groupSlots g) (fun s i =>
    let n := min 255 ((s.loop i).missCnt + 1)
    let s := s.updLoop i (fun x => { x with missCnt := n, transfer := true, reinit := true })
    if s.missLimit i ≤ n && !bitOf (s.loop i).heldSet 3 then
      (s.updLoop i (fun x => { x with heldSet := setBit x.heldSet 3 true, modeAct := mHeld })).fault 0 0x3003 i 3 [i]
    else s)

/-- A group's sample instant (Table 06-9): inputs latched, the ring exchange started. A sample still in progress here has
missed its deadline. While stopping, the group stops here and its outputs take their stop values at S + L (R36). -/
def State.startGroup (s : State) (g : Nat) (S : MTime) : State :=
  let x := s.group g
  let s := if (x.latched || x.queued) && !x.staged && !x.missedNow then s.markMissed g else s
  let s := s.latchGroup (s.el (0x30100 + g) 3 0xFFFF)
  if s.mode.mode = .stop then
    s.updGroup g (fun x => { x with s := S, latched := false, due := x.due ++ (s.groupSlots g).map (fun i => (i, S + s.loopLNs i, 2)) })
  else
    let s := s.updGroup g (fun x =>
      { x with s := S, latched := true, staged := false, queued := x.queued && !x.todo.isEmpty, missedNow := x.missedNow && !x.todo.isEmpty })
    if s.groupOnRing g then s.startExchange (16 + g) S else s

/-- Queue a group to the lanes (R171, R174): refused, and the sample missed, while its previous evaluation is in progress. -/
def State.queueGroup (s : State) (g : Nat) : State :=
  if !(s.group g).todo.isEmpty then s.markMissed g
  else
    let l := s.groupSlots g
    let b := s.cen.backlog + l.length
    let s : State := { s with cen := { s.cen with backlog := b, backlogMax := max s.cen.backlogMax b } }
    s.updGroup g (fun x => { x with latched := false, queued := true, todo := l, done := [], staged := false, missedNow := false })

/-- Write a loop's output record (R167, R169): FLAGS and quality, age stamped with S. -/
def State.writeOut (s : State) (slot : Nat) (raw q flags : Nat) (S : MTime) : State :=
  let o := s.loopRef slot 11
  if refNone o then s else s.surveyWrite (refLocal o) raw q flags S

/-- Release a loop's staged value (R167, R169): the stage, then OUT_PT, in the same tick. The stage answers with the sign
of R164. MISS_CNT returns to 0 (R174). -/
def State.releaseLoop (s : State) (slot : Nat) (S : MTime) : State :=
  let x := s.loop slot
  let o := s.loopRef slot 11
  let raw := encodeVal (refType o) x.uPrev
  let v := decodeVal (refType o) raw
  let s := match s.loopChan slot with | some ch => s.releaseChan ch raw v | none => s
  let ds := match s.loopChan slot with | some (.ao n) => (s.aoCh n).ds | _ => 0
  let s := s.updLoop slot (fun x => { x with missCnt := 0, dsHi := ds == 1, dsLo := ds == 2 })
  let s := s.writeOut slot raw x.outQ x.flags S
  if refNone o then s else s.placeOnRelease (refLocal o)

/-- Rewrite OUT_PT at a missed sample: previous value, flag MISSED, quality STALE (R174). -/
def State.releaseMissed (s : State) (slot : Nat) (S : MTime) : State :=
  let r := s.record (refLocal (s.loopRef slot 11))
  s.writeOut slot r.value qStale (setBit (setField r.flags 2 0 (s.loop slot).modeAct) 6 true) S

/-- What is due at S + L for a group: values staged, misses, stop values. -/
def State.releaseDue (s : State) (g : Nat) : State :=
  let due := ((s.group g).due.filter (fun d => decide (d.2.1 ≤ s.now)))
  let s := s.updGroup g (fun x => { x with due := x.due.filter (fun d => !decide (d.2.1 ≤ s.now)) })
  let s := s.each due (fun s d =>
    let S := d.2.1 - s.loopLNs d.1
    match d.2.2 with
    | 0 => s.releaseLoop d.1 S
    | 1 => s.releaseMissed d.1 S
    | _ => match s.loopChan d.1 with | some ch => s.stopChan ch | none => s)
  let s := if due.any (fun d => d.2.2 == 0) then
      (s.updGroup g (fun x => { x with samples := x.samples + 1 })).closeFault 0 0x3002 g else s
  if due.any (fun d => d.2.2 == 2) && (s.group g).due.isEmpty then s.groupSettled g else s

/-- The present value of the stage that a loop writes, in its units; with no stage, of OUT_PT (R177). -/
def State.stageValue (s : State) (slot : Nat) : F64 :=
  let o := s.loopRef slot 11
  let v := match s.loopChan slot with
    | some (.dio n) => F64.ofInt ((s.dioCh (s.dioBase n)).cmd.toNat : Int)
    | some (.ao n) => engOf (s.aoLo n) (s.aoHi n) (s.aoCh n).iCmd
    | some (.head h c) => decodeVal (refType o) (Table.get (s.head h).outs 0 c)
    | _ => if refNone o then 0 else decodeVal (refType o) (s.record (refLocal o)).value
  if F64.isFinite v then v else 0

/-- The loops are about to start (R177): TRANSFER, the candidate set at once, a fresh Sounding model, U_PREV of the stage. -/
def State.startLoops (s : State) : State :=
  s.each s.slots (fun s i =>
    s.updLoop i (fun x => { x with transfer := true, first := true, reinit := true, uPrev := s.stageValue i }))

/-- No sample is in progress any more, and nothing is due. -/
def State.clearGroups (s : State) : State :=
  { s with cen := { s.cen with backlog := 0, groups := s.cen.groups.map (fun x =>
      (x.1, { x.2 with latched := false, queued := false, todo := [], done := [], staged := false, missedNow := false, due := [] })) } }

/-- Whether loops run here: in their own right, or in shadow. -/
def State.loopsRun (s : State) : Bool := match s.mode.mode with | .run | .hold => true | _ => false

/-- HELD_CAUSE: the highest-numbered cause standing (R168). -/
def LoopState.heldCause (x : LoopState) : Nat :=
  if bitOf x.heldSet 4 then 4 else if bitOf x.heldSet 3 then 3 else if bitOf x.heldSet 2 then 2 else if bitOf x.heldSet 1 then 1 else 0

/-- The first sample instant of a group at or after a time (R175). -/
def State.sampleFrom (s : State) (g : Nat) (t : MTime) : MTime :=
  let r := s.slot g
  if r.enable then firstInstant r.instant r.period t else
  let n := firstInstant (ticksNs (s.groupPhase g)) (ticksNs (s.groupPeriod g)) t
  n

end Sys2Proof.Machine
end

