-- ==== Sys2Proof/Machine/ModeOps.lean ====
section
/-!
DEFINITION. Entering and leaving modes, SAFE and its causes, starting and stopping tasks and loops, erasing the configuration
(R31 to R39, R140 to R150, R464).
-/
namespace Sys2Proof.Machine

/-! ## Entering a mode -/

/-- Claim renewals are sent in this mode where the module holds its claim (Table 02-2). -/
def renewMode : Mode → Bool
  | .stop | .run | .hold | .safe => true
  | _ => false

/-- The module holds its claim: a standalone module always does (R32). -/
def State.ownsClaim (s : State) : Bool := if s.pairMember then s.red.holds else s.role == 0

/-- Report a mode (R31, event 0x1001); the duty sends it to the standby (R204, MODE). Renewals start or stop with it (R34). -/
def State.setMode (s : State) (m : Mode) (cause : Nat) : State :=
  let old := s.mode.mode
  let s : State := { s with mode := { s.mode with prev := old, mode := m, at_ := s.now, cause := cause, autoWait := false } }
  let s : State := { s with red := { s.red with renewing := renewMode m && s.ownsClaim } }
  let s := s.ev 0x1001 [old.code, m.code, cause]
  if s.pairMember && s.red.holds then s.send (.copy 6 m.code s.now []) else s

/-- No task cycle is in progress any more, and nothing it wrote is on its way. -/
def State.clearTasks (s : State) : State :=
  { s with tsk := { s.tsk with runs := s.tsk.runs.map (fun x =>
      (x.1, { x.2 with state := if s.taskOn x.1 then .waiting else .unconfigured, latched := false, frozen := false, inset := [],
                       written := [], handed := [], missed := false, stepped := false, atBreak := false, freezeAtEnd := false,
                       heldAt := none, stopAt := none })) },
           tri := { s.tri with unit_ := .idle, preempted := [] } }

/-- Tasks, loops, exchanges, patterns and transitions end where they stand. -/
def State.abortCyclic (s : State) : State :=
  let s := s.clearTasks.clearGroups
  { s with ring := { s.ring with exchanges := [] }, dio := { s.dio with runs := [] },
           mode := { s.mode with trans := none, applying := false } }

/-- Process and safety outputs take their states for the present mode (Table 02-2). -/
def State.applyIdle (s : State) : State :=
  let m := s.mode.mode
  let s := s.each (upto 32) (fun s n => s.idleDio m n)
  let s := s.each (upto 8) (fun s n => s.idleAo m n)
  s.each (upto 4) State.drivePair

/-- A transition of higher rank abandons one in progress (R37, event 0x1003). -/
def State.abandon (s : State) (dest : Mode) : State :=
  if s.inTransition then
    let t : Trans := s.mode.trans.getD { frm := .stop, dest := .run }
    let s : State := { s with mode := { s.mode with trans := none, applying := false }, red := { s.red with request := none } }
    s.ev 0x1003 [t.frm.code, t.dest.code, s.mode.mode.code, dest.code]
  else s

/-- The partner as its heartbeats report it (R261). -/
def State.peer (s : State) : DirRec := Table.get s.leg.directory {} s.partner

/-- The station standby is marked not ready (R208, R224). -/
def State.notReady (s : State) : State :=
  { s with red := { s.red with ready := false, matched := [], copies := [], shadowing := [], nextUnit := 0 } }

/-- The active safety set of a station member differs from its partner's (R340). -/
def State.setDiffers (s : State) : Bool :=
  s.role == 1 && (match s.saf.partnerCrc with | some c => c != s.saf.crc | none => false)

/-- The partner's set CRC as it is now known; a difference keeps the member not ready (R340). -/
def State.learnSet (s : State) (p : Option Nat) : State :=
  let s : State := match p with | some c => { s with saf := { s.saf with partnerCrc := some c } } | none => s
  if s.setDiffers then s.notReady.evS 0x8004 fnSafety [] else s

/-- Renewals stop at once (R203). -/
def State.stopRenewals (s : State) : State := { s with red := { s.red with renewing := false, permitAt := none } }

/-- A cause is kept with the stored SAFE state (R39). -/
def State.keep (s : State) (c : Cause) : State :=
  { s with mode := { s.mode with kept := if s.mode.kept.contains c then s.mode.kept else s.mode.kept ++ [c] } }

/-- Enter SAFE (R38, R39): for a fault of the module itself the renewals stop first. In BLANK, WITNESS and SERVICE a cause
changes nothing. In SAFE a further cause joins those kept. -/
def State.enterSafe (s : State) (code obj : Nat) (moduleFault : Bool) : State :=
  match s.mode.mode with
  | .blank | .witness | .service => s
  | .safe =>
    let s := s.keep { code := code, obj := obj }
    let s := if moduleFault then s.stopRenewals else s
    s.each (upto 4) State.drivePair
  | _ =>
    let s := s.abandon .safe
    let s := s.setMode .safe code
    let s := if moduleFault then s.stopRenewals else s
    let s : State := (if s.mode.safeStored then s else { s with mode := { s.mode with safeStored := true, kept := [] } }).keep { code := code, obj := obj }
    let rung := ((s.mode.faults.find? (fun f => f.code == code)).map (·.rung)).getD 0
    let s := s.offer (s.stamp 0x1008 0 rung [code])
    s.abortCyclic.applyIdle

/-- Enter STANDBY, BLANK, SERVICE or WITNESS: outputs go off at once (Table 02-4). -/
def State.enterOff (s : State) (m : Mode) (cause : Nat) : State := (s.setMode m cause).abortCyclic.applyIdle

/-! ## Programs -/

/-- Where a core's private banks lie (Table 01-2). -/
def privBase (c : Nat) : Nat := (24 + 4 * c) * 0x80000

/-- Write the initial image into the private banks of the three cores. -/
def State.loadImage (s : State) (img : List (Nat × List Byte)) : State :=
  let put (m : Memory) (c : Nat) : Memory := img.foldl (fun m x => m.writeN (privBase c + (x.1 - 0x10000000)) x.2) m
  { s with mem := { s.mem with data := [0, 1, 2].foldl put s.mem.data } }

/-- The elements of a task record (Table 05-1). -/
def taskEls (r : TaskRec) : List Nat :=
  [r.enable.toNat, r.period, r.phase, r.priority, r.latency, r.ringOwner.toNat, r.inGroup, r.outGroup, r.rel1, r.rel2, r.rel3,
   r.warnPct, r.skipLimit, r.ovrReaction]

/-- The task table of a program comes into force: its elements, its Waypoint slots, its task states. -/
def State.setTasks (s : State) (l : List TaskRec) : State :=
  s.each (upto 16) (fun s t =>
    let s := s.each ((taskEls (l.getD t {})).zipIdx) (fun s v => s.setEl (0x21000 + t) v.2 v.1)
    let s := s.updTask t (fun x => { x with state := if s.taskOn t then .waiting else .unconfigured })
    s.armTask t)

/-- The staged program becomes active at a transition out of STOP into RUN or STANDBY (R150). -/
def State.activate (s : State) : State :=
  match s.tsk.staged with
  | none => s
  | some p =>
    let s : State := { s with tsk := { s.tsk with
      active := some p, staged := none, insts := [], singles := [], batches := [],
      values := p.singles.foldl (fun t d => Table.put t d.ea d.init) [],
      consts := initConsts p } }
    (s.loadImage p.image).setTasks p.tasks

/-- Non-retentive state takes its initial values (R141, R146, R464). -/
def State.initVars (s : State) : State :=
  match s.tsk.active with
  | none => s
  | some p =>
    let s := s.clearInsts.loadImage p.image
    { s with tsk := { s.tsk with
        values := p.singles.foldl (fun t d => if d.retentive then t else Table.put t d.ea d.init) s.tsk.values } }

/-! ## Starting and stopping -/

/-- The groups that have loops to evaluate. -/
def State.liveGroups (s : State) : List Nat := s.groups.filter (fun g => !(s.groupSlots g).isEmpty)

/-- The effects of STOP to RUN, counted from now (R36, R144, R177). -/
def State.startRun (s : State) : State :=
  let s := s.activate.initVars
  let s := s.each s.tasks (fun s t => s.updTask t (fun x =>
    { x with state := .waiting, firstNext := true, consec := 0, stopAt := none, heldAt := none, handed := [], written := [] }))
  let s := s.startLoops
  { s with mode := { s.mode with trans := some { frm := .stop, dest := .run, tasks := s.tasks, groups := s.liveGroups, until_ := some (s.now + 1000000) } } }

/-- The first release instant of a task's cycle series after now (R36). -/
def State.nextRelease (s : State) (t : Nat) : MTime :=
  let r := s.taskRec t
  firstInstant (r.phase + taskLNs r) (taskTNs r) (s.now + 1)

/-- The effects of RUN to STOP and of HOLD to STOP (R36): a task frozen at a breakpoint is abandoned there. -/
def State.stopRun (s : State) (frm : Mode) : State :=
  let s := s.each s.tasks (fun s t => s.updTask t (fun x =>
    let x := if x.atBreak || frm = .hold then
        { x with latched := false, frozen := false, inset := [], written := [], state := .waiting }
      else x
    { x with stopAt := some (s.nextRelease t), atBreak := false, freezeAtEnd := false, heldAt := none }))
  { s with mode := { s.mode with trans := some { frm := frm, dest := .stop, tasks := s.tasks, groups := s.liveGroups } },
           dio := { s.dio with runs := [] } }

/-- The effects of RUN to HOLD (R36, R145): tasks between cycles freeze at once, the others at the end of their cycle. -/
def State.holdRun (s : State) (brk : Option Nat) : State :=
  let busy := s.tasks.filter (fun t => (s.taskRun t).busy && brk != some t)
  let s := s.each s.tasks (fun s t => s.updTask t (fun x =>
    if busy.contains t then { x with freezeAtEnd := true }
    else { x with state := .frozen, atBreak := brk == some t, heldAt := some x.c }))
  { s with mode := { s.mode with holdSince := s.mer.raw, trans :=
      if busy.isEmpty then none else some { frm := .run, dest := .hold, tasks := busy } } }

/-- The effects of HOLD to RUN: the task at its breakpoint goes on, the others wait for their next cycle. -/
def State.resumeRun (s : State) : State :=
  s.each s.tasks (fun s t => s.updTask t (fun x =>
    { x with state := if x.atBreak then .running else if x.busy then x.state else .waiting, atBreak := false, freezeAtEnd := false,
             heldAt := if x.atBreak then none else x.heldAt }))

/-! ## Erasing the configuration (R464) -/

/-- An element that the configuration does not hold, by entry (R464): breakpoints, constants staging, staged tables. -/
def outsideConfig (e : Nat) : Bool :=
  (0x21210 ≤ e && e ≤ 0x21213) || e == 0x22011 || (0x34000 ≤ e && e ≤ 0x341FF)

/-- Clear every force; forces cleared together record one event 0xA823 (R259). -/
def State.clearForces (s : State) : State :=
  let n := s.forces.length
  let s : State := { s with elems := s.elems.filter (fun x => !(decide (ea 0xA8300 0 ≤ x.1) && decide (x.1 < ea 0xA8400 0))),
                            sur := { s.sur with forceCount := 0 } }
  if n = 0 then s else s.ev 0xA823 [0xFFFFFFFF, n]

/-- Erase the configuration: what it holds, programs, safety set, retentive data, trims, forces. -/
def State.eraseConfig (s : State) : State :=
  let s := s.clearForces
  { s with
    elems := s.elems.filter (fun x => outsideConfig (x.1 / 256)),
    mode := { s.mode with cfgHeld := false, cfgId := 0, modIndex := 0xFF, cfgElems := [] },
    tsk := { s.tsk with active := none, staged := none, insts := [], singles := [], values := [], consts := [], batches := [], runs := [] },
    cen := {}, ring := {},
    sur := {}, wpt := { s.wpt with slots := s.wpt.slots.filter (fun x => decide (384 ≤ x.1)), staged := [] },
    saf := { s.saf with set := none, crc := 0, pending := none, pendCrc := 0, chCfg := [], fns := [], axes := [], pairs := [] },
    leg := { s.leg with queues := [], services := [] },
    dio := { s.dio with cfg := [], deb := [], maxact := [], runs := [], chans := [] },
    aio := { s.aio with aiCfg := [], aoCfg := [], aoSafe := [], z := [], k := [], ai := [], ao := [] },
    can := {},
    mem := { s.mem with data := s.mem.data.wipe 0x62000000 0x63000000 } }

/-! ## The unit that runs on the triad (R124) -/

/-- Priority of a unit: tasks by their priority, services and extensions below. -/
def State.unitPrio (s : State) : Unit_ → Nat
  | .task t => (s.taskRec t).priority
  | .service _ => 16
  | .extension _ => 17
  | .idle => 18

/-- The unit of highest priority among those that wait. -/
def State.bestUnit (s : State) : List Unit_ → Unit_
  | [] => .idle
  | u :: us => let v := s.bestUnit us; if s.unitPrio v < s.unitPrio u then v else u

/-- A unit has ended. -/
def State.endUnit (s : State) (u : Unit_) : State :=
  if s.tri.unit_ = u then
    let n := s.bestUnit s.tri.preempted
    { s with tri := { s.tri with unit_ := n, preempted := s.tri.preempted.erase n } }
  else { s with tri := { s.tri with preempted := s.tri.preempted.filter (· != u) } }

end Sys2Proof.Machine
end

