-- ==== Sys2Proof/Machine/CauseOps.lean ====
section
/-!
DEFINITION. The causes of SAFE that are present, and the first that remains (R38, R39).
-/
namespace Sys2Proof.Machine

/-- Causes of SAFE that are present (R38): code, object, module fault. -/
def State.presentCauses (s : State) : List (Nat × Nat × Bool) :=
  ((upto 4).filter (fun p => let x := s.safPair p; x.stuckH || x.stuckL || x.xshort)).map (fun p => (0x8030, p, true))
    ++ ((upto 4).filter (fun p => (s.safPair p).extDrive)).map (fun p => (0x8033, p, false))
    ++ (if s.saf.divergence then [(0x8040, 0, true)] else [])
    ++ (if s.saf.channelFault then [(0x8041, 0, true)] else [])
    ++ (if s.saf.selfTest then [(0x8042, 0, true)] else [])
    ++ (if s.tri.dead then [(if s.mode.faults.any (fun f => f.code == 0x2004) then 0x2004 else 0x2005, 0, true)] else [])
    ++ (s.slots.filter (fun i => (s.loop i).latched && s.lN i 41 0 == 2)).map (fun i => (0x3012, i, false))

/-- A kept cause remains (R39): those of a field, the safety group, the triad and Sounding while they are present; a safe
demand and a SKIP_LIMIT are ended by the acknowledge. -/
def State.remains (s : State) (c : Cause) : Bool := s.presentCauses.any (fun x => x.1 == c.code && x.2.1 == c.obj)

/-- The first remaining cause (R39): the earliest kept one that still remains, then any other that is present. -/
def State.firstCause (s : State) : Option Nat :=
  match s.mode.kept.find? s.remains with
  | some c => some c.code
  | none => s.presentCauses.head?.map (·.1)

end Sys2Proof.Machine
end

