-- ==== Sys2Proof/Machine/Operands.lean ====
section
/-!
DEFINITION. The operands of a request: who asks, at what level, and the answer (R236, R243, R247, Table 09-7).
-/
namespace Sys2Proof.Machine

/-- Privilege levels (R236). -/
def observer : Nat := 0
def operator : Nat := 1
def engineer : Nat := 2

/-- Detail of STATE-REFUSED (Table 09-7): mode, life cycle, and, in SAFE, the first remaining cause (R39) or 0. -/
def State.stateDetail (s : State) : Nat :=
  s.mode.mode.code + s.mode.lifeCycle.code * 256 + (if s.mode.mode = .safe then s.firstCause.getD 0 else 0) * 65536

/-- Answer a request. -/
def State.answer (s : State) (st : Status) (detail : Nat) : State := s.send (.status st.code detail 0)

/-- Answer OK. -/
def State.okAns (s : State) : State := s.answer .ok 0

/-- Refuse a state change (Table 09-7, 0x07). -/
def State.refuseState (s : State) : State := s.answer .stateRefused s.stateDetail

/-- A request at a level: refused in RETIRED (R47) and below the level (R243), otherwise done. -/
def request (s : State) (who : Who) (level : Nat) (f : State → State) : Res :=
  whenUp s (fun s =>
    if s.mode.lifeCycle = .retired then s.refuseState
    else if who.level.val < level then s.answer .privilege level
    else f s)

/-- Answer with an answer. -/
def State.give (s : State) (a : Ans) : State := s.send (.status a.status.code a.detail a.retry)

/-- Refuse with the answer a check gives, or do the effect and answer OK. -/
def State.guarded (s : State) (bad : Option Ans) (f : State → State) : State :=
  match bad with | some a => s.give a | none => (f s).okAns

/-- Answer what an effect answers. -/
def giveBoth (x : Ans × State) : State := x.2.give x.1

/-- Plain answers. -/
def ansOk : Ans := { status := .ok }
def ansRange : Ans := { status := .range }
/-- CHECK-FAILED: check in bits 31 to 28, object below (Table 09-8). -/
def ansCheck (check obj : Nat) : Ans := { status := .checkFailed, detail := check * 2 ^ 28 + obj % 2 ^ 28 }
/-- STATE-REFUSED with the present mode and life cycle. -/
def State.ansState (s : State) : Ans := { status := .stateRefused, detail := s.stateDetail }

/-- SEALED: LCK fields are read only (R46). -/
def State.sealed_ (s : State) : Bool := decide (s.mode.lifeCycle = .sealed)

end Sys2Proof.Machine
end

