-- ==== Sys2Proof/Machine/Analogue.lean ====
section
/-!
DEFINITION. The analogue channels' and HART masters' commands (R290 to R312).
-/
namespace Sys2Proof.Machine

/-- A changed input detail: its event, and the pending bit. -/
def State.aiChanged (s : State) (n old new : Nat) : State :=
  if old = new then s else
  let s := s.aioPend n
  if new = 3 || new = 4 || new = 5 then s.evRep 0x7001 0 [n, new] else if new = 0 then s.ev 0x7002 [n] else s

/-- AI_CONVERSION_RESULT (R291 to R294): the result of the window that ended at the last whole millisecond, written 20 µs
after it and stamped with the window end less 1 ms. -/
def execAiConversionResult (ch : Fin 8) (code : Nat) (s : State) : Res :=
  whenUp s (fun s =>
    if !bitOf (s.aiCfg ch) 0 || s.now % 1000000 < 20000 then s else
    let stamp : MTime := s.now - s.now % 1000000 - 1000000
    let c := s.aiCh ch
    if c.limiterOpen then (s.updAi ch (fun c => { c with code := 0, current := F64.zero })).writeAi ch stamp
    else
      let i := s.aiCurrent ch code
      let d := classify c.detail i
      let s := s.updAi ch (fun c => { c with code := code % 262144, current := i, detail := d })
      (s.aiChanged ch c.detail d).writeAi ch stamp)

/-- AI_OVERCURRENT (R294): the limiter opens, the channel reads 0 mA. -/
def execAiOvercurrent (ch : Fin 8) (s : State) : Res :=
  whenUp s (fun s =>
    if !bitOf (s.aiCfg ch) 0 || (s.aiCh ch).limiterOpen then s else
    let s := s.updAi ch (fun c => { c with limiterOpen := true, openAt := s.mer.raw, detail := 6, current := F64.zero, code := 0 })
    ((s.aioPend ch).evRep 0x7003 0 [ch]).writeAi ch s.now)

/-- AI_LIMITER_RETEST (R294): every 1 s the limiter recloses to test, and stays closed below 25 mA. -/
def execAiLimiterRetest (ch : Fin 8) (code : Nat) (s : State) : Res :=
  whenUp s (fun s =>
    let c := s.aiCh ch
    if !c.limiterOpen || s.mer.raw < c.openAt + ticksMs 1000 then s else
    let i := s.aiCurrent ch code
    if F64.lt i (F64.ofInt 25) then
      let d := classify 6 i
      let s := s.updAi ch (fun c => { c with limiterOpen := false, code := code % 262144, current := i, detail := d })
      s.aiChanged ch 6 d
    else s.updAi ch (fun c => { c with openAt := s.mer.raw }))

/-- An output under checks: enabled, and its checks not suspended (R301). -/
def State.aoChecks (s : State) (n : Nat) : Bool := bitOf (s.aoCfg n) 0 && !s.aoSuspended n

/-- LOW_HEAD in mV (R298: default 2 V). -/
def State.lowHead (s : State) (n : Nat) : F64 := F64.mul (s.elF (0x70300 + n) 7 (F64.ofInt 2)) (F64.ofInt 1000)

/-- AO_COMPLIANCE_MONITOR (R298): COMPLIANCE sets at once and clears after 10 ms within 0.05 mA; LOW-HEADROOM follows the
headroom. -/
def execAoComplianceMonitor (ch : Fin 8) (headMv : Nat) (s : State) : Res :=
  whenUp s (fun s =>
    if !s.aoChecks ch then s else
    let c := s.aoCh ch
    let s := s.updAo ch (fun c => { c with head := headMv % 65536 })
    let short := F64.le c.rb (F64.sub c.iCmd (f64 5 100))
    let near := F64.le (F64.abs (F64.sub c.rb c.iCmd)) (f64 5 100)
    let had := c.conds.contains 1
    let det := if had then !near else decide (headMv < 300) && short
    let s := s.aoDetect ch 1 det 0 (ticksMs 10)
    let has := (s.aoCh ch).conds.contains 1
    let low := F64.lt (F64.ofInt headMv) (s.lowHead ch)
    let s := s.updAo ch (fun c => { c with lowHead := low })
    let s := if has && !had then s.evRep 0x7013 0 [ch, headMv, 0] else s
    let s := if low && !c.lowHead then s.evRep 0x7013 0 [ch, headMv, 1] else s
    if has = had && low = c.lowHead then s else (s.aioPend (8 + ch)).writeAoRb ch)

/-- AO_READBACK_CHECK (R300, Table 11-2): the readback point is written, and each condition is detected over its time. -/
def execAoReadbackCheck (ch : Fin 8) (code : Nat) (s : State) : Res :=
  whenUp s (fun s =>
    if !bitOf (s.aoCfg ch) 0 then s else
    let rb := f64 (24 * (code % 65536 : Nat)) 65536
    let s := s.updAo ch (fun c => { c with rb := rb, rbCode := code % 65536 })
    if s.aoSuspended ch then s.writeAoRb ch else
    let c := s.aoCh ch
    let before := s.aoDetail ch
    let ext := F64.lt (F64.add c.iCmd (f64 5 10)) rb
    let s := s.aoDetect ch 4 ext (ticksMs 2) (ticksMs 20)
    let loop := F64.le F64.one c.iCmd && F64.lt rb (f64 5 10) && c.head == 0
    let s := s.aoDetect ch 2 loop (ticksMs 2) (ticksMs 20)
    let above := let l := (s.aoCh ch).conds; l.contains 4 || l.contains 2 || l.contains 1
    let mis := F64.lt (f64 2 10) (F64.abs (F64.sub rb c.resp)) && decide (c.settleUntil ≤ s.mer.raw) && !above
    let s := s.aoDetect ch 3 mis (ticksMs 20) (ticksMs 20)
    let now := (s.aoCh ch).conds
    let s := if now.contains 4 && !c.conds.contains 4 then s.ev 0x7011 [ch] else s
    let s := if now.contains 2 && !c.conds.contains 2 then s.ev 0x7012 [ch] else s
    let s := if now.contains 3 && !c.conds.contains 3 then
        s.fault (0x0310 + ch) 0x7014 ch 2 [ch, (F64.narrow (F64.sub rb c.resp)).toNat]
      else if c.conds.contains 3 && !now.contains 3 then s.closeFault (0x0310 + ch) 0x7014 ch else s
    let s := s.updAo ch (fun x => { x with detail := s.aoDetail ch })
    let s := if s.aoDetail ch = before then s else s.aioPend (8 + ch)
    s.writeAoRb ch)

/-! ## Trims (R304 to R306); channels 0 to 7 are inputs, 8 to 15 outputs -/

/-- Set a trim, recorded with the old and new values and the source (0 Legend, 1 faceplate). -/
def State.setTrim (s : State) (ch : Nat) (z k : F64) (src : Nat) : State :=
  let oz := s.trimZ ch
  let ok := s.trimK ch
  let s : State := { s with aio := { s.aio with z := Table.put s.aio.z ch z.toNat, k := Table.put s.aio.k ch k.toNat } }
  s.ev 0x7020 [ch, (F64.narrow oz).toNat, (F64.narrow z).toNat, (F64.narrow ok).toNat, (F64.narrow k).toNat, src]

/-- |Z| ≤ 0.2 mA and |K − 1| ≤ 0.02 (R304); the bounds are the REAL32 numbers nearest to them. -/
def trimInRange (z k : F64) : Bool :=
  F64.isFinite z && F64.isFinite k && F64.le (F64.abs z) (F32.widen (F64.narrow (f64 2 10)))
    && F64.le (F64.sub k F64.one) (F64.sub (F32.widen (F64.narrow (f64 102 100))) F64.one)
    && F64.le (F64.sub F64.one k) (F64.sub F64.one (F32.widen (F64.narrow (f64 98 100))))

/-- A trim command's conditions: SERVICE, and no faceplate trim of the channel (R304, R306). -/
def State.trimAllowed (s : State) (ch : Nat) : Bool :=
  s.mode.mode == .service && match s.aio.plate with | some p => p.channel != ch | none => true

/-- TRIM_WRITE (R304). -/
def execTrimWrite (who : Who) (ch : Fin 16) (z k : F32) (s : State) : Res :=
  request s who engineer (fun s =>
    if !s.trimAllowed ch then s.refuseState
    else if !trimInRange (F32.widen z) (F32.widen k) then s.answer .range 0
    else (s.setTrim ch (F32.widen z) (F32.widen k) 0).okAns)

/-- Capture an input's reading, or drive an output at a point and take the meter reading entered for it (R305). -/
def State.trimPoint (s : State) (ch pt : Nat) (entered : Option F64) : State :=
  if ch < 8 then
    let i := (s.aiCh ch).current
    s.updAi ch (fun c => if pt = 4 then { c with r4 := some i } else { c with r20 := some i })
  else
    let n := ch - 8
    let s := s.driveAo n (F64.ofInt (pt : Int))
    s.updAo n (fun c =>
      let c := { c with test := pt }
      match entered with
      | none => c
      | some e => if pt = 4 then { c with d4 := some e } else { c with d20 := some e })

/-- The new Z and K of R305 from the two points; none where a point is missing. -/
def State.trimPair (s : State) (ch : Nat) : Option (F64 × F64) :=
  let z := s.trimZ ch
  let k := s.trimK ch
  if ch < 8 then
    match (s.aiCh ch).r4, (s.aiCh ch).r20 with
    | some r4, some r20 =>
      let sl := F64.div (F64.sub r20 r4) (F64.ofInt 16)
      some (F64.add (F64.div (F64.sub r4 (F64.mul (F64.ofInt 4) sl)) k) z, F64.div k sl)
    | _, _ => none
  else
    match (s.aoCh (ch - 8)).d4, (s.aoCh (ch - 8)).d20 with
    | some d4, some d20 =>
      let a := F64.div (F64.sub d20 d4) (F64.ofInt 16)
      some (F64.sub d4 (F64.mul a (F64.sub (F64.ofInt 4) z)), F64.div k a)
    | _, _ => none

/-- Compute and apply a two-point trim; refused RANGE where a point is missing or the new trim is out of range. -/
def State.applyTrim (s : State) (ch src : Nat) : State × Bool :=
  match s.trimPair ch with
  | none => (s, false)
  | some (z, k) =>
    if trimInRange z k then
      let s := s.setTrim ch z k src
      let s := if ch < 8 then s.updAi ch (fun c => { c with r4 := none, r20 := none })
        else (s.updAo (ch - 8) (fun c => { c with d4 := none, d20 := none, test := 0 })).driveAo (ch - 8) F64.zero
      (s, true)
    else (s, false)

/-- TRIM_POINT_4MA (R305). -/
def execTrimPoint4ma (who : Who) (ch : Fin 16) (entered : Option F32) (s : State) : Res :=
  request s who engineer (fun s =>
    if s.trimAllowed ch then (s.trimPoint ch 4 (entered.map F32.widen)).okAns else s.refuseState)

/-- TRIM_POINT_20MA (R305). -/
def execTrimPoint20ma (who : Who) (ch : Fin 16) (entered : Option F32) (s : State) : Res :=
  request s who engineer (fun s =>
    if s.trimAllowed ch then (s.trimPoint ch 20 (entered.map F32.widen)).okAns else s.refuseState)

/-- TRIM_APPLY (R305). -/
def execTrimApply (who : Who) (ch : Fin 16) (s : State) : Res :=
  request s who engineer (fun s =>
    if s.trimAllowed ch then
      let r := s.applyTrim ch 0
      if r.2 then r.1.okAns else s.answer .range 0
    else s.refuseState)

/-- FACEPLATE_TRIM_TIMEOUT (R306): 120 s without a key abandon the trim. -/
def execFaceplateTrimTimeout (s : State) : Res :=
  whenUp s (fun s =>
    match s.aio.plate with
    | some p =>
      if p.lastKey + ticksMs 120000 ≤ s.mer.raw then
        let s : State := { s with aio := { s.aio with plate := none } }
        if 8 ≤ p.channel then
          (s.updAo (p.channel - 8) (fun c => { c with test := 0, d4 := none, d20 := none })).driveAo (p.channel - 8) F64.zero
        else s
      else s
    | none => s)

/-! ## HART (R307 to R310) -/

/-- HART_PERIOD in raw counts (default 2 s). -/
def State.hartPeriod (s : State) (m : Nat) : Nat :=
  (F64.nearest (F64.mul (s.elF (0x70700 + m) 0 (F64.ofInt 2)) (F64.ofInt 400000000))).toNat

/-- A device variable slot of a master: code, loop, local point. -/
def State.hartSlot (s : State) (m k : Nat) : Nat × Nat × Nat :=
  let r := s.el (0x70700 + m) (3 + k) 0
  (field r 7 0, field r 15 8, field r 63 32)

/-- The slots in use that take their variable from a loop. -/
def State.hartSlots (s : State) (l : Nat) : List Nat :=
  (upto (min (s.el (0x70700 + l / 2) 1 0) 8)).filter (fun k => (s.hartSlot (l / 2) k).2.1 == l % 2)

/-- A pass-through request the master holds for a loop (R310). -/
def State.hartHeld (s : State) (l : Nat) : Option (Nat × Nat × List Byte) := (s.hartMaster (l / 2)).pass.filter (fun p => p.1 == l % 2)

/-- A loop has something to send now: what its state calls for (Table 11-3), or in CYCLIC a pass-through request ahead of it
(R310; long frames need the device's address, which command 0 gave, R307). -/
def State.hartReady (s : State) (l : Nat) : Bool :=
  let m := l / 2
  let x := s.hartLoop l
  s.hartOn l && match x.state with
    | .off | .connect => true
    | .cyclic => (s.hartHeld l).isSome || x.more || decide (x.last + s.hartPeriod m ≤ s.mer.raw)
    | .lost => s.retryFree (0x0300 + m) || (s.openFault? (0x0300 + m) 0x100A l).isNone

/-- The loop the master serves next: it alternates where both have something to send (R307). -/
def State.hartNext (s : State) (m : Nat) : Option Nat :=
  let a := if (s.hartMaster m).turn then 2 * m + 1 else 2 * m
  let b := if (s.hartMaster m).turn then 2 * m else 2 * m + 1
  if s.hartReady a then some a else if s.hartReady b then some b else none

/-- Send a command on a loop. HART_PERIOD counts from one cyclic transaction, command 9 or 3, to the next (Table 11-3). -/
def State.hartSend (s : State) (l cmd : Nat) (pass : Bool) (data : List Byte) : State :=
  let cyclic := !pass && (cmd == 9 || cmd == 3)
  let s := s.updLoopH l (fun x => { x with out := some (cmd, pass, s.mer.raw), last := if cyclic then s.mer.raw else x.last })
  let s := s.updMaster (l / 2) (fun x => { x with transactions := (x.transactions + 1) % 2 ^ 32, turn := l % 2 == 0 })
  s.send (.hart l cmd data)

/-- The command 9 request data: the codes of the slots in use. -/
def State.hartCodes (s : State) (l : Nat) : List Byte := (s.hartSlots l).map (fun k => BitVec.ofNat 8 (s.hartSlot (l / 2) k).1)

/-- The loop of a master that has a transaction out. -/
def State.hartOut (s : State) (m : Nat) : Option Nat :=
  if (s.hartLoop (2 * m)).out.isSome then some (2 * m)
  else if (s.hartLoop (2 * m + 1)).out.isSome then some (2 * m + 1) else none

/-- HART_TRANSACTION_DUE (R308, R310, R49): one transaction a master; what Table 11-3 sends in the loop's state, a pass-through
request ahead of a cyclic one. -/
def execHartTransactionDue (master : Fin 8) (s : State) : Res :=
  whenUp s (fun s =>
    match s.hartOut master, s.hartNext master with
    | none, some l =>
      let s := if (s.hartLoop l).state = .off then s.updLoopH l (fun x => { x with state := .connect }) else s
      let x := s.hartLoop l
      match x.state with
      | .connect => s.hartSend l 0 false [BitVec.ofNat 8 (field (s.hartCfg l) 7 2)]
      | .cyclic =>
        match s.hartHeld l with
        | some (_, cmd, data) => s.hartSend l cmd true data
        | none =>
          if x.more then s.hartSend l 48 false []
          else if bitOf (s.hartCfg l) 8 then s.hartSend l 9 false (s.hartCodes l) else s.hartSend l 3 false []
      | .lost =>
        let fn := 0x0300 + master.val
        if s.retryFree fn then (s.countRetry fn).hartSend l 0 false [BitVec.ofNat 8 (field (s.hartCfg l) 7 2)]
        else s.retryLimit fn 0x7030 l
      | .off => s
    | _, _ => s)

/-- Quality of a variable (Table 11-4). `malf`: device malfunction; `limits`: primary variable out of limits. -/
def hartQuality (cmd st : Nat) (malf limits : Bool) : Nat :=
  if malf then qBad
  else if cmd = 9 then
    match field st 7 6 with
    | 3 => qGood | 1 => qUncertain | 2 => qSubstituted | _ => qBad
  else if limits then qUncertain else qGood

/-- Refresh the device variables a reply carries (R309). Field device status: bit 7 device malfunction, bit 6 configuration
changed, bit 4 more status available, bit 0 primary variable out of limits (PRESUMED from HART 7, log entry 13). -/
def State.hartTake (s : State) (l : Nat) (r : HartReply) : State :=
  let m := l / 2
  let malf := bitOf r.devStatus 7
  let was := (s.hartLoop l).malfunction
  let s := s.updLoopH l (fun x => { x with more := bitOf r.devStatus 4, malfunction := malf })
  let s := if malf && !was then s.ev 0x7032 [l] else s
  let s := if bitOf r.devStatus 6 then
      (s.updMaster m (fun x => { x with changed := (x.changed + 1) % 2 ^ 32 })).evRep 0x7031 0 [l]
    else s
  s.each (s.hartSlots l) (fun s k =>
    let sl := s.hartSlot m k
    match r.vars.find? (fun v => v.1 == sl.1) with
    | some (_, bits, st) =>
      let s := s.updMaster m (fun x => { x with refreshed := Table.put x.refreshed k s.mer.raw })
      s.surveyWrite (sl.2.2 % 524288) (bits % 2 ^ 32) (hartQuality r.command st malf (bitOf r.devStatus 0)) 0 s.now
    | none =>
      if malf then s.surveyWrite (sl.2.2 % 524288) (s.record (sl.2.2 % 524288)).value qBad 0 s.now else s)

/-- An unanswered transaction; three in a row in CYCLIC lose the loop, and its variables turn BAD (R308, R309). -/
def State.hartUnanswered (s : State) (l : Nat) : State :=
  let m := l / 2
  let s := s.updLoopH l (fun x => { x with out := none, unanswered := x.unanswered + 1 })
  let s := s.updMaster m (fun x => { x with unanswered := (x.unanswered + 1) % 2 ^ 32 })
  let x := s.hartLoop l
  if x.state = .cyclic && decide (3 ≤ x.unanswered) then
    let s := s.updLoopH l (fun x => { x with state := .lost })
    let s := s.each (s.hartSlots l) (fun s k =>
      let p := (s.hartSlot m k).2.2 % 524288
      s.surveyWrite p (s.record p).value qBad 0 s.now)
    s.fault (0x0300 + m) 0x7030 l 1 [l]
  else s

/-- Record a field device's violation: once in 10 s, and as REPEAT within them (R252, R312). -/
def State.hartViolation (s : State) (l : Nat) : State :=
  let fresh := match (s.hartLoop l).violAt with | some t => s.elapsed t (ticksMs 10000) | none => true
  let s := s.updLoopH l (fun x => { x with violAt := if fresh then some s.mer.raw else x.violAt })
  if fresh then s.ev 0x7033 [l] else s.evRep 0x7033 0 [l]

/-- HART_RESPONSE_RECEIVED (R308 to R310, R312): a frame with a bad check byte is a violation and counts as unanswered. -/
def execHartResponseReceived (master : Fin 8) (reply : HartReply) (s : State) : Res :=
  whenUp s (fun s =>
    match s.hartOut master with
    | none => s
    | some l =>
      let x := s.hartLoop l
      if !reply.good then (s.hartViolation l).hartUnanswered l else
      let pass := match x.out with | some o => o.2.1 | none => false
      let s := s.updLoopH l (fun x => { x with out := none, unanswered := 0 })
      let s := if x.state = .connect || x.state = .lost then
          ((s.updLoopH l (fun x => { x with state := .cyclic, address := reply.unique })).closeFault (0x0300 + master.val)
            0x7030 l).closeFault (0x0300 + master.val) 0x100A l
        else s
      let s := if pass then s.updMaster master (fun y =>
          { y with pass := none, responses := (y.responses + 1) % 2 ^ 32,
                   response := leBytes 1 reply.code ++ leBytes 1 reply.devStatus ++ reply.data })
        else s
      s.hartTake l reply)

/-- HART_RESPONSE_TIMEOUT (R308). -/
def execHartResponseTimeout (master : Fin 8) (s : State) : Res :=
  whenUp s (fun s => match s.hartOut master with | none => s | some l => s.hartUnanswered l)

/-- HART_BURST_RECEIVED (R307, R309, R312): burst messages of commands 1, 2, 3 and 9 refresh the variables; a frame with a bad
check byte is counted and recorded. -/
def execHartBurstReceived (loop : Fin 16) (reply : HartReply) (s : State) : Res :=
  whenUp s (fun s =>
    if !s.hartOn loop then s
    else if !reply.good then (s.hartViolation loop).updMaster (loop.val / 2) (fun x => { x with unanswered := (x.unanswered + 1) % 2 ^ 32 })
    else if reply.command = 1 || reply.command = 2 || reply.command = 3 || reply.command = 9 then s.hartTake loop reply
    else s)

/-- HART_VARIABLE_STALE (R309): a point not refreshed within 3 × HART_PERIOD turns STALE; one of a lost loop is BAD. -/
def execHartVariableStale (master slot : Fin 8) (s : State) : Res :=
  whenUp s (fun s =>
    let sl := s.hartSlot master slot
    let l := 2 * master.val + sl.2.1 % 2
    let t := Table.get (s.hartMaster master).refreshed 0 slot
    if !(s.hartSlots l).contains slot.val || (s.hartLoop l).state = .lost || s.mer.raw < t + 3 * s.hartPeriod master then s
    else
      let p := sl.2.2 % 524288
      if qCode (s.record p).quality = qStale then s else s.requalifyPoint p qStale)

/-- HART_PASS_THROUGH (R310): one request a master, a second is refused BUSY with RETRY_MS 1000. -/
def execHartPassThrough (who : Who) (master : Fin 8) (loop command : Nat) (data : List Byte) (s : State) : Res :=
  request s who engineer (fun s =>
    if 2 ≤ loop || 65536 ≤ command then s.answer .range 0
    else if (s.hartMaster master).pass.isSome then s.send (.status Status.busy.code 0 1000)
    else (s.updMaster master (fun x => { x with pass := some (loop, command, data) })).okAns)

end Sys2Proof.Machine
end

