-- ==== Sys2Proof/Machine/LoopWrite.lean ====
section
/-!
DEFINITION. What may be written to a loop record and to a Contour table, and when it takes effect (R161, R175, R183, R186, R191,
R193, R198).
-/
namespace Sys2Proof.Machine

/-! ## Coefficient sets (R161) -/

/-- A finite binary32 as a multiple of 2⁻¹⁴⁹. -/
def F32.scaled (x : F32) : Int :=
  match Fmt.b32.decode x.toNat with
  | .fin neg m e => (if neg then -1 else 1) * (m : Int) * 2 ^ (e + 149).toNat
  | _ => 0

/-- Every root of z³ + a1 z² + a2 z + a3 has modulus below 0.999: the conditions of Jury on the polynomial in z / 0.999,
in exact integers. -/
def rootsInside (a1 a2 a3 : F32) : Bool :=
  let c : Int := 2 ^ 149 * 999 ^ 3
  let p2 := F32.scaled a1 * 1000 * 999 ^ 2
  let p1 := F32.scaled a2 * 1000 ^ 2 * 999
  let p0 := F32.scaled a3 * 1000 ^ 3
  decide (0 < c + p2 + p1 + p0) && decide (0 < c - p2 + p1 - p0) && decide (p0.natAbs < c.natAbs)
    && decide ((p0 * p2 - p1 * c).natAbs < (c * c - p0 * p0).natAbs)

/-- A coefficient set passes R161 for a form. -/
def coefOk (form : Bool) (bytes : Nat) : Bool :=
  let w (i : Nat) : F32 := word32 bytes i
  let used := if form then [0, 1, 2, 3, 4, 5, 6] else [0, 1, 2, 4, 5]
  used.all (fun i => F32.isFinite (w i)) && rootsInside (w 4) (w 5) (if form then w 6 else 0)

/-! ## Elements of a loop record -/

/-- 15 × P as the REAL32 limit of R193. -/
def State.tdLimit (s : State) (slot : Nat) : F32 :=
  F64.narrow (F64.mul (F64.ofInt 15) (periodS (s.groupPeriod (s.loopGroup slot))))

/-- The check of a value written to an on-line element of a loop (Tables 06-2 to 06-4, 07-3). -/
def State.loopCheck (s : State) (slot elem v : Nat) : Option Ans :=
  let x : F32 := BitVec.ofNat 32 v
  let f := F32.widen x
  let fin := decide (v < 2 ^ 32) && F32.isFinite x
  let le (a b : F64) := F64.le a b
  let lt (a b : F64) := F64.lt a b
  let ok : Bool :=
    match elem with
    | 2 => decide (1 ≤ v) && decide (v ≤ 3)
    | 19 => decide (1 ≤ v) && decide (v ≤ 255)
    | 20 => decide (v ≤ 1)
    | 21 => fin && le f (s.lF slot 22)
    | 22 => fin && le (s.lF slot 21) f
    | 23 => fin && lt f (s.lF slot 24)
    | 24 => fin && lt (s.lF slot 23) f
    | 25 | 29 | 38 => fin && le 0 f
    | 26 | 27 | 28 | 35 => fin
    | 30 | 36 | 39 => fin && lt 0 f
    | 31 | 32 | 33 | 34 => decide (v < 2 ^ 224)
    | 37 => fin && le 0 f && le f (F32.widen (s.tdLimit slot))
    | 40 => decide (1 ≤ v) && decide (v ≤ 65535)
    | 41 => decide (v ≤ 2)
    | _ => false
  if !ok then some ansRange
  else if 31 ≤ elem && elem ≤ 34
      && !(coefOk (bitOf (s.loopCtrl slot) 1) v && lt 0 (s.lF slot 30) && le 0 (s.lF slot 29)) then
    some (ansCheck 8 (slot * 4 + (elem - 31)))
  else none

/-- A refusal of a coefficient set is recorded (R161, event 0x3009). -/
def State.noteLoopRefusal (s : State) (slot elem : Nat) (a : Ans) : State :=
  if a.status = .checkFailed then s.ev 0x3009 [slot, elem - 31] else s

/-- The effect of an on-line change (R175, R168, R196): event 0x3008. -/
def State.applyLoopChange (s : State) (slot elem v : Nat) : State :=
  let s := s.setEl (0x31000 + slot) elem v
  let s := if elem = 2 then
      (s.updLoop slot (fun x => { x with heldSet := setBit (setBit x.heldSet 2 false) 3 false })).closeFault 0 0x3003 slot
    else if 35 ≤ elem then s.updLoop slot (fun x => { x with reinit := true })
    else s
  s.ev 0x3008 [slot, elem]

/-- Loops are evaluated in this mode, on the module's own account or in shadow (R177). -/
def State.evaluates (s : State) : Bool :=
  match s.mode.mode with | .run | .hold | .standby => true | _ => false

/-- The instant at which a change accepted now takes effect: the first sample of the loop's group at least 1 ms on; none when
the loop is not evaluated, and it takes effect at once (R175, R198). -/
def State.changeAt (s : State) (slot : Nat) : Option MTime :=
  let g := s.loopGroup slot
  if s.evaluates && s.loopEnabled slot && s.groupOn g then some (s.sampleFrom g (s.now + 1000000)) else none

/-- The duty sends an accepted on-line change with its instant (R204, CHANGE). -/
def State.sendChange (s : State) (e n value : Nat) (t : MTime) : State :=
  if s.pairMember && s.red.holds then s.send (.copy 5 (ea e n) t [value]) else s

/-- An accepted write to an on-line element (R175). -/
def State.loopWrite (s : State) (slot elem v : Nat) : State :=
  match s.changeAt slot with
  | some t =>
    let s : State := { s with cen := { s.cen with changes := s.cen.changes ++ [{ slot := slot, elem := elem, value := v, at_ := t }] } }
    s.sendChange (0x31000 + slot) elem v t
  | none => (s.applyLoopChange slot elem v).sendChange (0x31000 + slot) elem v s.now

/-! ## The Sounding acknowledgement (R198) -/

/-- The acknowledgement takes effect. -/
def State.applyAck (s : State) (slot : Nat) : State :=
  if (s.loop slot).latched then
    (s.updLoop slot (fun x => { x with latched := false, heldSet := setBit x.heldSet 4 false, flags := setBit x.flags 8 false,
                                       reinit := true })).ev 0x3013 [slot, 1]
  else s

/-- An accepted acknowledgement; one that finds LATCHED 0 is ignored. -/
def State.ackSounding (s : State) (slot : Nat) : State :=
  if !(s.loop slot).latched then s else
  match s.changeAt slot with
  | some t =>
    let s : State := { s with cen := { s.cen with acks := s.cen.acks ++ [(slot, t)] } }
    s.sendChange (0x33000 + slot) 0 1 t
  | none => (s.applyAck slot).sendChange (0x33000 + slot) 0 1 s.now

/-! ## Contour tables -/

/-- The enabled loops that name a table. -/
def State.tableLoops (s : State) (t : Nat) : List Nat := s.slots.filter (fun i => [15, 16, 17, 18].any (fun n => s.loopCt i n == some t))

/-- The staging copy: the elements written, over the table in force (R191). -/
def State.stagedTable (s : State) (t : Nat) : CTable :=
  let x := s.ctable t
  let e (n d : Nat) := s.el (0x34000 + t) n d
  { hdr := e 0 x.hdr, xbp := e 1 x.xbp, ybp := e 2 x.ybp, l0 := e 3 x.l0, l1 := e 4 x.l1, l2 := e 5 x.l2, setmap := e 6 x.setmap }

/-- Offsets of the breakpoints of an axis that fail. -/
def axisFaults (bp n base : Nat) : List Nat :=
  (upto 16).filterMap (fun i =>
    let b := word32 bp i
    let bad := if i < n then
        !F32.isFinite b || (i != 0 && !F64.lt (F32.widen (word32 bp (i - 1))) (F32.widen b))
      else b != 0
    if bad then some (base + 4 * i) else none)

/-- Offsets of the bytes of Table 07-1 that fail the checks of R183 on the table alone. A table of KIND 0 is all zero. -/
def CTable.faults (t : CTable) : List Nat :=
  let k := t.kind
  let at_ (b : Bool) (o : Nat) : List Nat := if b then [o] else []
  let byte (o : Nat) := field (t.hdr >>> (8 * o)) 7 0
  let ny := if t.dim = 2 then t.ny else 1
  let nx := if k = 0 then 0 else t.nx
  let ny := if k = 0 then 0 else ny
  at_ (2 < k) 0
    ++ at_ (if k = 0 then t.dim != 0 else t.dim != 1 && t.dim != 2) 1
    ++ at_ (if k = 0 then t.nx != 0 else t.nx < 2 || 16 < t.nx) 2
    ++ at_ (if k = 0 then t.ny != 0 else if t.dim = 1 then t.ny != 1 else t.ny < 2 || 16 < t.ny) 3
    ++ at_ (if k = 1 then t.nl < 1 || 3 < t.nl else t.nl != 0) 4
    ++ (upto 64).filter (fun o => (5 ≤ o && o ≤ 7 || 16 ≤ o) && byte o != 0)
    ++ at_ (!F32.isFinite t.hysX || F64.lt (F32.widen t.hysX) 0 || (k != 2 && t.hysX != 0)) 8
    ++ at_ (!F32.isFinite t.hysY || F64.lt (F32.widen t.hysY) 0 || ((k != 2 || t.dim != 2) && t.hysY != 0)) 12
    ++ axisFaults t.xbp nx 64
    ++ axisFaults t.ybp (if t.dim = 2 then ny else 0) 128
    ++ [0, 1, 2].flatMap (fun l => (upto 256).filterMap (fun n =>
        let v := word32 (t.layer l) n
        let used := k == 1 && l < t.nl && n % 16 < nx && n / 16 < ny
        if (if used then !F32.isFinite v else v != 0) then some (256 + 1024 * l + 4 * n) else none))
    ++ (upto 256).filterMap (fun n =>
        let c := t.setAt (n % 16) (n / 16)
        let used := k == 2 && n % 16 + 1 < nx && n / 16 < max (ny - 1) 1
        if (if used then 3 < c else c != 0) then some (3328 + n) else none)

/-- The used grid points. -/
def CTable.points (t : CTable) : List (Nat × Nat) :=
  (upto (if t.dim = 2 then t.ny else 1)).flatMap (fun j => (upto t.nx).map (fun i => (i, j)))

/-- Offset of a grid value. -/
def gridAt (l i j : Nat) : Nat := 256 + 1024 * l + 4 * (j * 16 + i)

/-- Offsets that fail the checks of Table 07-2 for a CT_ field of a loop (R186), and KIND and NL for it. -/
def State.useFaults (s : State) (t : CTable) (slot n : Nat) : List Nat :=
  let at_ (b : Bool) (o : Nat) : List Nat := if b then [o] else []
  let each_ (f : Nat → Nat → List Nat) : List Nat := t.points.flatMap (fun p => f p.1 p.2)
  let v (l i j : Nat) := t.grid l i j
  at_ (t.kind != (if n = 16 then 2 else 1)) 0
    ++ at_ (t.dim == 2 && refNone (s.loopRef slot 13)) 1
    ++ (match n with
      | 15 => at_ (t.nl != 1 && t.nl != 2) 4 ++ each_ (fun i j => at_ (!F64.lt 0 (v 0 i j)) (gridAt 0 i j)
                ++ at_ (t.nl == 2 && !F64.le 0 (v 1 i j)) (gridAt 1 i j))
      | 16 => at_ (t.nl != 0) 4
      | 17 => at_ (t.nl != 2) 4 ++ each_ (fun i j =>
                at_ (!(F64.lt (v 0 i j) (v 1 i j) && F64.lt (v 0 i j) (s.lF slot 24))) (gridAt 0 i j)
                ++ at_ (!F64.lt (s.lF slot 23) (v 1 i j)) (gridAt 1 i j))
      | _ => at_ (t.nl != 3) 4 ++ each_ (fun i j => at_ (!F64.lt 0 (v 1 i j)) (gridAt 1 i j)
                ++ at_ (!(F64.le 0 (v 2 i j) && F64.le (v 2 i j) (F32.widen (s.tdLimit slot)))) (gridAt 2 i j)))

/-- The first failing byte offset of a table (R183), if any. -/
def State.contourFault (s : State) (t : Nat) (x : CTable) : Option Nat :=
  let l := x.faults ++ (s.tableLoops t).flatMap (fun i => [15, 16, 17, 18].flatMap (fun n =>
    if s.loopCt i n = some t then s.useFaults x i n else []))
  match l with
  | [] => none
  | o :: os => some (os.foldl min o)

/-- The admitted lane schedule leaves the lanes idle for 2 µs from an instant (R191): no group is queued within them, and
each group queued before has finished by F_g. -/
def State.lanesIdle (s : State) (i : MTime) : Bool :=
  s.liveGroups.all (fun g =>
    let p := ticksNs (s.groupPeriod g)
    let ph := ticksNs (s.groupPhase g)
    let k := Int.fdiv (i + 2000 - 1 - s.groupTRdy g - ph) p
    if k < 0 || p ≤ 0 then true else decide (ph + k * p + ticksNs (s.group g).fG ≤ i))

/-- The instant of a commit: the first whole millisecond at least 1 ms after acceptance with idle lanes, within 1 s (R191). -/
def State.commitInstant (s : State) : Option MTime :=
  let first := -(Int.fdiv (-(s.now + 1000000)) 1000000)
  ((upto 1000).map (fun (k : Nat) => (first + (k : Int)) * 1000000)).find? (fun i => s.lanesIdle i && decide (i ≤ s.now + 1000000000))

/-- A table comes into force (R191, event 0x3015). -/
def State.applyTable (s : State) (t : Nat) (x : CTable) (i : MTime) : State :=
  let s : State := { s with cen := { s.cen with tables := Table.set s.cen.tables {} t x } }
  s.ev 0x3015 [t, i64 i]

/-- The commit of a staged table (R183, R191). -/
def State.commitTable (s : State) (t : Nat) : Ans × State :=
  let x := s.stagedTable t
  let y := s.ctable t
  let live := match s.mode.mode with | .run | .hold => true | _ => false
  match s.contourFault t x with
  | some o => (ansCheck 9 (t * 4096 + o), s.ev 0x3011 [t, o])
  | none =>
    if live && !(s.tableLoops t).isEmpty && (x.hdr % 2 ^ 64 != y.hdr % 2 ^ 64 || x.xbp != y.xbp || x.ybp != y.ybp) then
      (s.ansState, s)
    else if s.mode.mode = .stop then (ansOk, s.applyTable t x s.now)
    else
      let i := s.commitInstant
      let s : State := { s with cen := { s.cen with commits := s.cen.commits ++ [{ table := t, accepted := s.now, at_ := i, copy := x }] } }
      let s := match i with
        | some i =>
          let s := s.each ([x.hdr, x.xbp, x.ybp, x.l0, x.l1, x.l2, x.setmap].zipIdx) (fun s v => s.sendChange (0x34000 + t) v.2 v.1 i)
          s.sendChange (0x34000 + t) 7 1 i
        | none => s
      (ansOk, s)

/-- Clear the observed maxima (R180). -/
def State.clearMaxima (s : State) : State :=
  { s with cen := { s.cen with backlogMax := 0, laneMax := 0, groups := s.cen.groups.map (fun x => (x.1, { x.2 with finish := 0 })) } }

end Sys2Proof.Machine
end

