-- ==== Sys2Proof/Machine/Control.lean ====
section
/-!
DEFINITION. The meanings of the control engine's commands: queueing, evaluation, staging, release, on-line changes, Contour
tables and the Sounding acknowledgement (chapters 6 and 7).
-/
namespace Sys2Proof.Machine

/-- What changed with an evaluation, as events (R168, R174, R188, R190, R197). -/
def State.loopEvents (s : State) (slot : Nat) (old : LoopState) (o : LoopOut) : State :=
  let x := o.x
  let stands (m : Nat) := m == mHeld || m == mFail
  let s := if o.numeric then
      ({ s with cen := { s.cen with numeric := satInc 32 s.cen.numeric, numSeen := true } } : State).ev 0x3004 [slot]
    else s
  let s := match o.report with
    | 1 => s.ev 0x3012 [slot, x.sdRes.toNat, s.lN slot 41 0]
    | 2 => s.ev 0x3013 [slot, 0]
    | 3 => s.ev 0x3013 [slot, 2]
    | _ => s
  let s := match o.switched with | some (a, b) => s.evRep 0x3010 0 [slot, a, b] | none => s
  let s := if x.schedHold && !old.schedHold then s.evRep 0x3014 0 [slot] else s
  let s := if bitOf x.flags 7 && !bitOf old.flags 7 then s.evRep 0x3005 0 [slot] else s
  let s := if (bitOf x.heldSet 1 && !bitOf old.heldSet 1) || (x.modeAct == mFail && old.modeAct != mFail) then s.evRep 0x3006 0 [slot] else s
  if stands old.modeAct && !stands x.modeAct then s.ev 0x3007 [slot, x.modeAct] else s

/-- The on-line changes and acknowledgements of a loop that are due at a sample take effect, in arrival order (R175). -/
def State.takeChanges (s : State) (slot : Nat) (S : MTime) : State :=
  let due (c : LoopChange) := c.slot == slot && decide (c.at_ ≤ S)
  let l := s.cen.changes.filter due
  let a := s.cen.acks.filter (fun c => c.1 == slot && decide (c.2 ≤ S))
  let s : State := { s with cen := { s.cen with
    changes := s.cen.changes.filter (fun c => !due c), acks := s.cen.acks.filter (fun c => !(c.1 == slot && decide (c.2 ≤ S))) } }
  let s := s.each l (fun s c => s.applyLoopChange slot c.elem c.value)
  if a.isEmpty then s else s.applyAck slot

/-- Evaluate the loop at the head of its group's queue (R163, R171, R187): record writes first, then the evaluation. `duty`
is false for the shadow of a standby, whose evaluation records no event (R197). -/
def State.runLoop (s : State) (slot laneNs : Nat) (duty : Bool) : State :=
  let g := s.loopGroup slot
  let x := s.group g
  let set := (s.loop slot).activeSet
  let old : OldSet := { kff := s.lF slot 26, bias := s.lF slot 27, coef := s.coef slot set }
  let gain := s.lN slot 30 0
  let s := s.takeChanges slot x.s
  let changed := old.kff != s.lF slot 26 || old.bias != s.lF slot 27 || decide (old.coef ≠ s.coef slot set)
    || (gain != s.lN slot 30 0 && (s.loopCt slot 15).isNone)
  let before := s.loop slot
  let o := s.evalLoop slot old changed duty
  let y := { o.x with lastNs := laneNs }
  let s : State := { s with cen := { s.cen with
    evals := s.cen.evals + 1, backlog := s.cen.backlog - 1, laneMax := max s.cen.laneMax laneNs } }
  let rest := (s.group g).todo.filter (· != slot)
  let took := (s.now - x.s).toNat
  let drained := x.missedNow && x.latched && rest.isEmpty
  let s := s.updGroup g (fun k =>
    { k with todo := rest, queued := k.queued && !drained, missedNow := k.missedNow && !drained, done := if k.missedNow then k.done else Table.put k.done slot y,
             finish := if rest.isEmpty then max k.finish took else k.finish })
  if x.missedNow || !duty then s
  else
    let s := s.loopEvents slot before o
    if y.latched && bitOf y.heldSet 4 && !bitOf before.heldSet 4 && s.lN slot 41 0 == 2 then
      (s.updLoop slot (fun _ => y)).enterSafe 0x3012 slot false
    else s

/-- The loops of a group take the states evaluated (R171), and what they write is due at S + L (R169). -/
def State.stageGroup (s : State) (g : Nat) : State :=
  let x := s.group g
  let s := s.each x.done (fun s d => s.updLoop d.1 (fun _ => d.2))
  let s := s.updGroup g (fun k => { k with staged := true, queued := false, done := [] })
  s.updGroup g (fun k => { k with due := k.due ++ x.done.map (fun d => (d.1, x.s + s.loopLNs d.1, 0)) })

/-- The raw value a loop has staged for its channel. -/
def State.loopRaw (s : State) (slot : Nat) : Nat := encodeVal (refType (s.loopRef slot 11)) (s.loop slot).uPrev

/-- The instant of release of a group's output frame: its first loop that writes a head. -/
def State.groupRelease (s : State) (g : Nat) : MTime :=
  (s.group g).s + (match (s.groupSlots g).find? s.loopWritesHead with | some i => s.loopLNs i | none => 0)

/-- The ring output frame of a group, with the values of its loops (R156). -/
def State.groupFrame (s : State) (g : Nat) : State :=
  if (s.groupSlots g).any s.loopWritesHead then
    let s := s.each (s.groupSlots g) (fun s i => match s.loopChan i with
      | some (.head h c) => s.updHead h (fun k => { k with outs := Table.set k.outs 0 c (s.loopRaw i) })
      | _ => s)
    s.sendOutput (16 + g) (s.groupRelease g) false
  else s

/-- A channel as a number in a STAGE unit: kind and index. -/
def chanNo : Chan → Nat
  | .dio n => n
  | .ao n => 0x100 + n
  | .head h c => 0x10000 + h * 0x100 + c
  | .can c o => 0x20000 + c * 0x100 + o
  | .saf p => 0x500 + p

/-- A value handed to the stage of a channel paralleled with the partner's goes there at once as a STAGE unit, an analogue one
in mA (R204, R212). -/
def State.sendStage (s : State) (ch : Chan) (raw : Nat) (x : F64) (latch release : MTime) : State :=
  if s.paralleled ch then
    let v := match ch with | .ao n => real32 (s.aoCommand n x) | .dio _ => (!F64.eq x 0).toNat | _ => raw
    s.send (.copy 4 (chanNo ch) release [v, i64 latch])
  else s

/-- The Survey points that the loops of a group read. -/
def State.groupReads (s : State) (g : Nat) : List Nat :=
  ((s.groupSlots g).flatMap (fun i => [4, 5, 6, 7, 8, 9, 10, 12, 13].filterMap (fun n =>
    let r := s.loopRef i n
    if refNone r then none else some (refLocal r)))).eraseDups

/-- The remaining pages of an owner go with its copy (R225); with the last owner the resynchronisation has ended. -/
def State.copyPages (s : State) (owner : Nat) : State :=
  if s.red.finishing.contains owner then
    let rest := s.red.finishing.filter (· != owner)
    let s := s.send (.copy 3 owner s.now s.red.pages)
    let s : State := { s with red := { s.red with finishing := rest, pages := [] } }
    if rest.isEmpty then { s with red := { s.red with resync := false, pass := 0, remaining := 0 } } else s
  else s

/-- The duty sends what it staged: STAGE units for paralleled channels, then the LOOP copy and its END (R204). -/
def State.copyGroup (s : State) (g : Nat) : State :=
  if s.pairMember && s.red.holds then
    let S := (s.group g).s
    let s := s.each (s.groupSlots g) (fun s i => match s.loopChan i with
      | some ch => s.sendStage ch (s.loopRaw i) (decodeVal (refType (s.loopRef i 11)) (s.loopRaw i)) S (S + s.loopLNs i)
      | none => s)
    let reads := (s.groupReads g).flatMap (fun p => let r := s.record p; [p, r.value, r.quality, r.flags])
    let loops := (s.groupSlots g).flatMap (fun i => let x := s.loop i; [i, x.uPrev.toNat, x.flags, x.activeSet])
    let n := s.red.copySeq
    let s : State := { s with red := { s.red with copySeq := n + 1 } }
    ((s.send (.copy 2 g S (reads ++ loops))).copyPages (16 + g)).send (.copy 7 (16 + g) S [n])
  else s

/-- LOOP_GROUP_QUEUED: at S + T_RDY, the largest among the groups whose instants coincide (R171, R174). -/
def execLoopGroupQueued (g : Fin 256) (s : State) : Res :=
  whenUp s (fun s =>
    let x := s.group g.val
    let t := ((s.groups.filter (fun h => (s.group h).latched && (s.group h).s == x.s)).map s.groupTRdy).foldl max (s.groupTRdy g.val)
    if s.loopsRun && x.latched && decide (x.s + t ≤ s.now) then s.queueGroup g.val else s)

/-- LOOP_EVALUATION: a lane evaluates the loop that stands first in its group's queue. -/
def execLoopEvaluation (slot : Fin 4096) (laneNs : Nat) (s : State) : Res :=
  whenUp s (fun s =>
    let x := s.group (s.loopGroup slot.val)
    if s.loopsRun && x.queued && x.todo.head? == some slot.val then
      (s.restoreWords (16 * 0x80000 + 512 * slot.val) 512).runLoop slot.val laneNs true
    else if s.loopsRun && x.missedNow && x.todo.head? == some slot.val then s.runLoop slot.val laneNs true
    else s)

/-- LOOP_GROUP_STAGED: the whole group is evaluated (R170, R171). Past the commit deadline it is not released (R174). -/
def execLoopGroupStaged (g : Fin 256) (s : State) : Res :=
  whenUp s (fun s =>
    let x := s.group g.val
    if s.loopsRun && x.queued && x.todo.isEmpty && !x.staged && !x.missedNow then
      if decide (s.groupDeadline g.val < s.now) then s.markMissed g.val
      else (((s.stageGroup g.val).groupFrame g.val).copyGroup g.val).groupStarted g.val
    else s)

/-- LOOP_OUTPUT_RELEASE: what is due at S + L is released (R169). -/
def execLoopOutputRelease (g : Fin 256) (s : State) : Res := whenUp s (fun s => s.releaseDue g.val)

/-- LOOP_SAMPLE_MISSED: a group not staged by its commit deadline (R174); its OUT_PT records are rewritten at S + L. -/
def execLoopSampleMissed (g : Fin 256) (s : State) : Res :=
  whenUp s (fun s =>
    let x := s.group g.val
    let s := if (x.latched || x.queued) && !x.staged && !x.missedNow && decide (s.groupDeadline g.val ≤ s.now) then s.markMissed g.val else s
    s.releaseDue g.val)

/-- LOOP_MODE_REQUEST: a write of MODE_REQ (R157, R168), at Operator privilege. -/
def execLoopModeRequest (who : Who) (slot : Fin 4096) (req : Nat) (s : State) : Res :=
  request s who operator (fun s => s.guarded (s.loopCheck slot.val 2 req) (fun s => s.loopWrite slot.val 2 req))

/-- LOOP_ONLINE_CHANGE: a write of an on-line element, .19 to .41, at Engineer privilege (R157, R161, R175, R193). -/
def execLoopOnlineChange (who : Who) (slot : Fin 4096) (elem value : Nat) (s : State) : Res :=
  if elem < 19 || 41 < elem then .fault .illFormed
  else request s who engineer (fun s =>
    match s.loopCheck slot.val elem value with
    | some a => (s.noteLoopRefusal slot.val elem a).give a
    | none => (s.loopWrite slot.val elem value).okAns)

/-- CLEAR_OBSERVED_MAXIMA: Legend 0x30001.0 (R179). -/
def execClearObservedMaxima (who : Who) (s : State) : Res := request s who engineer (fun s => s.clearMaxima.okAns)

/-- CEN_CLR_MAX: CEN_CTRL.CLR_MAX, written by firmware (R180). -/
def execCenClrMax (_agent : Agent) (s : State) : Res := whenUp s State.clearMaxima

/-- CONTOUR_TABLE_COMMIT: Legend 0x34000 + t .7 (R191). -/
def execContourTableCommit (who : Who) (t : Fin 512) (s : State) : Res :=
  request s who engineer (fun s => giveBoth (s.commitTable t.val))

/-- The commits of a table that are due, in arrival order, come into force (R191). -/
def State.applyCommits (s : State) (t : Nat) : State :=
  let due (c : TableCommit) := c.table == t && (match c.at_ with | some i => decide (i ≤ s.now) | none => false)
  let l := s.cen.commits.filter due
  let s : State := { s with cen := { s.cen with commits := s.cen.commits.filter (fun c => !due c) } }
  s.each l (fun s c => s.applyTable t c.copy (c.at_.getD s.now))

/-- CONTOUR_TABLE_APPLY: at instant I the copy comes into force (R191). -/
def execContourTableApply (t : Fin 512) (s : State) : Res := whenUp s (fun s => s.applyCommits t.val)

/-- CONTOUR_COMMIT_TIMEOUT: a commit with no idle instant within 1 s is refused (R191). -/
def execContourCommitTimeout (t : Fin 512) (s : State) : Res :=
  whenUp s (fun s =>
    { s with cen := { s.cen with commits := s.cen.commits.filter (fun c =>
        !(c.table == t.val && c.at_.isNone && decide (c.accepted + 1000000000 ≤ s.now))) } })

/-- SOUNDING_ACKNOWLEDGEMENT: Legend 0x33000 + slot .0, at Operator privilege, in every mode (R198). -/
def execSoundingAcknowledgement (who : Who) (slot : Fin 4096) (s : State) : Res :=
  request s who operator (fun s => (s.ackSounding slot.val).okAns)

end Sys2Proof.Machine
end

