-- ==== Sys2Proof/Machine/Crypto.lean ====
section
/-!
DEFINITION. The checks the specification names: CRC-32C (R84), CRC-64 (R69), SipHash-2-4 (R209), SHA-256 (R240) and Ed25519
(R149, R238, R240), the last with SHA-512 inside.
-/
namespace Sys2Proof.Machine

/-! ## CRCs -/

/-- One bit of a reflected CRC with the reflected polynomial `poly`. -/
def crcBit (poly c : Nat) : Nat := if c % 2 = 1 then (c / 2) ^^^ poly else c / 2

/-- Fold one byte into a reflected CRC register. -/
def crcByte (poly c b : Nat) : Nat := (List.range 8).foldl (fun c _ => crcBit poly c) (c ^^^ b)

/-- The register after bytes. -/
def crcFeed (poly : Nat) (c : Nat) (bytes : List Byte) : Nat := bytes.foldl (fun c b => crcByte poly c b.toNat) c

/-- CRC-32C: 0x1EDC6F41 reflected, initial value and final XOR all ones (R84). -/
def crc32c (bytes : List Byte) : Nat := crcFeed 0x82F63B78 0xFFFFFFFF bytes ^^^ 0xFFFFFFFF

/-- The CRC-64 register of R69 after more bytes: ECMA-182 0x42F0E1EBA9EA3693 reflected. -/
def crc64Feed (c : Nat) (bytes : List Byte) : Nat := crcFeed 0xC96C5795D7870F42 c bytes

/-- Initial value of the CRC-64 register, and its final XOR. -/
def crc64Ones : Nat := 0xFFFFFFFFFFFFFFFF

/-- CRC-64 of R69 over bytes. -/
def crc64 (bytes : List Byte) : Nat := crc64Feed crc64Ones bytes ^^^ crc64Ones

/-! ## SipHash-2-4 -/

def add64 (a b : Nat) : Nat := (a + b) % 2 ^ 64
def rotl64 (a n : Nat) : Nat := (a <<< n) % 2 ^ 64 ||| a >>> (64 - n)

/-- One SipRound. -/
def sipRound (v : Nat × Nat × Nat × Nat) : Nat × Nat × Nat × Nat :=
  let (a, b, c, d) := v
  let a := add64 a b
  let b := rotl64 b 13 ^^^ a
  let a := rotl64 a 32
  let c := add64 c d
  let d := rotl64 d 16 ^^^ c
  let a := add64 a d
  let d := rotl64 d 21 ^^^ a
  let c := add64 c b
  let b := rotl64 b 17 ^^^ c
  let c := rotl64 c 32
  (a, b, c, d)

/-- The 64-bit words of a message with its last block (length in the top byte). -/
def sipWords (bytes : List Byte) : List Nat :=
  let n := bytes.length
  (List.range (n / 8 + 1)).map (fun i =>
    let w := leNat ((bytes.drop (8 * i)).take 8)
    if i = n / 8 then w + (n % 256) * 2 ^ 56 else w)

/-- SipHash-2-4 with a 128-bit key. -/
def sipHash (key : Nat) (bytes : List Byte) : Nat :=
  let k0 := key % 2 ^ 64
  let k1 := key / 2 ^ 64 % 2 ^ 64
  let v := (k0 ^^^ 0x736f6d6570736575, k1 ^^^ 0x646f72616e646f6d, k0 ^^^ 0x6c7967656e657261, k1 ^^^ 0x7465646279746573)
  let v := (sipWords bytes).foldl (fun v m =>
    let (a, b, c, d) := v
    let (a, b, c, d) := sipRound (sipRound (a, b, c, d ^^^ m))
    (a ^^^ m, b, c, d)) v
  let (a, b, c, d) := v
  let (a, b, c, d) := sipRound (sipRound (sipRound (sipRound (a, b, c ^^^ 0xFF, d))))
  a ^^^ b ^^^ c ^^^ d

/-! ## SHA-256 and SHA-512 -/

def k256_0 : List Nat :=
  [0x428A2F98, 0x71374491, 0xB5C0FBCF, 0xE9B5DBA5, 0x3956C25B, 0x59F111F1, 0x923F82A4, 0xAB1C5ED5,
   0xD807AA98, 0x12835B01, 0x243185BE, 0x550C7DC3, 0x72BE5D74, 0x80DEB1FE, 0x9BDC06A7, 0xC19BF174]
def k256_1 : List Nat :=
  [0xE49B69C1, 0xEFBE4786, 0x0FC19DC6, 0x240CA1CC, 0x2DE92C6F, 0x4A7484AA, 0x5CB0A9DC, 0x76F988DA,
   0x983E5152, 0xA831C66D, 0xB00327C8, 0xBF597FC7, 0xC6E00BF3, 0xD5A79147, 0x06CA6351, 0x14292967]
def k256_2 : List Nat :=
  [0x27B70A85, 0x2E1B2138, 0x4D2C6DFC, 0x53380D13, 0x650A7354, 0x766A0ABB, 0x81C2C92E, 0x92722C85,
   0xA2BFE8A1, 0xA81A664B, 0xC24B8B70, 0xC76C51A3, 0xD192E819, 0xD6990624, 0xF40E3585, 0x106AA070]
def k256_3 : List Nat :=
  [0x19A4C116, 0x1E376C08, 0x2748774C, 0x34B0BCB5, 0x391C0CB3, 0x4ED8AA4A, 0x5B9CCA4F, 0x682E6FF3,
   0x748F82EE, 0x78A5636F, 0x84C87814, 0x8CC70208, 0x90BEFFFA, 0xA4506CEB, 0xBEF9A3F7, 0xC67178F2]
/-- Round constants of SHA-256. -/
def k256 : List Nat := k256_0 ++ k256_1 ++ k256_2 ++ k256_3
/-- Initial hash value of SHA-256. -/
def h256 : List Nat := [0x6A09E667, 0xBB67AE85, 0x3C6EF372, 0xA54FF53A, 0x510E527F, 0x9B05688C, 0x1F83D9AB, 0x5BE0CD19]

def k512_0 : List Nat :=
  [0x428A2F98D728AE22, 0x7137449123EF65CD, 0xB5C0FBCFEC4D3B2F, 0xE9B5DBA58189DBBC,
   0x3956C25BF348B538, 0x59F111F1B605D019, 0x923F82A4AF194F9B, 0xAB1C5ED5DA6D8118,
   0xD807AA98A3030242, 0x12835B0145706FBE, 0x243185BE4EE4B28C, 0x550C7DC3D5FFB4E2,
   0x72BE5D74F27B896F, 0x80DEB1FE3B1696B1, 0x9BDC06A725C71235, 0xC19BF174CF692694]
def k512_1 : List Nat :=
  [0xE49B69C19EF14AD2, 0xEFBE4786384F25E3, 0x0FC19DC68B8CD5B5, 0x240CA1CC77AC9C65,
   0x2DE92C6F592B0275, 0x4A7484AA6EA6E483, 0x5CB0A9DCBD41FBD4, 0x76F988DA831153B5,
   0x983E5152EE66DFAB, 0xA831C66D2DB43210, 0xB00327C898FB213F, 0xBF597FC7BEEF0EE4,
   0xC6E00BF33DA88FC2, 0xD5A79147930AA725, 0x06CA6351E003826F, 0x142929670A0E6E70]
def k512_2 : List Nat :=
  [0x27B70A8546D22FFC, 0x2E1B21385C26C926, 0x4D2C6DFC5AC42AED, 0x53380D139D95B3DF,
   0x650A73548BAF63DE, 0x766A0ABB3C77B2A8, 0x81C2C92E47EDAEE6, 0x92722C851482353B,
   0xA2BFE8A14CF10364, 0xA81A664BBC423001, 0xC24B8B70D0F89791, 0xC76C51A30654BE30,
   0xD192E819D6EF5218, 0xD69906245565A910, 0xF40E35855771202A, 0x106AA07032BBD1B8]
def k512_3 : List Nat :=
  [0x19A4C116B8D2D0C8, 0x1E376C085141AB53, 0x2748774CDF8EEB99, 0x34B0BCB5E19B48A8,
   0x391C0CB3C5C95A63, 0x4ED8AA4AE3418ACB, 0x5B9CCA4F7763E373, 0x682E6FF3D6B2B8A3,
   0x748F82EE5DEFB2FC, 0x78A5636F43172F60, 0x84C87814A1F0AB72, 0x8CC702081A6439EC,
   0x90BEFFFA23631E28, 0xA4506CEBDE82BDE9, 0xBEF9A3F7B2C67915, 0xC67178F2E372532B]
def k512_4 : List Nat :=
  [0xCA273ECEEA26619C, 0xD186B8C721C0C207, 0xEADA7DD6CDE0EB1E, 0xF57D4F7FEE6ED178,
   0x06F067AA72176FBA, 0x0A637DC5A2C898A6, 0x113F9804BEF90DAE, 0x1B710B35131C471B,
   0x28DB77F523047D84, 0x32CAAB7B40C72493, 0x3C9EBE0A15C9BEBC, 0x431D67C49C100D4C,
   0x4CC5D4BECB3E42B6, 0x597F299CFC657E2A, 0x5FCB6FAB3AD6FAEC, 0x6C44198C4A475817]
/-- Round constants of SHA-512. -/
def k512 : List Nat := k512_0 ++ k512_1 ++ k512_2 ++ k512_3 ++ k512_4
/-- Initial hash value of SHA-512. -/
def h512 : List Nat :=
  [0x6A09E667F3BCC908, 0xBB67AE8584CAA73B, 0x3C6EF372FE94F82B, 0xA54FF53A5F1D36F1,
   0x510E527FADE682D1, 0x9B05688C2B3E6C1F, 0x1F83D9ABFB41BD6B, 0x5BE0CD19137E2179]

/-- What differs between the two: word width, round constants, rotation amounts of Σ0, Σ1, σ0, σ1. -/
structure Sha where
  w : Nat
  k : List Nat
  big0 : Nat × Nat × Nat
  big1 : Nat × Nat × Nat
  small0 : Nat × Nat × Nat
  small1 : Nat × Nat × Nat

def sha256P : Sha := { w := 32, k := k256, big0 := (2, 13, 22), big1 := (6, 11, 25), small0 := (7, 18, 3), small1 := (17, 19, 10) }
def sha512P : Sha := { w := 64, k := k512, big0 := (28, 34, 39), big1 := (14, 18, 41), small0 := (1, 8, 7), small1 := (19, 61, 6) }

def rotr (w a n : Nat) : Nat := a >>> n ||| (a <<< (w - n)) % 2 ^ w
def Sha.big (p : Sha) (r : Nat × Nat × Nat) (x : Nat) : Nat := rotr p.w x r.1 ^^^ rotr p.w x r.2.1 ^^^ rotr p.w x r.2.2
def Sha.small (p : Sha) (r : Nat × Nat × Nat) (x : Nat) : Nat := rotr p.w x r.1 ^^^ rotr p.w x r.2.1 ^^^ x >>> r.2.2

/-- Big-endian value of bytes. -/
def beNat (bytes : List Byte) : Nat := bytes.foldl (fun n b => n * 256 + b.toNat) 0

/-- One round with the window of the last sixteen schedule words. -/
def Sha.round (p : Sha) (x : List Nat × List Nat) (k : Nat) : List Nat × List Nat :=
  let (win, st) := x
  let g (i : Nat) := st.getD i 0
  let m := 2 ^ p.w
  let w := win.getD 0 0
  let ch := (g 4 &&& g 5) ^^^ ((m - 1 - g 4) &&& g 6)
  let t1 := (g 7 + p.big p.big1 (g 4) + ch + k + w) % m
  let maj := (g 0 &&& g 1) ^^^ (g 0 &&& g 2) ^^^ (g 1 &&& g 2)
  let t2 := (p.big p.big0 (g 0) + maj) % m
  let next := (p.small p.small1 (win.getD 14 0) + win.getD 9 0 + p.small p.small0 (win.getD 1 0) + w) % m
  (win.drop 1 ++ [next], [(t1 + t2) % m, g 0, g 1, g 2, (g 3 + t1) % m, g 4, g 5, g 6])

/-- One block. -/
def Sha.block (p : Sha) (h : List Nat) (bytes : List Byte) : List Nat :=
  let n := p.w / 8
  let win := (List.range 16).map (fun i => beNat ((bytes.drop (n * i)).take n))
  List.zipWith (fun a b => (a + b) % 2 ^ p.w) h (p.k.foldl p.round (win, h)).2

/-- The `n` big-endian bytes of a value. -/
def beBytes (n v : Nat) : List Byte := (leBytes n v).reverse

/-- The padded message. -/
def Sha.pad (p : Sha) (bytes : List Byte) : List Byte :=
  let b := 2 * p.w
  let l := p.w / 4
  let z := (b - (bytes.length + 1 + l) % b) % b
  bytes ++ 0x80 :: List.replicate z 0 ++ beBytes l (8 * bytes.length)

/-- The hash. -/
def Sha.hash (p : Sha) (h : List Nat) (bytes : List Byte) : List Byte :=
  let m := p.pad bytes
  let b := 2 * p.w
  ((List.range (m.length / b)).foldl (fun h i => p.block h ((m.drop (b * i)).take b)) h).flatMap (beBytes (p.w / 8))

def sha256 (bytes : List Byte) : List Byte := sha256P.hash h256 bytes
def sha512 (bytes : List Byte) : List Byte := sha512P.hash h512 bytes

/-! ## Ed25519 -/

def edP : Nat := 2 ^ 255 - 19
def edL : Nat := 2 ^ 252 + 27742317777372353535851937790883648493
/-- −121665 / 121666 mod p. -/
def edD : Nat := 37095705934669439343138083508754565189542113879843219016388785533085940283555
def edX : Nat := 15112221349535400772501151409588531511454012693041857206046113283949847762202
def edY : Nat := 46316835694926478169428394003475163141307993866256225615783033603165251855960

/-- x^n mod p over the bits of n, `fuel` of them. -/
def edPow (x : Nat) : Nat → Nat → Nat
  | 0, _ => 1
  | fuel + 1, n =>
    let h := edPow x fuel (n / 2)
    let h2 := h * h % edP
    if n % 2 = 1 then h2 * x % edP else h2

def edSub (a b : Nat) : Nat := (a + edP - b) % edP
def edInv (x : Nat) : Nat := edPow x 256 (edP - 2)

/-- A point in extended coordinates X, Y, Z, T. -/
abbrev EdPt := Nat × Nat × Nat × Nat

def edAdd (p q : EdPt) : EdPt :=
  let (x1, y1, z1, t1) := p
  let (x2, y2, z2, t2) := q
  let a := edSub y1 x1 * edSub y2 x2 % edP
  let b := (y1 + x1) * (y2 + x2) % edP
  let c := t1 * 2 * edD * t2 % edP
  let d := z1 * 2 * z2 % edP
  let e := edSub b a
  let f := edSub d c
  let g := (d + c) % edP
  let h := (b + a) % edP
  (e * f % edP, g * h % edP, f * g % edP, e * h % edP)

/-- n × P over the bits of n, `fuel` of them. -/
def edMul (p : EdPt) : Nat → Nat → EdPt
  | 0, _ => (0, 1, 1, 0)
  | fuel + 1, n =>
    let h := edMul p fuel (n / 2)
    let h2 := edAdd h h
    if n % 2 = 1 then edAdd h2 p else h2

/-- The point of a 32-byte encoding, as a little-endian number. -/
def edDecode (n : Nat) : Option EdPt :=
  let y := n % 2 ^ 255
  let sign := n / 2 ^ 255 % 2
  if edP ≤ y then none else
  let u := edSub (y * y % edP) 1
  let v := (edD * (y * y % edP) + 1) % edP
  let x2 := u * edInv v % edP
  let x := edPow x2 256 ((edP + 3) / 8)
  let x := if x * x % edP = x2 then x else x * edPow 2 256 ((edP - 1) / 4) % edP
  if x * x % edP != x2 then none
  else if x = 0 && sign = 1 then none
  else
    let x := if x % 2 = sign then x else edP - x
    some (x, y, 1, x * y % edP)

/-- The encoding of a point. -/
def edEncode (p : EdPt) : Nat :=
  let (x, y, z, _) := p
  let i := edInv z
  y * i % edP + (x * i % edP % 2) * 2 ^ 255

/-- An Ed25519 signature of 64 bytes verifies: S B = R + k A, with R as encoded (log entry 20). -/
def edVerify (pub : Nat) (msg sig : List Byte) : Bool :=
  if sig.length != 64 then false else
  let s := leNat (sig.drop 32)
  if edL ≤ s then false else
  match edDecode pub with
  | none => false
  | some (ax, ay, az, at_) =>
    let k := leNat (sha512 (sig.take 32 ++ leBytes 32 pub ++ msg)) % edL
    let minusA : EdPt := (edSub 0 ax, ay, az, edSub 0 at_)
    let r := edAdd (edMul (edX, edY, 1, edX * edY % edP) 256 s) (edMul minusA 256 k)
    edEncode r == leNat (sig.take 32)

end Sys2Proof.Machine
end

