-- ==== Sys2Proof/Machine/LegendTable.lean ====
section
/-!
DEFINITION. The Legend entries: type, size, access class, privilege, range and default of every element, from the Legend table
of each chapter (R233 to R236).
-/
namespace Sys2Proof.Machine

/-- An element as its chapter's table describes it: type code of Table 09-1, size in bytes, access class (0 RO, 1 RW, 2 RWS,
3 WO, 4 WOO, 5 CMD), privilege (Table 09-3), range of an integer, its step, whether it mirrors a field marked LCK, and the value
it holds when nothing was written. -/
structure Desc where
  ty : Nat
  size : Nat
  acc : Nat := 0
  priv : Nat := 0
  lo : Int := 0
  hi : Int := 0
  step : Nat := 1
  lck : Bool := false
  dflt : Nat := 0
  /-- The value is a token (R240). -/
  token : Bool := false
deriving DecidableEq, Repr

/-! ## Types -/

def tBool : Desc := { ty := 1, size := 1, hi := 1 }
def tI (code size : Nat) : Desc := { ty := code, size := size, lo := -(2 ^ (8 * size - 1)), hi := 2 ^ (8 * size - 1) - 1 }
def tI8 : Desc := tI 2 1
def tI16 : Desc := tI 3 2
def tI32 : Desc := tI 4 4
def tI64 : Desc := tI 5 8
def tU (code size : Nat) : Desc := { ty := code, size := size, hi := 2 ^ (8 * size) - 1 }
def tU8 : Desc := tU 6 1
def tU16 : Desc := tU 7 2
def tU32 : Desc := tU 8 4
def tU64 : Desc := tU 9 8
def tR32 : Desc := { ty := 10, size := 4 }
def tR64 : Desc := { ty := 11, size := 8 }
def tTime : Desc := tI 12 8
def tOct (n : Nat) : Desc := { ty := 13, size := n }
def tRec (n : Nat) : Desc := { ty := 15, size := n }

/-! ## Classes -/

def Desc.rw (d : Desc) (priv : Nat) : Desc := { d with acc := 1, priv := priv }
def Desc.rws (d : Desc) : Desc := { d with acc := 2, priv := 2 }
def Desc.wo (d : Desc) (priv : Nat) : Desc := { d with acc := 3, priv := priv }
def Desc.cmd (d : Desc) (priv : Nat) : Desc := { d with acc := 5, priv := priv }
def Desc.locked (d : Desc) : Desc := { d with lck := true }
def Desc.range (d : Desc) (lo hi : Int) : Desc := { d with lo := lo, hi := hi }
def Desc.by_ (d : Desc) (n : Nat) : Desc := { d with step := n }
def Desc.def_ (d : Desc) (v : Nat) : Desc := { d with dflt := v }
/-- A token element written beside a command, and one that is write-only. -/
def tTokenCmd : Desc := { tOct 64 with acc := 5, priv := 3, token := true }
def tTokenWo : Desc := { tOct 64 with acc := 3, priv := 3, token := true }

/-- The bits of 1.0, 2.0, 4.0 and 20.0 as REAL32. -/
def one32 : Nat := 0x3F800000
def two32 : Nat := 0x40000000
def four32 : Nat := 0x40800000
def twenty32 : Nat := 0x41A00000

/-! ## The chapters -/

/-- Entries of one kind: first and last entry number, and their elements from .0 up. -/
abbrev Span := Nat × Nat × List Desc

/-- Identity and snapshots (Table 18-15). -/
def spans0 : List Span :=
  [(0x00000, 0x00000, [tU64, tU8, tBool, tU16]),
   (0x00001, 0x00001, [{ tU64 with acc := 4, priv := 2 }]),
   (0x00010, 0x00010, [tTime.cmd 1, tU16, tTime, tU8])]

/-- Modes, life cycle and recovery (Table 02-11). -/
def spans1 : List Span :=
  [(0x10000, 0x10000, [tU8, tU8, tTime, tU16]),
   (0x10001, 0x10001, [(tU8.cmd 1).range 0 7, tTokenCmd]),
   (0x10002, 0x10002, [tBool.rws, tBool.rws, tBool.rws, tU32.rws.range 0 3600]),
   (0x10003, 0x10003, [tU8]),
   (0x10010, 0x10010, List.replicate 8 tU32),
   (0x10011, 0x10011, [tU8]),
   (0x10020, 0x10020, [tU8]),
   (0x10021, 0x10021, [(tU8.cmd 3).range 0 3, tTokenCmd]),
   (0x10030, 0x10030, [tU8, tU16, tU64]),
   (0x10031, 0x10031, [((tU8.rw 2).range 1 15).def_ 3, ((tU32.rw 2).range 100 600000).def_ 10000]),
   (0x10040, 0x10040, [tU16.cmd 2]),
   (0x10041, 0x10041, [tU8]),
   (0x10050, 0x10050, [tU16.cmd 2]),
   (0x10060, 0x10060, [tU16.cmd 2]),
   (0x10061, 0x10061, [tU32]),
   (0x10070, 0x10070, [(tU8.cmd 2).range 1 2, tTokenCmd, tU64]),
   (0x10071, 0x10071, [(tU8.cmd 2).range 0 1, tTokenCmd, tU8]),
   (0x10072, 0x10072, [(tU8.cmd 2).range 0 1, tTokenCmd])]

/-- A task record (Table 05-1). -/
def taskDescs : List Desc :=
  [tBool.rws, (tU32.rws.range 250 10000000).by_ 10, (tTime.rws.range 0 9999999990).by_ 10, tU8.rws.range 0 15, tU32.rws, tBool.rws,
   tU16.rws, tU16.rws, tU32.rws, tU32.rws, tU32.rws, (tU8.rws.range 50 100).def_ 80, (tU8.rws.range 1 255).def_ 3,
   (tU8.rws.range 0 1).def_ 1, tU32]

/-- The triad, tasks and programs (Tables 03-10 and 05-4). -/
def spans2 : List Span :=
  [(0x20000, 0x20000, [tU8, tU8, tU8]),
   (0x20001, 0x20001, [tU8]),
   (0x20002, 0x20002, [(tU32.rws.range 20 2000).def_ 200, (tU32.rws.range 4096 1048576).def_ 65536]),
   (0x20003, 0x20003, [(tU8.rws.range 1 15).def_ 3, (tU32.rws.range 60 86400).def_ 3600]),
   (0x20004, 0x20004, [tU64]),
   (0x20005, 0x20005, [tU32, tU32, tU32]),
   (0x20006, 0x20006, [tU32, tU32]),
   (0x20007, 0x20007, [tTime, tU8, tU8, tU64, tU64, tU64, tU64]),
   (0x20008, 0x20008, [tU32]),
   (0x20009, 0x20009, [tU32, tU32]),
   (0x2000A, 0x2000A, [tU32, tU32]),
   (0x2000C, 0x2000C, [(tU8.cmd 2).range 0 2, tBool.rws]),
   (0x21000, 0x2100F, taskDescs),
   (0x21100, 0x2110F, [tU8, tU64, tU32, tU32, tU32, tU32, tU8]),
   (0x21200, 0x21200, [tBool.rws]),
   (0x21210, 0x21213, [(tU8.rw 2).range 0 15, tU64.rw 2]),
   (0x21300, 0x21317, [tU8, tU8]),
   (0x22000, 0x22000, [(tBool.cmd 2).range 1 1, tTokenCmd]),
   (0x22001, 0x22001, [tU64, tU64]),
   (0x22010, 0x22010, [(tBool.cmd 2).range 1 1])]

/-- A loop record (Tables 06-2 to 06-4). -/
def loopDescs : List Desc :=
  [(tU32.rws.range 0 127).def_ 8, tU16.rws.range 0 255, ((tU8.rw 1).range 1 3).def_ 1, (tI8.rws.range (-1) 1).def_ 1]
    ++ List.replicate 10 (tU32.rws.def_ 0xFFFFFFFF)
    ++ [tU32.rws, tU16.rws.def_ 0xFFFF, tU16.rws.def_ 0xFFFF, tU16.rws.def_ 0xFFFF, tU16.rws.def_ 0xFFFF,
        ((tU8.rw 2).range 1 255).def_ 3, (tU8.rw 2).range 0 1]
    ++ List.replicate 10 (tR32.rw 2)
    ++ List.replicate 4 ((tRec 32).rw 2)
    ++ List.replicate 5 (tR32.rw 2)
    ++ [((tU16.rw 2).range 1 65535).def_ 1, (tU8.rw 2).range 0 2]

/-- The control engine, Contour and Sounding (Tables 06-10 and 07-6). -/
def spans3 : List Span :=
  [(0x30000, 0x30000, [tU32, tU16, tU64, tU32, tU32, tU16, tU16, tU32]),
   (0x30001, 0x30001, [(tBool.cmd 2).range 1 1]),
   (0x30100, 0x301FF, [tBool.rws, (tU32.rws.range 20000 4000000000).by_ 400, (tU32.rws.range 0 3999999999).by_ 4, tU16.rws.def_ 0xFFFF, tU32, tU32]),
   (0x30200, 0x302FF, [tU32, tU32, tU64, tU32]),
   (0x31000, 0x31FFF, loopDescs),
   (0x32000, 0x32FFF, [tU8, tU8, tU16, tR64, tR64, tR64, tU64, tU8, tU32, tU32]),
   (0x33000, 0x33FFF, [(tBool.cmd 1).range 1 1, tU32, tR64, tR64, tU32, tU32]),
   (0x34000, 0x341FF, [(tRec 64).rw 2, (tRec 64).rw 2, (tRec 64).rw 2, (tRec 1024).rw 2, (tRec 1024).rw 2, (tRec 1024).rw 2,
                        (tOct 256).rw 2, (tBool.cmd 2).range 1 1, tU16, tU64]),
   (0x34200, 0x34200, [tU16])]

/-- Meridian and the Waypoints (Table 04-11). -/
def spans4 : List Span :=
  [(0x40000, 0x40000, [tU8, tU8, tTime, tTime, tI16]),
   (0x40001, 0x40001, [tI64, tI32, tI64, tOct 10, tOct 8]),
   (0x40002, 0x40002, [tU8.rws.range 0 2, tU8.rws.range 0 127, (tI8.rws.range (-4) 1).def_ 0xFD, tBool.rws, tU8.rws.def_ 250]),
   (0x40003, 0x40003, [tU8.rws.range 0 127, (tI8.rws.range (-7) (-3)).def_ 0xFB]),
   (0x40004, 0x40004, [(tU32.rws.range 500 60000).def_ 2000, (tU32.rws.range 0 3600).def_ 60]),
   (0x40005, 0x40007, List.replicate 4 tI32.rws.locked),
   (0x40008, 0x40008, [(tBool.cmd 3).range 1 1, tTokenCmd]),
   (0x40009, 0x4000A, List.replicate 4 tI32.rws.locked),
   (0x40010, 0x40010, [tU64, tU64, tU32]),
   (0x40011, 0x40011, List.replicate 4 tU32),
   (0x41000, 0x413FF, [(tRec 32).rw 2])]

/-- Redundancy (Table 08-10). -/
def spans5 : List Span :=
  [(0x50000, 0x50000, [tU8, tU16, tU8, tU8, tU32, tU8, tBool, tTime]),
   (0x50001, 0x50001, [tU8.rws.range 0 2, tU16.rws, tU8.rws.def_ 0xFF, tU8.rws.def_ 0xFF, (tOct 16).wo 2, tTokenWo]),
   (0x50002, 0x50002, [tU32.rws, tU8.rws]),
   (0x50010, 0x50010, [(tBool.cmd 2).range 1 1, tTime]),
   (0x50011, 0x50011, [(tU8.cmd 2).range 1 3, tTokenCmd, tU8, tU32, tU32, tU32]),
   (0x50020, 0x50020, [tU32, tU32, tU32, tU32, tU32, tU64]),
   (0x50030, 0x5003F, [tU16.rws, tU8.rws.def_ 0xFF, tU8.rws.def_ 0xFF, (tOct 16).wo 2, tU32, tU8, tTime, tU32, tTokenWo, (tBool.cmd 2).range 1 1]),
   (0x50040, 0x50040, List.replicate 4 tU32)]

/-- Digital channels (Table 10-10). -/
def spans6 : List Span :=
  [(0x60000, 0x60003, [tU16, tU8, tBool]),
   (0x60010, 0x60010, [tU8.rws]),
   (0x60100, 0x6011F, [(tU32.rws.range 0 0x3FFF).locked, (tU16.rws.locked).def_ 1, tU32.rws.locked, tU8.rws.range 0 63]),
   (0x60200, 0x6021F, [tU32, tBool, tBool, tU16, tU32, tU32, (tBool.cmd 2).range 1 1, (tBool.cmd 2).range 1 1]),
   (0x60300, 0x6033F, [tU8.rws.range 0 32, (tRec 256).rws])]

/-- Analogue channels and HART (Table 11-10). -/
def spans7 : List Span :=
  [(0x70100, 0x70107, [(tU32.rws.range 0 0x1FF).locked, tR32.rws.def_ four32, tR32.rws.def_ twenty32]),
   (0x70200, 0x70207, [tU32, tR32, tU8]),
   (0x70300, 0x70307, [((tU32.rws.range 0 0x7FFF).locked).def_ 0x1000, tR32.rws.def_ four32, tR32.rws.def_ twenty32, tR32.rws.def_ 0x40733333,
                        tR32.rws.def_ 0x41A40000, tR32.rws.locked, tR32.rws.locked, (tR32.rw 2).def_ two32]),
   (0x70400, 0x70407, [tU32, tR32, tR32, tR32]),
   (0x70500, 0x7050F, [tR32.rw 2, (tR32.rw 2).def_ one32, (tU8.cmd 2).range 1 3, tR32.cmd 2]),
   (0x70700, 0x70707, [tR32.rws.def_ two32, tU8.rws.range 0 8, tU8.rws.range 0 2] ++ List.replicate 8 (tRec 8).rws ++ [tOct 16, tU32, tU32, tU32]),
   (0x70800, 0x70807, [(tOct 260).cmd 2, tOct 260, tU32])]

/-- The safety group (Table 12-10). -/
def spans8 : List Span :=
  [(0x80000, 0x80000, [((tBool.cmd 2).range 1 1).locked, tU32.cmd 2, tU32, tU32, tU8, tTime, tBool]),
   (0x80100, 0x8010B, [tU8, tU32, tBool, tU8, tU32]),
   (0x80180, 0x80185, [tU8, tU32, tU32, tBool, tU8]),
   (0x80200, 0x80207, [tU8, tU16, tU8, tU8, tU8, tU8, tU32, tU32, tU32, tU32, tU32, tU32, tU32, tU32, tU8, tTime, tU32]),
   (0x80400, 0x80403, [tU32, tU8, tU32, tU8, tU32, tU8, tU32, tBool]),
   (0x80500, 0x80501, [tU8, tU8, tU8, tR32, tR32, tU32, tU32, tR32, tI32, tU8]),
   (0x80600, 0x80600, List.replicate 4 tU32)]

/-- CAN (Table 13-14); an object record is Table 13-4. -/
def spans9 : List Span :=
  [(0x90000, 0x90003, [(tU32.rws.range 0 0x1F).locked, tU32.rws.locked, tU32.rws.locked, (tU32.rws.range 0 0xFF).locked, tU32.rws.range 0 1]),
   (0x90100, 0x90103, List.replicate 9 tU32),
   (0x90200, 0x90203, List.replicate 32 (tRec 8).rws.locked ++ [tU8.rws]),
   (0x90300, 0x90303, List.replicate 4 (tRec 9).rws),
   (0x91000, 0x913FF, [tBool.rws, tU8.rws.range 0 1, tU32.rws, tU8.rws.range 0 3, tU8.rws.range 0 15, tBool.rws, tU8.rws, tU8.rws.range 0 15,
                        tU32.rws.range 0 10000000, tU8.rws.range 0 3, tBool.rws, tU32.rws.range 0 60000, tU32.rws.def_ 0xFFFFFFFF, tU8.rws,
                        tU8.rws.range 0 16] ++ List.replicate 16 (tRec 16).rws),
   (0x92000, 0x923FF, [tU32, tU32, tTime, tU32])]

/-- Networks (Table 14-10). -/
def spansA : List Span :=
  [(0xA0000, 0xA0000, [tU8.rws.range 0 1, (tOct 4).rws, (tOct 4).rws, tU16.rws, (tU32.rws.range 1000 10000).def_ 2000]),
   (0xA0010, 0xA0013, List.replicate 8 tU32),
   (0xA0020, 0xA0020, [tU16, tU8, tU8, tU32]),
   (0xA0100, 0xA0117, [tU64.rws, tU8.rws, (tU8.rws.range 1 255).def_ 1, tU8, (tRec 1428).rws]),
   (0xA0200, 0xA0201, List.replicate 4 tU32)]

/-- The Legend service, Survey and cascade (Table 09-16). -/
def spansB : List Span :=
  [(0xA8000, 0xA8000, [tU16, tU64, tU32, tU32, tU32, tU32]),
   (0xA8001, 0xA8001, [((tU32.rw 2).range 10 3600).def_ 60, (tBool.rw 2).def_ 1, ((tU32.rw 2).range 100 20000).def_ 2000]),
   (0xA8010, 0xA802F, [(tOct 32).rw 2, (tU8.rw 2).range 0 3, tU64, tTokenWo]),
   (0xA8100, 0xA811F, [tU8, tU8, tOct 8, tTime, tTime]),
   (0xA8200, 0xA8200, [(tOct 67108864).rw 2, tU32, tU32, (tBool.cmd 2).range 1 1]),
   (0xA8300, 0xA83FF, [(tU32.rw 2).range 0 524287, (tOct 8).rw 2, tBool.rw 2]),
   (0xA8400, 0xA843F, [tRec 32]),
   (0xA8440, 0xA8440, [tU8.rws.def_ 0xFF, tU8]),
   (0xA8441, 0xA8441, [(tOct 16).wo 2, tTokenWo]),
   (0xA8500, 0xA853F, [(tOct 4).rws]),
   (0xA9000, 0xA90FF, [tU8, tU16, tU16, tU16, tU16, tU32])]

/-- Recorder, Cartouche, clocks, memory and power (Tables 15-5, 16-6, 17-14). -/
def spansC : List Span :=
  [(0xB0000, 0xB0000, [tU64, tU64, tU32, tU32, tU64, tU32, tU16]),
   (0xB0001, 0xB0001, [(tBool.cmd 3).range 1 1, tTokenCmd]),
   (0xB0100, 0xB0100, [tOct 33554432]),
   (0xC0000, 0xC0000, [tU32, tU16, tU16, tU8, tU32, tBool]),
   (0xC0001, 0xC0001, [tU32.rws.locked, tBool.rws]),
   (0xC0002, 0xC0002, List.replicate 16 ((tU32.rw 2).def_ 0xFFFFFFFF)),
   (0xC0003, 0xC0003, [(tBool.cmd 1).range 1 1]),
   (0xD0000, 0xD0000, [tU32, tU32, tI32, tI32, tU32, (tU8.rws.range 0 2).locked, (tU8.rws.range 0 7).locked]),
   (0xD0100, 0xD0100, List.replicate 6 tU32),
   (0xD0101, 0xD0101, List.replicate 49 tU32),
   (0xD0200, 0xD0200, [tU32, tU16, tU16, tU16, tU16, tU16, tI16, tU32]),
   (0xD0201, 0xD0201, [((tU8.rw 2).range 1 10).def_ 5])]

/-- A service record (Table 09-15). -/
def serviceDescs : List Desc := [tU8.rws.range 0 2, tBool.rws, tU32.rws.range 1000 10000000, tU8, tU32, tU32]

/-- Every entry of fixed shape, in ascending order. -/
def spans : List Span :=
  spans0 ++ spans1 ++ spans2 ++ spans3 ++ spans4 ++ spans5 ++ spans6 ++ spans7 ++ spans8 ++ spans9 ++ spansA ++ spansB ++ spansC

/-! ## Elements that a program declares -/

/-- Size of a Legend type code of fixed size. -/
def typeSize : Nat → Nat
  | 1 => 1 | 2 => 1 | 3 => 2 | 4 => 4 | 5 => 8 | 6 => 1 | 7 => 2 | 8 => 4 | 9 => 8 | 10 => 4 | 11 => 8 | 12 => 8
  | _ => 0

/-- The declaration of a single value by its element (R147). -/
def State.single? (s : State) (e n : Nat) : Option SingleDecl :=
  match s.tsk.active with | some p => p.singles.find? (fun d => d.ea == ea e n) | none => none

/-- The declaration of a constant by its place in the batch (R147). -/
def State.const? (s : State) (n : Nat) : Option ConstDecl :=
  match s.tsk.active with | some p => p.consts.find? (fun d => d.idx == n) | none => none

/-- An element, if it exists. -/
def State.desc (s : State) (e n : Nat) : Option Desc :=
  if 0x28000 ≤ e && e ≤ 0x2FFFF then
    (s.single? e n).map (fun d => { ty := d.type, size := typeSize d.type, acc := 1, priv := d.priv, lo := d.lo, hi := d.hi, dflt := d.init })
  else if e = 0x22011 then
    (s.const? n).map (fun d => { ty := d.type, size := typeSize d.type, acc := 1, priv := 2, lo := d.lo, hi := d.hi, dflt := d.init })
  else if 0x91000 ≤ e && e ≤ 0x923FF && 128 ≤ e % 256 then none
  else if 0xE0000 ≤ e && e ≤ 0xEFFFF then (if e % 256 = 0 then serviceDescs[n]? else none)
  else
    match spans.find? (fun x => x.1 ≤ e && e ≤ x.2.1) with
    | some x => x.2.2[n]?
    | none => none

/-- The default of an element; that of Legend 0x10002.1 follows the role (Table 02-11). -/
def State.dflt (s : State) (e n : Nat) : Nat :=
  if e = 0x10002 && n = 1 then s.pairMember.toNat
  else match s.desc e n with | some d => d.dflt | none => 0

/-! ## Range checks (R234) -/

/-- The type is an integer, with or without sign. -/
def Desc.isInt (d : Desc) : Bool := d.ty ≤ 9 || d.ty == 12
/-- The integer that a value's bytes give. -/
def Desc.int (d : Desc) (v : Nat) : Int := if (2 ≤ d.ty && d.ty ≤ 5) || d.ty == 12 then toSigned (8 * d.size) v else (v : Int)

/-- A value fits its type and the range of its table. -/
def Desc.fits (d : Desc) (v : Nat) : Bool :=
  decide (v < 256 ^ d.size) &&
    (if d.isInt then decide (d.lo ≤ d.int v) && decide (d.int v ≤ d.hi) && decide (d.int v % (d.step : Int) = 0)
     else if d.ty = 10 then F32.isFinite (BitVec.ofNat 32 v)
     else if d.ty = 11 then F64.isFinite (BitVec.ofNat 64 v)
     else true)

/-- A point reference of a loop or a CAN field: type known, bits 30 to 28 zero, module index its own or its partner's; or the
word of an unused one (Table 06-6, R158). -/
def State.refOk (s : State) (r : Nat) : Bool :=
  if bitOf r 31 then r == 0xFFFFFFFF
  else field r 30 28 == 0 && field r 27 25 ≤ 6 && (field r 24 19 == s.modIndex || (s.pairMember && field r 24 19 == s.partner))

/-- A CT_ field: a table, or 0xFFFF. -/
def ctOk (v : Nat) : Bool := v < 512 || v == 0xFFFF

/-- A value within a REAL32 range. -/
def inF (v : Nat) (lo hi : F64) : Bool := let x := F32.widen (BitVec.ofNat 32 v); F64.le lo x && F64.le x hi

/-- The range of an element as its own chapter states it, beyond its type. -/
def State.ownRange (s : State) (e n v : Nat) : Bool :=
  if 0x31000 ≤ e && e ≤ 0x31FFF then
    let slot := e - 0x31000
    if 4 ≤ n && n ≤ 13 then s.refOk v
    else if 15 ≤ n && n ≤ 18 then ctOk v
    else if n = 3 then v == 1 || v == 255
    else if n = 2 || 19 ≤ n then (match s.loopCheck slot n v with | some a => a.status != .range | none => true)
    else true
  else if 0x70300 ≤ e && e ≤ 0x70307 then
    if n = 3 || n = 4 || n = 5 || n = 6 then inF v 0 (F64.ofInt 22)
    else if n = 7 then inF v (F64.ofRatio 1 2) (F64.ofInt 10)
    else if n = 0 then field v 11 9 ≤ 4 && field v 14 12 ≤ 4
    else true
  else if 0x70700 ≤ e && e ≤ 0x70707 && n = 0 then inF v (F64.ofRatio 1 2) (F64.ofInt 60)
  else if 0x60100 ≤ e && e ≤ 0x6011F && n = 0 then field v 2 0 ≤ 4 && field v 11 10 ≤ 2
  else if 0x91000 ≤ e && e ≤ 0x913FF then
    if n = 2 then field v 30 29 == 0 && (bitOf v 31 || v < 2048)
    else if n = 6 then v ≤ 2
    else if n = 8 then v == 0 || 10 ≤ v
    else true
  else if 0x50001 = e && n = 1 then true
  else if 0xC0001 = e && n = 0 then field v 1 0 ≤ 2
  else true

end Sys2Proof.Machine
end

