-- ==== Sys2Proof/Machine/CycleOps.lean ====
section
/-!
DEFINITION. The task cycle: start, freeze, end, late cycles and releases (R123 to R137, R140, R144, R145, R147, R204).
-/
namespace Sys2Proof.Machine

/-! ## What runs on the triad (R124) -/

/-- A unit becomes ready: it runs at once on an idle triad, else it waits for the end or the preemption of what runs. -/
def State.readyUnit (s : State) (u : Unit_) : State :=
  if s.tri.unit_ = .idle then { s with tri := { s.tri with unit_ := u } }
  else { s with tri := { s.tri with preempted := s.tri.preempted ++ [u] } }

/-- A waiting unit of higher priority takes over from what runs, after a COMMIT checkpoint of it (R124). -/
def State.preempt (s : State) : State :=
  let v := s.bestUnit s.tri.preempted
  if s.unitPrio v < s.unitPrio s.tri.unit_ then
    { s with tri := { s.tri with unit_ := v, preempted := s.tri.unit_ :: s.tri.preempted.erase v } }
  else s

/-! ## On-line values (R147) -/

/-- The single values and batches accepted for a task take effect at its cycle start, in arrival order. -/
def State.takeSingles (s : State) (t : Nat) : State :=
  let mine (x : Nat × Nat) : Bool := match s.single? (x.1 / 256) (x.1 % 256) with | some d => d.task == t | none => false
  let due := s.tsk.singles.filter mine
  let due2 := s.tsk.batches.filter (fun b => b.2.contains t)
  let reads (i : Nat) : Bool := match s.const? i with | some d => d.tasks.contains t | none => false
  let s : State := { s with tsk := { s.tsk with
    singles := s.tsk.singles.filter (fun x => !mine x),
    values := due.foldl (fun v x => Table.put v x.1 x.2) s.tsk.values,
    consts := due2.foldl (fun c b => b.1.foldl (fun c x => if reads x.1 then Table.put c (64 * t + x.1) x.2 else c) c) s.tsk.consts,
    batches := (s.tsk.batches.map (fun b => (b.1, b.2.filter (· != t)))).filter (fun b => !b.2.isEmpty) } }
  let s := s.each due (fun s x => s.ev 0x2107 [x.1 / 256])
  s.each due2 (fun s _ => s.ev 0x2107 [0x22010])

/-! ## Starting a cycle -/

/-- A repeated output frame of the ring owner, with a new release instant (R33, R135). -/
def State.repeatFrame (s : State) (t : Nat) (c : MTime) : State := s.sendOutput t (c + taskLNs (s.taskRec t)) true

/-- A cycle start that finds the previous cycle running is skipped (R135 to R137); causes 0 overrun, 1 STEP. -/
def State.skipCycle (s : State) (t : Nat) (c : MTime) : State :=
  let r := s.taskRun t
  let rec_ := s.taskRec t
  let n := if r.stepped then r.consec else r.consec + 1
  let s := s.updTask t (fun x => { x with skipped := satInc 32 x.skipped, consec := min n 255, stepped := false, state := .late })
  let s := (s.tskPend (16 + t)).evRep 0x2102 0 [t, r.stepped.toNat]
  let s := if rec_.ringOwner then (s.startExchange t c).repeatFrame t c else s
  if rec_.skipLimit < n && !r.stepped then
    let s := s.ev 0x2103 [t, rec_.ovrReaction]
    if rec_.ovrReaction = 1 then s.enterSafe 0x2103 t false else s
  else s

/-- A task no longer keeps STOP to RUN waiting once its first cycle has latched. -/
def State.taskStarted (s : State) (t : Nat) : State :=
  s.updTrans (fun x => if x.dest = .run then { x with tasks := x.tasks.filter (· != t) } else x)

/-- A cycle begins at its latch instant C (R126, R140, R144). A Δ not yet in its timers is added before the cycle reads them, so
that no elapsed time jumps (R100). -/
def State.beginCycle (s : State) (t : Nat) (c : MTime) : State :=
  let r := s.taskRun t
  let s := s.shiftTimers t r.stepDelta
  let s := match r.heldAt with
    | some h => if s.elB 0x21200 0 false then s.shiftTimers t (c - h - taskTNs (s.taskRec t)) else s
    | none => s
  let s := s.updTask t (fun x =>
    { x with c := c, freeze := c + s.taskTin t, latched := true, frozen := false, inset := [], state := .waiting, first := x.firstNext,
             firstNext := false, stepped := false, consec := 0, missed := false, heldAt := none, stepDelta := 0, cycSet := [] })
  let s := (s.takeSingles t).taskStarted t
  if (s.taskRec t).ringOwner then s.startExchange t c else s

/-- Action 7 (Table 04-7): latch the task's input group, then start or skip its cycle. In HOLD the ring owner's exchange goes
on with repeated frames (R33). -/
def State.startTask (s : State) (t : Nat) (c : MTime) : State :=
  let s := s.latchGroup (s.taskRec t).inGroup
  match s.mode.mode with
  | .run =>
    if !s.startOk c then s
    else if (s.taskRun t).busy then s.skipCycle t c
    else s.beginCycle t c
  | .hold => if (s.taskRec t).ringOwner then (s.startExchange t c).repeatFrame t c else s
  | _ => s

/-- The image of a cycle freezes at C + t_in, and the task is released (R126, R127). -/
def State.freezeTask (s : State) (t : Nat) : State :=
  let s := s.updTask t (fun x => { x with latched := false, frozen := true, inset := [], state := .running })
  s.readyUnit (.task t)

/-! ## Ending a cycle -/

/-- The commit deadline C + L − G. -/
def State.taskDeadline (s : State) (t : Nat) : MTime := (s.taskRun t).c + taskLNs (s.taskRec t) - s.taskG t

/-- The overrun warning of R134. -/
def State.overrunWarning (s : State) (t : Nat) : State :=
  let r := s.taskRun t
  let rec_ := s.taskRec t
  let span := taskLNs rec_ - s.taskG t - s.taskTin t
  if r.c + s.taskTin t + (rec_.warnPct : Int) * span / 100 < s.now then
    ((s.updTask t (fun x => { x with warnings := satInc 32 x.warnings })).tskPend 0).evRep 0x2101 0 [t]
  else s

/-- Numbers of a write-set entry in a copy. -/
def entryNums (e : WEntry) : List Nat := [e.addr, e.mask, e.data]

/-- An address of the MRAM retentive area. -/
def retentiveAddr (a : Nat) : Bool := 0x62000000 ≤ a && a ≤ 0x62FFFFFF

/-- The duty sends the TASK copy and its END after a TASK-END commit (R204, R207). -/
def State.copyTask (s : State) (t : Nat) (outs : List OutVal) : State :=
  if s.pairMember && (s.red.holds || s.awaitsTask t) then
    let r := s.taskRun t
    let image := (s.inputSet t).flatMap (fun p => let x := Table.get r.inset (s.record p) p; [p, x.value, x.quality, x.flags])
    let ret := (r.cycSet.filter (fun e => retentiveAddr e.addr)).flatMap entryNums
    let vals := (outs.filter (fun o => !s.paralleled o.chan)).flatMap (fun o => [chanNo o.chan, o.value])
    let sig := crc64 (r.cycSet.flatMap (fun e => leBytes 8 e.addr ++ leBytes 8 e.mask ++ leBytes 8 e.data))
    let n := s.red.copySeq
    let s : State := { s with red := { s.red with copySeq := n + 1 } }
    ((s.send (.copy 1 t r.c (image ++ ret ++ vals ++ [sig]))).copyPages t).send (.copy 7 t r.c [n])
  else s

/-- A value handed to a stage: the partner's paralleled stage gets it at once (R212). -/
def State.stageOut (s : State) (latch release : MTime) (o : OutVal) : State :=
  let x := match o.chan with | .ao _ => F32.widen (BitVec.ofNat 32 o.value) | _ => F64.ofInt o.value
  s.sendStage o.chan o.value x latch release

/-- Hand over the channels written and not yet handed over, for a release instant (R131, R132). The ring owner's output frame
leaves with them. -/
def State.handWritten (s : State) (t : Nat) (at_ : MTime) : State :=
  let r := s.taskRun t
  let live := match s.mode.mode with | .stop | .safe => false | _ => true
  let s := s.updTask t (fun x => { x with written := [] })
  if !live then s
  else
    let s := s.handOver t at_ r.written
    let s := s.each r.written (fun s o => s.stageOut r.c at_ o)
    let heads := r.written.filter (fun o => match o.chan with | .head _ _ => true | _ => false)
    let s := s.each heads State.releaseOut
    if (s.taskRec t).ringOwner then s.sendOutput t at_ false else s

/-- The task between cycles again: frozen in HOLD, waiting otherwise. -/
def State.restTask (s : State) (t took : Nat) : State :=
  s.updTask t (fun x =>
    { x with latched := false, frozen := false, inset := [], missed := false, cycles := x.cycles + 1, last := took, max := max x.max took,
             stepDelta := 0, cycSet := [], state := if x.freezeAtEnd then .frozen else .waiting,
             heldAt := if x.freezeAtEnd then some x.c else x.heldAt, freezeAtEnd := false })

/-- The TASK-END commit of a cycle (R100, R127, R131, R134, R135). -/
def State.endTask (s : State) (t : Nat) : State :=
  let r := s.taskRun t
  let at_ := if r.missed then s.lateRelease t r.c else r.c + taskLNs (s.taskRec t)
  let outs := r.written
  let s := s.overrunWarning t
  let s := (s.handWritten t at_).copyTask t outs
  let s := s.shiftTimers t r.stepDelta
  let hold := r.freezeAtEnd
  let s := (s.restTask t (s.now - r.freeze).toNat).endUnit (.task t)
  let dest := match s.mode.trans with | some x => some x.dest | none => none
  if hold || dest = some .standby then s.taskSettled t else s

/-! ## Releases -/

/-- Release one handed value, and place what its point triggers (R351). -/
def State.releaseTaskOut (s : State) (o : OutVal) : State :=
  let s := match o.chan with | .head _ _ => s | _ => s.releaseOut o
  s.each ((s.sur.cmdPts.filter (fun x => sameChan x.2 o.chan)).map (·.1)) State.placeOnRelease

/-- The hand-overs of a task that are due, in order (R131). -/
def State.releaseHanded (s : State) (t : Nat) : State :=
  let due := (s.taskRun t).handed.filter (fun h => decide (h.at_ ≤ s.now))
  let s := s.updTask t (fun x => { x with handed := x.handed.filter (fun h => !decide (h.at_ ≤ s.now)) })
  s.each due (fun s h => s.each h.outs State.releaseTaskOut)

/-- In STOP a task's outputs take their stop values at its release instant (R36). -/
def State.stopOutputs (s : State) (t : Nat) : State :=
  match (s.taskRun t).stopAt with
  | some i =>
    if i ≤ s.now && decide (s.mode.mode = .stop) then
      let s := s.updTask t (fun x => { x with stopAt := none, handed := [], written := [] })
      (s.each (s.taskChans t) State.stopChan).taskSettled t
    else s
  | none => s

end Sys2Proof.Machine
end

