-- ==== Sys2Proof/Machine/Admission.lean ====
section
/-!
DEFINITION. What a configuration, a task table and a program must pass: ranges and references, points, writers, and the
admission of tasks, loops and copies (R19, R30, R54, R122, R125, R155, R166, R172, R173, R184, R201, R206, R216, R262, R269,
R285, R347, R349, R369, R373, R374).
-/
namespace Sys2Proof.Machine

/-! ## Exact fractions -/

/-- A fraction n / d, d > 0. -/
abbrev Frac := Nat × Nat
def Frac.add (a b : Frac) : Frac := if a.2 = b.2 then (a.1 + b.1, a.2) else (a.1 * b.2 + b.1 * a.2, a.2 * b.2)
def Frac.le (a b : Frac) : Bool := decide (a.1 * b.2 ≤ b.1 * a.2)
def Frac.sum (l : List Frac) : Frac := l.foldl Frac.add (0, 1)
def Frac.floor (a : Frac) : Nat := a.1 / a.2

/-! ## The task table (R122) -/

/-- The tasks of a table that are enabled, with their numbers. -/
def enabledTasks (l : List TaskRec) : List (Nat × TaskRec) := l.zipIdx.filterMap (fun x => if x.1.enable then some (x.2, x.1) else none)

/-- Ring nodes other than the module, and the time of a ring cycle (R122, R126). -/
def State.tableRingOk (s : State) (r : TaskRec) : Bool := decide (250 ≤ r.period) && decide (s.ringTin ≤ taskTNs r)

/-- The first task of a table that breaks R122: ring owners, their period, head channels, output channels, priorities; and the
ranges of Table 05-1. -/
def State.tableFault (s : State) (l : List TaskRec) (outs : List (Nat × List Chan)) : Option Nat :=
  let ts := enabledTasks l
  let bad (x : Nat × TaskRec) : Bool :=
    let earlier := ts.filter (fun y => y.1 < x.1)
    let chans := forTask outs x.1
    (x.2.ringOwner && (earlier.any (fun y => y.2.ringOwner) || !s.tableRingOk x.2))
      || (!x.2.ringOwner && chans.any (fun c => match c with | .head _ _ => true | _ => false))
      || chans.any (fun c => earlier.any (fun y => (forTask outs y.1).contains c))
      || earlier.any (fun y => y.2.priority == x.2.priority)
      || x.2.period < 250 || 10000000 < x.2.period || x.2.period % 10 != 0
      || x.2.period * 1000 ≤ x.2.phase || x.2.phase % 10 != 0 || 15 < x.2.priority
      || x.2.warnPct < 50 || 100 < x.2.warnPct || x.2.skipLimit < 1 || 255 < x.2.skipLimit || 1 < x.2.ovrReaction
  (ts.find? bad).map (·.1)

/-! ## Task admission (R125), in sixths of a nanosecond -/

/-- What admission reckons of a task: number, record, E_i, t_in, G. -/
structure Adm where
  t : Nat
  r : TaskRec
  e : Nat
  tin : Nat
  g : Nat
deriving DecidableEq, Repr

/-- E_i of R125: W / 600 M/s + c × 0.4 µs + w × 10 ns. -/
def admE (n : Nat) (a : AdmData) : Nat := a.w * 10 + (a.ckpts + a.w / n) * 2400 + a.entries * 60

/-- One round of the fixed point of R_i. -/
def admRound (x : Adm) (higher : List Adm) (r : Nat) : Nat :=
  2562 + x.e + (higher.map (fun j => ceilDiv r (j.r.period * 6000) * (j.e + 6000))).sum + ceilDiv r 3000000 * 66000

/-- The smallest fixed point of R_i, or the first value above the bound. -/
def admFix (x : Adm) (higher : List Adm) (bound : Nat) : Nat → Nat → Nat
  | 0, r => r
  | fuel + 1, r =>
    let n := admRound x higher r
    if n = r || bound < n then n else admFix x higher bound fuel n

/-- R_i. -/
def admR (l : List Adm) (x : Adm) : Nat :=
  let higher := l.filter (fun j => j.r.priority < x.r.priority)
  let bound := x.r.latency * 15
  admFix x higher bound (bound / 6000 + 2) (2562 + x.e)

/-- U of R125. -/
def admU (l : List Adm) : Frac := Frac.add (22, 1000) (Frac.sum (l.map (fun j => (j.e + 6000, j.r.period * 6000))))

/-- The tasks as admission reckons them. -/
def State.adms (s : State) (l : List TaskRec) (outs : List (Nat × List Chan)) (data : List AdmData) : List Adm :=
  (enabledTasks l).map (fun x =>
    { t := x.1, r := x.2, e := admE (s.el 0x20002 1 65536) (data.getD x.1 { w := 0, entries := 0, ckpts := 0 }),
      tin := ((if x.2.ringOwner then s.ringTin else 1000) * 6).toNat, g := (s.guardNs (forTask outs x.1) * 6).toNat })

/-- A task passes: t_in + R ≤ L − G, L ≤ T, and its intermediate releases lie between the admitted minimum and L, ascending. -/
def admOk (l : List Adm) (x : Adm) : Bool :=
  let min := ceilDiv (x.tin + admR l x + x.g) 15
  let rels := [x.r.rel1, x.r.rel2, x.r.rel3]
  let used := rels.filter (· != 0)
  decide (x.tin + admR l x + x.g ≤ x.r.latency * 15) && decide (x.r.latency ≤ x.r.period * 400)
    && used.all (fun v => min ≤ v && v ≤ x.r.latency) && (used.zip (used.drop 1)).all (fun p => p.1 < p.2)
    && rels.take used.length == used

/-- The first task that fails admission and its R_i in ns, if any. A utilisation above 0.85, or input sets of more than
65,536 points (R127), fail the last enabled task. -/
def State.taskAdmission (s : State) (l : List TaskRec) (p : Option Program) : Option (Nat × Nat) :=
  let outs := match p with | some p => p.outputs | none => []
  let data := match p with | some p => p.adm | none => []
  let points := match p with | some p => (p.inputs.map (fun x => x.2.length)).sum | none => 0
  let as_ := s.adms l outs data
  match as_.find? (fun x => !admOk as_ x) with
  | some x => some (x.t, ceilDiv (admR as_ x) 6)
  | none =>
    match as_.getLast? with
    | some x => if !Frac.le (admU as_) (85, 100) || 65536 < points then some (x.t, ceilDiv (admR as_ x) 6) else none
    | none => none

/-- ADMITTED of the tasks, ns (Table 05-1). -/
def State.admitTasks (s : State) (l : List TaskRec) (p : Option Program) : State :=
  let as_ := s.adms l (match p with | some p => p.outputs | none => []) (match p with | some p => p.adm | none => [])
  s.each as_ (fun s x => s.updTask x.t (fun r => { r with admitted := ceilDiv (admR as_ x) 6 }))

/-! ## Loop admission (R30, R172, R173), in ticks -/

/-- A group as admission reckons it: number, period, phase, T_RDY, loops, next sample instant, F_g. -/
structure Grp where
  g : Nat
  p : Nat
  ph : Nat
  rdy : Nat
  n : Nat
  s : Nat
  f : Nat := 0
deriving DecidableEq, Repr

/-- T_RDY in ticks. -/
def State.rdyTicks (s : State) (g : Nat) : Nat := (s.groupTRdy g * 2 / 5).toNat
/-- G of a loop in ticks. -/
def State.loopGTicks (s : State) (slot : Nat) : Nat := (s.loopG slot * 2 / 5).toNat

/-- The groups with loops. -/
def State.grps (s : State) : List Grp :=
  s.liveGroups.map (fun g => { g := g, p := max (s.groupPeriod g) 1, ph := s.groupPhase g, rdy := s.rdyTicks g,
                               n := (s.groupSlots g).length, s := s.groupPhase g })

/-- H of R172. -/
def hyperOf (l : List Grp) : Nat := l.foldl (fun h x => Nat.lcm h x.p) 1

/-- The queue instant of a group's next sample: groups whose instants coincide queue together at the largest T_RDY (R171). -/
def queueOf (l : List Grp) (x : Grp) : Nat :=
  let m := (l.filter (fun y => y.s == x.s || (y.ph ≤ x.s && (x.s - y.ph) % y.p == 0))).foldl (fun m y => max m y.rdy) x.rdy
  x.s + m

/-- The groups queued at an instant, in ascending order, take their place in the backlog (R172). -/
def queueAll (q : Nat) : List Grp → List Nat → Nat → List Grp × Nat
  | [], _, b => ([], b)
  | x :: xs, at_, b =>
    if at_.contains x.g then
      let b := b + x.n
      let y := { x with f := max x.f ((q - x.s) + ceilDiv b 8 * 72), s := x.s + x.p }
      let (r, b) := queueAll q xs at_ b
      (y :: r, b)
    else
      let (r, b) := queueAll q xs at_ b
      (x :: r, b)

/-- The reckoning of R172 up to an end; the count of queue instants rides along. -/
def laneSim (stop : Nat) : Nat → List Grp → Nat → Nat → List Grp
  | 0, l, _, _ => l
  | fuel + 1, l, b, prev =>
    match l.map (fun x => (queueOf l x, x.g)) with
    | [] => l
    | q :: qs =>
      let m := qs.foldl (fun m y => min m y.1) q.1
      if stop ≤ m then l
      else
        let b := b - 8 * ((m - prev) / 72)
        let due := ((q :: qs).filter (fun y => y.1 == m)).map (·.2)
        let (l, b) := queueAll m l due b
        laneSim stop fuel l b m

/-- Distinct queue instants within H, at most: the sum over the groups. -/
def queueCount (h : Nat) (l : List Grp) : Nat := (l.map (fun x => h / x.p)).sum

/-- The rate, evaluations per s (R30). -/
def rateOf (l : List Grp) : Frac := Frac.sum (l.map (fun x => (x.n * 400000000, x.p)))

/-- F_g of every group, or none where H or the queue instants are too many (R172). -/
def State.reckon (s : State) : Option (List Grp) :=
  let l := s.grps
  let h := hyperOf l
  if 4000000000 < h || 4194304 < queueCount h l then none else some (laneSim (2 * h) (2 * queueCount h l + 1) l 0 0)

/-- The lowest slot that fails loop admission and its F_g, if any (R173). A set refused as a whole names its lowest slot. -/
def State.loopAdmission (s : State) : Option (Nat × Nat) :=
  let first := s.slots.headD 0
  if s.slots.isEmpty then none
  else if !Frac.le (rateOf s.grps) (44000000, 1) then some (first, 0)
  else match s.reckon with
    | none => some (first, 0)
    | some l =>
      let f (i : Nat) := ((l.find? (fun x => x.g == s.loopGroup i)).map (·.f)).getD 0
      (s.slots.find? (fun i => s.lN i 14 0 < f i + s.loopGTicks i)).map (fun i => (i, f i))

/-- The admitted figures come into force (R172, R173). -/
def State.admitLoops (s : State) : State :=
  match s.reckon with
  | none => s
  | some l =>
    let s : State := { s with cen := { s.cen with admitted := !l.isEmpty, rate := Frac.floor (rateOf l), hyper := hyperOf l } }
    let s := s.each l (fun s x => s.updGroup x.g (fun k => { k with fG := x.f }))
    s.each s.slots (fun s i => s.updLoop i (fun x => { x with admitted := (s.group (s.loopGroup i)).fG + s.loopGTicks i }))

/-! ## Copy admission (R206) -/

/-- What each task (its number) and each loop group (0x100 + its number) adds, B per ms. -/
def State.copyParts (s : State) (l : List TaskRec) (p : Option Program) : List (Nat × Frac) :=
  let tasks := (enabledTasks l).map (fun x =>
    let ins := match p with | some p => (forTask p.inputs x.1).length | none => 0
    let outs := match p with | some p => (forTask p.outputs x.1).length | none => 0
    let w := match p with | some p => ((p.adm)[x.1]?.map (·.entries)).getD 0 | none => 0
    (x.1, ((64 + 16 * (ins + w + outs)) * 1000, max x.2.period 1)))
  let groups := s.liveGroups.map (fun g =>
    let reads := ((s.groupSlots g).flatMap (fun i => [4, 5, 6, 7, 8, 9, 10, 12, 13].filterMap (fun n =>
      let r := s.loopRef i n
      if refNone r then none else some (refLocal r)))).eraseDups
    (0x100 + g, ((64 + 16 * (reads.length + (s.groupSlots g).length)) * 400000, max (s.groupPeriod g) 1)))
  tasks ++ groups

/-- The largest contributor to a copy load that is refused, if it is. -/
def State.copyAdmission (s : State) (l : List TaskRec) (p : Option Program) : Option Nat :=
  if !s.pairMember then none else
  let parts := s.copyParts l p
  if Frac.le (Frac.sum (parts.map (·.2))) (2097152, 1) then none
  else (parts.foldl (fun (m : Option (Nat × Frac)) x => match m with
      | none => some x
      | some y => if Frac.le x.2 y.2 then some y else some x) none).map (·.1)

/-! ## CAN (R347, R349) -/

/-- Bit timing within Tables 13-1 and 13-3: fields are stored less one. -/
def canTimingOk (nbt dbt tdc : Nat) : Bool :=
  let f (w hi lo : Nat) := field w hi lo + 1
  let nb := f nbt 4 0 * (1 + f nbt 12 5 + f nbt 19 13)
  let db := f dbt 4 0 * (1 + f dbt 9 5 + f dbt 13 10)
  -- rates: 80 MHz / nb within 10 kbit/s and 1 Mbit/s; data from the nominal rate to 8 Mbit/s
  80 ≤ nb && nb ≤ 8000 && db ≤ nb && 10 ≤ db
    && f nbt 4 0 ≤ 32 && 2 ≤ f nbt 12 5 && f nbt 26 20 ≤ f nbt 19 13 && f dbt 17 14 ≤ f dbt 13 10
    && (bitOf tdc 7 || 80 ≤ db)

/-- A field record of an object: inside the frame, known coding (Table 13-5). -/
def canFieldOk (len : Nat) (raw : Nat) : Bool :=
  let f := canField raw
  decide (1 ≤ f.len) && decide (f.len ≤ 64) && decide (f.start + f.len ≤ 8 * len)
    && (f.coding != 2 || f.len == 32) && (f.coding != 3 || f.len == 64)
    && (!f.swap || (f.start % 8 == 0 && (f.len == 16 || f.len == 32 || f.len == 64)))
    && F64.isFinite f.scale && !F64.eq f.scale 0 && F64.isFinite f.offset

/-- Two fields overlap. -/
def canOverlap (a b : Nat) : Bool :=
  let x := canField a
  let y := canField b
  decide (x.start < y.start + y.len) && decide (y.start < x.start + x.len)

/-- The raw field records of an object. -/
def State.rawFields (s : State) (c o : Nat) : List Nat := (upto (s.objEl c o 14 0)).map (fun k => s.objEl c o (15 + k) 0)

/-- The object breaks R349. -/
def State.objFault (s : State) (c o : Nat) : Bool :=
  let fmt := s.objEl c o 3 0
  let len := dlcLen (bitOf fmt 0) (s.objEl c o 4 0)
  let id := s.objEl c o 2 0
  let fs := s.rawFields c o
  (s.objSend c o && (s.objs c).any (fun k => k < o && s.objSend c k && s.objEl c k 2 0 == id))
    || (!s.objSend c o && (upto 4).any (fun k => let r := s.el (0x90300 + c) k 0; r != 0 && r % 2 ^ 32 == id))
    || (!bitOf fmt 0 && (8 < s.objEl c o 4 0 || bitOf fmt 1))
    || fs.any (fun r => !canFieldOk len r || !s.refOk (r % 2 ^ 32) || refNone (r % 2 ^ 32))
    || fs.zipIdx.any (fun x => fs.zipIdx.any (fun y => x.2 < y.2 && canOverlap x.1 y.1))

/-! ## Ring launch windows (R374), in ns -/

/-- An exchange: period, phase, and the windows relative to its latch instant. -/
structure Launch where
  owner : Nat
  p : Int
  ph : Int
  lo : Int
  hi : Int
deriving DecidableEq, Repr

/-- An instant lies in the launch windows of an exchange: its latch instant, or the window of its OUTPUT. -/
def Launch.holds (x : Launch) (t : Int) : Bool :=
  let r := (t - x.ph) % x.p
  r == 0 || (decide (x.lo ≤ r) && decide (r ≤ x.hi)) || (decide (x.lo ≤ r + x.p) && decide (r + x.p ≤ x.hi))

/-- The exchanges of the ring. -/
def State.launches (s : State) : List Launch :=
  (s.tasks.filter (fun t => (s.taskRec t).ringOwner)).map (fun t =>
      let r := s.taskRec t
      { owner := t, p := max (taskTNs r) 1, ph := r.phase, lo := s.ringTin, hi := taskLNs r - s.taskG t })
    ++ (s.liveGroups.filter s.groupOnRing).map (fun g =>
      { owner := 16 + g, p := max (ticksNs (s.groupPeriod g)) 1, ph := ticksNs (s.groupPhase g), lo := s.groupTRdy g,
        hi := ((s.groupSlots g).map (fun i => s.loopLNs i - s.loopG i)).foldl max 0 })

/-- An exchange one of whose windows opens inside those of two others. -/
def State.launchFault (s : State) : Option Nat :=
  let l := s.launches
  let h := l.foldl (fun h x => Nat.lcm h x.p.toNat) 1
  (l.find? (fun x => (upto (min (h / x.p.toNat) 4194304)).any (fun (k : Nat) =>
    let s0 := x.ph + (k : Int) * x.p
    [s0, s0 + x.lo].any (fun t => 2 < (l.filter (fun y => y.holds t)).length)))).map (·.owner)

/-! ## Ranges and references (check 11) -/

/-- Entry numbers of elements out of range. -/
def State.rangeFaults (s : State) : List Nat :=
  s.elems.filterMap (fun x =>
    let e := x.1 / 256
    let n := x.1 % 256
    if outsideConfig e then none else
    match s.desc e n with
    | none => some e
    | some d => if (d.acc == 1 || d.acc == 2) && d.fits x.2 && s.ownRange e n x.2 then none else some e)

/-- An enabled loop breaks a reference rule: its group is not enabled (R155), L exceeds the period, the limits are out of order,
a schedule has no SX_PT or SY_PT (R184), Sounding is enabled without valid parameters (Table 07-3), or its OUT_PT is the
SPC_PT of two loops (R166). -/
def State.loopFault (s : State) (i : Nat) : Bool :=
  let o := s.loopRef i 11
  !s.groupOn (s.loopGroup i) || s.groupPeriod (s.loopGroup i) < s.lN i 14 0
    || !F64.le (s.lF i 21) (s.lF i 22) || !F64.lt (s.lF i 23) (s.lF i 24)
    || (s.loopCtAny i && refNone (s.loopRef i 12)) || (s.schedTwo i && refNone (s.loopRef i 13))
    || (bitOf (s.loopCtrl i) 6 && [36, 37, 38, 39].any (fun n => (s.loopCheck i n (s.lN i n 0)).isSome))
    || (!refNone o && 2 ≤ (s.slots.filter (fun j => !refNone (s.loopRef j 6) && refLocal (s.loopRef j 6) == refLocal o)).length)

/-- A pattern table breaks R285. -/
def State.patternFault (s : State) (p : Nat) : Bool :=
  let n := s.el (0x60300 + p) 0 0
  let v := s.el (0x60300 + p) 1 0
  let off (k : Nat) := v >>> (64 * k) % 2 ^ 32
  (upto n).any (fun k => 10000000 < off k || (k != 0 && off k ≤ off (k - 1)))

/-- MODE of a digital channel as its element holds it. -/
def State.elMode (s : State) (n : Nat) : Nat := field (s.el (0x60100 + n) 0 0) 2 0

/-- The station entries break R201 or R216. -/
def State.stationFault (s : State) : List Nat :=
  let recs := (upto 16).map (fun i => s.el (0x50030 + i) 0 0)
  let used := recs.filter (· != 0)
  (if s.role = 1 && (s.el 0x50001 1 0 == 0 || s.partner == s.modIndex || s.el 0x50001 3 0xFF == s.modIndex) then [0x50001] else [])
    ++ (if s.role = 0 && !s.heads.isEmpty && !s.red.keyHeld then [0x50001] else [])
    ++ (if s.role = 2 then (upto 16).filterMap (fun i =>
          let r := recs.getD i 0
          if r != 0 && 1 < (used.filter (· == r)).length then some (0x50030 + i) else none) else [])

/-- Entry numbers whose reference fails. -/
def State.refFaults (s : State) : List Nat :=
  s.stationFault
    ++ (upto 32).filterMap (fun n => if s.elMode n = 3 && s.elMode (if n % 2 = 0 then n + 1 else n - 1) != 3 then some (0x60100 + n) else none)
    ++ (upto 64).filterMap (fun p => if s.patternFault p then some (0x60300 + p) else none)
    ++ (upto 256).filterMap (fun g => if s.groupOn g && (s.groupPeriod g < 20000 || s.groupPeriod g ≤ s.groupPhase g) then some (0x30100 + g) else none)
    ++ s.slots.filterMap (fun i => if s.loopFault i then some (0x31000 + i) else none)
    ++ (upto 4).filterMap (fun c =>
        if field (s.el (0x90000 + c) 0 0) 1 0 != 0
            && !canTimingOk (s.el (0x90000 + c) 1 0) (s.el (0x90000 + c) 2 0) (s.el (0x90000 + c) 3 0) then some (0x90000 + c) else none)
    ++ (upto 4).flatMap (fun c => (s.objs c).filterMap (fun o => if s.objFault c o then some (0x91000 + 0x100 * c + o) else none))
    ++ s.heads.filterMap (fun h =>
        if (slotMap 257 (s.el (0xA0100 + h) 4 0)).any (fun e => 28 < e.2.1 + e.2.2.1 || 28 < e.2.2.2.1 + e.2.2.2.2)
            || s.ringNodes ≤ s.headPos h || (s.pairMember && 23 < s.heads.length) then some (0xA0100 + h) else none)
    ++ (match s.launchFault with | some o => [if o < 16 then 0x21000 + o else 0x30100 + (o - 16)] | none => [])

/-- The lowest of a list of numbers. -/
def lowest : List Nat → Option Nat
  | [] => none
  | x :: xs => some (xs.foldl min x)

/-! ## Points and writers -/

/-- Address of a local point (R10). -/
def State.pointAddr (s : State) (p : Nat) : Nat := s.modIndex % 64 * 524288 + p

/-- A point definition is good: type, writer kind and id, flags (Table 09-13). -/
def pointOk (m : PointMeta) : Bool :=
  m.vtype ≤ 6 && 1 ≤ m.kind && m.kind ≤ 10 && m.pflags < 8
    && (match m.kind with
      | 1 => m.writer < 32 || (0x100 ≤ m.writer && m.writer < 0x108) || (0x200 ≤ m.writer && m.writer < 0x208)
      | 2 => m.writer / 256 < 24
      | 3 => m.writer < 4096
      | 4 => m.writer < 16
      | 5 => m.writer < 256
      | 6 => m.writer == 0
      | 7 => m.writer < 512
      | 8 => m.writer < 64
      | 9 => m.writer % 256 < 12 && m.writer / 256 ≤ 3
      | _ => m.writer < 24)

/-- Who writes a point by the records that name it: point, kind, id. -/
def State.writerClaims (s : State) : List (Nat × Nat × Nat) :=
  s.slots.filterMap (fun i => let o := s.loopRef i 11; if refNone o then none else some (refLocal o, 3, i))
    ++ (upto 4).flatMap (fun c => (s.objs c).flatMap (fun o =>
        let st := s.objEl c o 12 0xFFFFFFFF
        (if st = 0xFFFFFFFF then [] else [(st, 7, c * 128 + o)])
          ++ (if s.objSend c o then [] else (s.rawFields c o).map (fun r => (refLocal (r % 2 ^ 32), 7, c * 128 + o)))))
    ++ (upto 8).flatMap (fun m => (upto (s.el (0x70700 + m) 1 0)).map (fun k =>
        (s.el (0x70700 + m) (3 + k) 0 / 2 ^ 32, 8, m * 8 + k)))

/-- The first point that two writers would have (R19). -/
def State.writerFault (s : State) (points : List (Nat × PointMeta)) : Option Nat :=
  let cs := s.writerClaims
  lowest (cs.filterMap (fun c =>
    let m := (points.find? (fun x => x.1 == c.1)).map (·.2)
    let clash := (match m with | some m => m.kind != c.2.1 || m.writer != c.2.2 | none => false)
      || cs.any (fun d => d.1 == c.1 && d != c)
    if clash then some c.1 else none))

/-- The second of two points that share a name hash (R262). -/
def hashFault : List (Nat × PointMeta) → Option Nat
  | [] => none
  | x :: xs =>
    if x.2.hash != 0 && xs.any (fun y => y.2.hash == x.2.hash) then (xs.find? (fun y => y.2.hash == x.2.hash)).map (·.1)
    else hashFault xs

/-! ## The whole check of a configuration (R54) -/

/-- The task table in force. -/
def State.taskTable (s : State) : List TaskRec := (upto 16).map s.taskRec

/-- The tables that a check can find at fault: a table that is all zero and that no loop names passes (R183). -/
def State.usedTables (s : State) : List Nat := (upto 512).filter (fun t => decide (s.ctable t ≠ {}) || !(s.tableLoops t).isEmpty)

/-- The first check of R54 that the configuration fails, ranges and references first. The figures of a refused admission go
into events 0x2109 and 0x3001. -/
def State.configFault (s : State) : Option Ans :=
  let points := s.sur.points
  match lowest s.rangeFaults with
  | some e => some (ansCheck 11 e)
  | none =>
  match lowest s.refFaults with
  | some e => some (ansCheck 11 e)
  | none =>
  match s.slots.flatMap (fun i => (upto 4).filterMap (fun k =>
      match s.loopCheck i (31 + k) (s.lN i (31 + k) 0) with | some a => if a.status = .checkFailed then some a else none | none => none)) with
  | a :: _ => some a
  | [] =>
  match s.usedTables.filterMap (fun t => (s.contourFault t (s.ctable t)).map (fun o => ansCheck 9 (t * 4096 + o))) with
  | a :: _ => some a
  | [] =>
  match s.tableFault s.taskTable (match s.tsk.active with | some p => p.outputs | none => []) with
  | some t => some (ansCheck 3 t)
  | none =>
  match points.find? (fun x => !pointOk x.2) with
  | some x => some (ansCheck 12 (s.pointAddr x.1))
  | none =>
  match hashFault points with
  | some p => some (ansCheck 10 (s.pointAddr p))
  | none =>
  match s.writerFault points with
  | some p => some (ansCheck 4 (s.pointAddr p))
  | none =>
  match s.taskAdmission s.taskTable s.tsk.active with
  | some x => some (ansCheck 5 x.1)
  | none =>
  match s.loopAdmission with
  | some x => some (ansCheck 6 x.1)
  | none => (s.copyAdmission s.taskTable s.tsk.active).map (ansCheck 7)

end Sys2Proof.Machine
end

