-- ==== Sys2Proof/Machine/ClaimOps.lean ====
section
/-!
DEFINITION. Claims: tags, what a module's own output stages accept, taking and losing duty (R203, R209 to R224, R465).
-/
namespace Sys2Proof.Machine

/-! ## Messages -/

/-- The tag of R209. -/
def claimTag (key station holder claim : Nat) (f : MTime) : Nat :=
  sipHash key (leBytes 2 station ++ leBytes 1 holder ++ leBytes 1 0 ++ leBytes 4 claim ++ leBytes 8 (i64 f))

/-- The destination number of a station member in the witness's messages: 16 + its index. -/
def toMember (idx : Nat) : Nat := 16 + idx

/-- Send claim traffic with the module's own key (Table 08-2): 0 ring, 1 partner, 2 witness, 3 own stages. After tamper the
signature unit makes no tag (R426). -/
def State.sendClaim (s : State) (dst kind holder claim : Nat) (f : MTime) (seq info : Nat) : State :=
  let tagged := kind == 1 || kind == 2
  let tag := if tagged then claimTag s.red.key s.station holder claim f else 0
  if tagged && s.mem.tamper then s else s.send (.claim dst kind s.station holder claim f seq tag info)

/-- The tag of received claim traffic is that of the module's key. -/
def State.tagOk (s : State) (m : ClaimMsg) : Bool := !s.mem.tamper && m.tag == claimTag s.red.key m.station m.holder m.claim m.f

/-- A holder the module's stages may obey (Table 08-3). -/
def State.mayHold (s : State) (idx : Nat) : Bool := idx == s.modIndex || (s.pairMember && idx == s.partner)

/-- Raise a bit of RED_PEND. -/
def State.redPend (s : State) (b : Nat) : State := { s with red := { s.red with pend := setBit s.red.pend b true } }

/-- The highest claim this member knows (R214). -/
def State.known (s : State) : Nat :=
  max (max s.red.highest s.red.cur.claim) (match s.red.next_ with | some c => c.claim | none => 0)

/-! ## Output stages -/

/-- Every stage takes up its drive anew: its claim or its watchdog has changed (R211, R212, R325). -/
def State.redrive (s : State) : State :=
  let s := s.each (upto 32) (fun s n => if s.dioIsOut n && s.dioBase n == n then s.settleReadback n else s)
  let s := s.each (upto 8) (fun s n => if bitOf (s.aoCfg n) 0 then s.driveAo n (s.aoCh n).iCmd else s)
  s.each (upto 4) State.drivePair

/-- The stages' watchdog is fed by the module's own renewal, or no longer (R211). -/
def State.setWatchdog (s : State) (w : Option Nat) : State :=
  let was := s.red.ownRenew.isSome
  let s : State := { s with red := { s.red with ownRenew := w } }
  if was = w.isSome then s else s.redrive

/-- A value staged for its instant goes to its channel; where the member drives nothing it stands there as preset (R212). -/
def State.applyStaged (s : State) (p : StagedPreset) : State :=
  match p.chan with
  | .ao n =>
    if p.ma then
      s.driveAo n (F32.widen (BitVec.ofNat 32 p.value))
    else s.releaseAo n (F32.widen (BitVec.ofNat 32 p.value))
  | ch => s.releaseChan ch p.value (F64.ofInt p.value)

/-- Apply what is due. -/
def State.applyPresets (s : State) : State :=
  let due := s.red.staged.filter (fun p => decide (p.release ≤ s.now))
  let s : State := { s with red := { s.red with staged := s.red.staged.filter (fun p => !decide (p.release ≤ s.now)) } }
  s.each due State.applyStaged

/-- The stages take a claim (Table 08-3). -/
def State.takeClaim (s : State) (c : StageClaim) : State :=
  let s := s.applyPresets
  let s : State := { s with red := { s.red with prev := s.red.cur, cur := c, next_ := none, lastChange := s.now } }
  let s := if c.holder = s.modIndex && s.red.prev.holder ≠ s.modIndex then s.safTakeover else s
  (s.redPend 0).setWatchdog (if c.holder = s.modIndex then some s.mer.raw else none)

/-- Reject what a stage received (Table 08-3): a claim with event 0x5008 (log entry 118). -/
def State.rejectClaim (s : State) (record : Bool) : State :=
  let s := s.redPend 2
  if record then s.evRep 0x5008 0 [] else s

/-- The own stages act on a RENEW or CLAIM (R210). A higher claim with F still to come waits for F. -/
def State.stageClaim (s : State) (m : ClaimMsg) : State :=
  if m.station != s.station || !s.tagOk m then
    ({ s with red := { s.red with rejTag := satInc 32 s.red.rejTag } } : State).rejectClaim true
  else if s.red.cur.claim < m.claim then
    if s.mayHold m.holder then
      let c : StageClaim := { claim := m.claim, holder := m.holder, f := if m.f = 0 then s.now else m.f }
      if m.f ≠ 0 && s.now < m.f then { s with red := { s.red with next_ := some c } } else s.takeClaim c
    else ({ s with red := { s.red with rejHolder := satInc 32 s.red.rejHolder } } : State).rejectClaim true
  else if m.claim = s.red.cur.claim then
    if m.holder = s.red.cur.holder then
      if m.holder = s.modIndex then s.setWatchdog (some s.mer.raw) else s
    else ({ s with red := { s.red with rejHolder := satInc 32 s.red.rejHolder } } : State).rejectClaim true
  else ({ s with red := { s.red with rejLower := satInc 32 s.red.rejLower } } : State).rejectClaim true

/-- The member's own renewal or CLAIM as its stages see it. -/
def State.ownClaimMsg (s : State) (kind claim : Nat) (f : MTime) : ClaimMsg :=
  { kind := kind, station := s.station, holder := s.modIndex, claim := claim, f := f, seq := s.red.seq,
    tag := claimTag s.red.key s.station s.modIndex claim f }

/-! ## Requests -/

/-- Send a REQUEST (R214) and keep it. -/
def State.sendRequest (s : State) (claim : Nat) (f : MTime) (ready : Bool) : State :=
  let s := s.sendClaim 2 5 s.modIndex claim f 0 ready.toNat
  { s with red := { s.red with request := some (claim, f, s.mer.raw) } }

/-- A member in STOP applies for a claim (R465). -/
def State.applyForClaim (s : State) : State :=
  let s : State := { s with mode := { s.mode with applying := true, autoWait := false } }
  s.sendRequest (s.known + 1) 0 true

/-- The application ends without a claim. -/
def State.endApplication (s : State) : State :=
  { s with mode := { s.mode with applying := false }, red := { s.red with request := none } }

/-- Enter STANDBY, not ready (R224). A resynchronisation is wanted unless the duty's container, where its heartbeats have
told it, is another (event 0x500D). A staged program becomes active where the module leaves STOP (R150). -/
def State.enterStandby (s : State) (cause : Nat) : State :=
  let s : State := { s with red := { s.red with holds := false, suspended := false, request := none, transfer := none } }
  let s := (s.closeFault 0 0x5004 0).abandon .standby
  let s := if s.mode.mode = .stop then s.activate else s
  let s := (s.enterOff .standby cause).notReady
  let own := (s.tsk.active.map (·.ident)).getD 0
  if (s.peer).container ≠ 0 && (s.peer).container ≠ own then s.ev 0x500D []
  else s

/-- A refusal or a higher claim ends the application of R465: STANDBY, not ready. -/
def State.applicationLost (s : State) (cause : Nat) : State := s.endApplication.enterStandby cause

/-! ## Taking duty (R221) -/

/-- The release instants of the ring owner's cycles from F until its own first release as duty. -/
def releasesFrom (first last period : Int) : Nat → List Int
  | 0 => []
  | n + 1 => if period ≤ 0 || last ≤ first then [] else first :: releasesFrom (first + period) last period n

/-- The ring repeat frames of step 3. -/
def State.repeatFrames (s : State) (f : MTime) : State :=
  s.each (s.tasks.filter (fun t => (s.taskRec t).ringOwner)) (fun s t =>
    let r := s.taskRec t
    let c1 := firstInstant r.phase (taskTNs r) f
    let r0 := firstInstant (r.phase + taskLNs r) (taskTNs r) f
    s.each (releasesFrom r0 (c1 + taskLNs r) (taskTNs r) 8) (fun s i => s.sendOutput t i true))

/-- The holder's part of a claim: CLAIM goes out, the stages take it, renewals start. -/
def State.holdClaim (s : State) (claim : Nat) (f : MTime) : State :=
  let s : State := { s with red := { s.red with
    holds := true, request := none, lapse := false, suspended := false, lastEcho := some s.mer.raw, lastAck := some s.mer.raw,
    highest := max s.red.highest claim, heldF := f } }
  let s := s.sendClaim 3 2 s.modIndex claim f 0 0
  let s := s.sendClaim 0 2 s.modIndex claim f 0 0
  let s := if s.pairMember then s.sendClaim 1 2 s.modIndex claim f 0 0 else s
  s.stageClaim (s.ownClaimMsg 2 claim f)

/-- Tasks and loops go on as duty from the shadow's state (steps 1, 2, 4 and 5). -/
def State.startDuty (s : State) : State :=
  let hold := s.mode.mode == .hold
  let s : State := { s with red := { s.red with copies := [] } }
  let s := s.each s.tasks (fun s t => s.updTask t (fun x =>
    { x with state := if hold then .frozen else .waiting, firstNext := false, first := false, latched := false, frozen := false, inset := [],
             consec := 0, heldAt := if hold then some x.c else none }))
  let s := s.clearGroups
  s.each s.slots (fun s i => s.updLoop i (fun x => { x with transfer := true }))

/-- Take duty by failover or transfer (R221): in the mode the duty last reported, with its event. -/
def State.takeDuty (s : State) (claim : Nat) (f : MTime) (transfer : Bool) : State :=
  let t0 := s.red.lastRenewM
  let m := match Mode.ofCode s.red.dutyMode with
    | some .run => Mode.run | some .hold => Mode.hold | some .safe => Mode.safe | _ => Mode.stop
  let s := s.abandon m
  let s : State := { s with red := { s.red with holds := true } }
  let s := s.setMode m 0
  let s := if transfer then s else s.holdClaim claim 0
  let s := s.startDuty.repeatFrames f
  let s := match m with
    | .stop => s.applyIdle
    | .safe => ({ s with mode := { s.mode with safeStored := true } } : State).applyIdle
    | _ => s
  let s : State := { s with red := { s.red with ready := false, transfer := none } }
  let s := if transfer then s.ev 0x5002 [claim, i64 f] else s.ev 0x5001 [claim, i64 t0]
  if s.red.swap = 2 || s.red.swap = 3 then
    ({ s with red := { s.red with swap := 0, newProgram := none, oldProgram := none } } : State).ev 0x500E [if transfer then 0 else 1]
  else { s with red := { s.red with swap := 0, newProgram := none } }

end Sys2Proof.Machine
end

