-- ==== Sys2Proof/Machine/Mirror.lean ====
section
/-!
DEFINITION. The registers that mirror configuration elements, and the Waypoint slots that follow them (R54, R113, R235, R436).
-/
namespace Sys2Proof.Machine

/-- Change the latency fields of Ethernet port `p`. -/
def MeridianPart.updPort (m : MeridianPart) (p : Nat) (f : PtpPort → PtpPort) : MeridianPart :=
  match p with
  | 0 => { m with p0 := f m.p0 } | 1 => { m with p1 := f m.p1 } | 2 => { m with p2 := f m.p2 } | _ => { m with p3 := f m.p3 }
def MeridianPart.port (m : MeridianPart) (p : Nat) : PtpPort :=
  match p with | 0 => m.p0 | 1 => m.p1 | 2 => m.p2 | _ => m.p3

/-- A current in mA, REAL32 bits, as whole µA. -/
def microAmps (v : Nat) : Nat := (clampI (F64.nearest (F64.mul (F32.widen (BitVec.ofNat 32 v)) (F64.ofInt 1000))) 0 65535).toNat

/-- Bring the register that mirrors element `n` of entry `e` to the element's value. -/
def State.mirror (s : State) (e n : Nat) : State :=
  let v := s.el e n (s.dflt e n)
  if e = 0x20002 then
    if n = 0 then { s with tri := { s.tri with skewK := v } } else { s with tri := { s.tri with ckint := v } }
  else if 0x40005 ≤ e && e ≤ 0x40007 then
    let i := toSigned 32 v
    { s with mer := s.mer.updPort n (fun p =>
        if e = 0x40005 then { p with inLat := i } else if e = 0x40006 then { p with egLat := i } else { p with asym := i }) }
  else if e = 0x40009 || e = 0x4000A then
    { s with mer := { s.mer with canLat := s.mer.canLat.set ((e - 0x40009) * 4 + n) (toSigned 32 v) } }
  else if 0x60100 ≤ e && e ≤ 0x6011F then
    let k := e - 0x60100
    if n = 0 then { s with dio := { s.dio with cfg := Table.set s.dio.cfg 0 k v } }
    else if n = 1 then { s with dio := { s.dio with deb := Table.set s.dio.deb 1 k v } }
    else if n = 2 then { s with dio := { s.dio with maxact := Table.set s.dio.maxact 0 k v } }
    else s
  else if 0x70100 ≤ e && e ≤ 0x70107 && n = 0 then { s with aio := { s.aio with aiCfg := Table.set s.aio.aiCfg 0 (e - 0x70100) v } }
  else if 0x70300 ≤ e && e ≤ 0x70307 then
    let k := e - 0x70300
    let old := Table.get s.aio.aoSafe 0 k
    if n = 0 then { s with aio := { s.aio with aoCfg := Table.set s.aio.aoCfg 0x1000 k v } }
    else if n = 5 then { s with aio := { s.aio with aoSafe := Table.set s.aio.aoSafe 0 k (setField old 15 0 (microAmps v)) } }
    else if n = 6 then { s with aio := { s.aio with aoSafe := Table.set s.aio.aoSafe 0 k (setField old 31 16 (microAmps v)) } }
    else s
  else if 0x90000 ≤ e && e ≤ 0x90003 then
    s.updCan (e - 0x90000) (fun c =>
      match n with
      | 0 => { c with ctrl := v } | 1 => { c with nbt := v } | 2 => { c with dbt := v } | 3 => { c with tdc := v } | _ => c)
  else if 0x90200 ≤ e && e ≤ 0x90203 && n < 32 then s.updCan (e - 0x90200) (fun c => { c with flt := Table.set c.flt 0 n v })
  else if e = 0xC0001 then
    if n = 0 then { s with crt := { s.crt with extCfg := v } } else { s with crt := { s.crt with lp := v != 0 } }
  else if e = 0xD0000 then
    if n = 5 then { s with clk := { s.clk with ctrl := setField s.clk.ctrl 3 2 v } }
    else { s with clk := { s.clk with ctrl := setField s.clk.ctrl 6 4 v } }
  else if e = 0xD0201 then { s with pwr := { s.pwr with code := v } }
  else s

/-- Arm every firmware slot from the task and loop-group records (R113, R123, R155). -/
def State.armAll (s : State) : State :=
  let s := s.each (upto 16) State.armTask
  s.each (upto 256) (fun s g => s.armGroup g (ticksNs (s.groupPeriod g)) (ticksNs (s.groupPhase g)))

/-- The mirroring registers at their reset values; latencies keep their trims. -/
def State.unmirror (s : State) : State :=
  let c (x : CanCtrl) : CanCtrl := { x with ctrl := 0, nbt := 0, dbt := 0, tdc := 0, flt := [] }
  { s with
    tri := { s.tri with skewK := 200, ckint := 65536 },
    dio := { s.dio with cfg := [], deb := [], maxact := [] },
    aio := { s.aio with aiCfg := [], aoCfg := [], aoSafe := [] },
    can := { s.can with c0 := c s.can.c0, c1 := c s.can.c1, c2 := c s.can.c2, c3 := c s.can.c3 },
    crt := { s.crt with extCfg := 0, lp := false },
    clk := { s.clk with ctrl := setField s.clk.ctrl 6 2 0 },
    pwr := { s.pwr with code := 5 } }

/-- Every mirroring register takes the value of its element, and the slots are armed. -/
def State.mirrorAll (s : State) : State :=
  (s.unmirror.each s.elems (fun s x => s.mirror (x.1 / 256) (x.1 % 256))).armAll

end Sys2Proof.Machine
end

