-- ==== Sys2Proof/Machine/Tokens.lean ====
section
/-!
DEFINITION. Custodian tokens and key slots (R237, R240).
-/
namespace Sys2Proof.Machine

/-- ASCII bytes. -/
def ascii (s : String) : List Byte := s.toList.map (fun c => BitVec.ofNat 8 c.toNat)

/-- The 64-bit fused identity, as messages carry it (R238). -/
def State.identBytes (s : State) : List Byte := leBytes 8 s.sys.ident

def State.session (s : State) (i : Nat) : Session := Table.get s.leg.sessions {} i
def State.updSession (s : State) (i : Nat) (f : Session → Session) : State :=
  { s with leg := { s.leg with sessions := Table.upd s.leg.sessions {} i f } }
def State.keySlot (s : State) (k : Nat) : KeySlot := Table.get s.leg.keys {} k

/-- The message a token signs (R240). -/
def State.tokenMsg (s : State) (nonce : List Byte) (k : Nat) (payload : List Byte) : List Byte :=
  ascii "OPSTOKN1" ++ s.identBytes ++ nonce ++ leBytes 1 k ++ sha256 payload

/-- A nonce still valid: 120 s (R240). -/
def State.nonceLive (s : State) (n : Nonce) : Bool := !s.elapsed n.at_ (ticksMs 120000)

/-- Try the outstanding nonces, newest first: the one the token matches. -/
def State.tokenNonce (s : State) (l : List Nonce) (payload token : List Byte) : Option Nonce :=
  l.find? (fun n => let k := s.keySlot n.key
    !s.mem.tamper && k.level == 3 && edVerify k.pub (s.tokenMsg n.bytes n.key payload) token)

/-- Check a token (R240): the key slot that signed it, or the TOKEN detail; and the state with its nonce consumed, or with
event 0xA803 of the refusal. -/
def State.takeToken (s : State) (who : Who) : Except Nat Nat × State :=
  let sess := s.session who.session.val
  let live := sess.nonces.filter s.nonceLive
  let refuse (d : Nat) : Except Nat Nat × State :=
    (.error d, ({ s with leg := { s.leg with tokenRefused := satInc 32 s.leg.tokenRefused } } : State).evRep 0xA803 0x0601 [sess.id, d])
  match s.leg.grant, who.token with
  | some k, _ => (.ok k, s)
  | none, none => refuse 1
  | none, some t =>
    if live.isEmpty then refuse 3
    else match s.tokenNonce live who.payload t with
      | some n => (.ok n.key, s.updSession who.session.val (fun x => { x with nonces := x.nonces.filter (· != n) }))
      | none => refuse (if live.all (fun n => (s.keySlot n.key).level != 3) then 4 else 2)

/-- TOKEN with its detail. -/
def ansToken (d : Nat) : Ans := { status := .token, detail := d }

/-- Do an effect that a token authorises, if one is called for; every accepted Custodian request is recorded (event 0xA804). -/
def State.withToken (s : State) (who : Who) (needed : Bool) (elem : Nat) (f : State → Ans × State) : Ans × State :=
  if !needed then f s
  else match s.takeToken who with
    | (.error d, s) => (ansToken d, s)
    | (.ok _, s) => f (if s.leg.grant.isSome then s else s.ev 0xA804 [eaWord elem])

/-- A key of at least a level is enrolled (R237). -/
def State.hasKey (s : State) (p : Nat → Bool) : Bool := s.leg.keys.any (fun k => p k.2.level)

end Sys2Proof.Machine
end

