-- ==== Sys2Proof/Machine/RecOps.lean ====
section
/-!
DEFINITION. The recorder: writing the next staged event, merging repeats, flushing, clearing (R384 to R394).
-/
namespace Sys2Proof.Machine

/-- Slots of the recorder (R384). -/
def evrSlots : Nat := 524288
/-- Keys of the merge table (R390). -/
def mergeKeys : Nat := 1024

/-- The record of a slot as the recorder holds it, merges not yet written to MRAM included. -/
def RecorderPart.current (r : RecorderPart) (slot : Nat) : Rec := Table.get r.unflushed (Table.get r.recs {} slot) slot

/-- Write a record into its slot in MRAM: UPD advances by 2 from the slot's value (R391). -/
def RecorderPart.put (r : RecorderPart) (slot : Nat) (x : Rec) : RecorderPart :=
  { r with recs := Table.set r.recs {} slot { x with upd := ((Table.get r.recs {} slot).upd + 2) % 2 ^ 32 },
           unflushed := Table.erase r.unflushed slot }

/-- The key of an offer in the merge table. -/
def Offer.key (o : Offer) : Nat × Nat × List Nat := (o.src, o.code, o.args)

/-- The record that a repeat merges into (R390). -/
def RecorderPart.mergeInto (r : RecorderPart) (o : Offer) : Option Rec :=
  if !o.rep || o.ext != 0 then none else
  match r.merge.find? (fun m => (m.1, m.2.1, m.2.2.1) == o.key) with
  | none => none
  | some m =>
    let x := r.current (m.2.2.2 % evrSlots)
    if x.seq = m.2.2.2 && r.epochSeq ≤ x.seq && x.pcyc == o.pcyc && x.ext == 0 then some x else none

/-- A record after a merge (R390). -/
def Rec.merged (x : Rec) (o : Offer) : Rec :=
  { x with repeats := satInc 32 x.repeats, sat := x.sat || x.repeats + 1 ≥ 2 ^ 32, mtLast := o.mt, mqLast := o.mq,
           optLast := min (o.optime - x.optime) (2 ^ 32 - 1) }

/-- Move or put a key at the front of the merge table. -/
def RecorderPart.touch (r : RecorderPart) (o : Offer) (seq : Nat) : RecorderPart :=
  { r with merge := ((o.src, o.code, o.args, seq) :: r.merge.filter (fun m => (m.1, m.2.1, m.2.2.1) != o.key)).take mergeKeys }

/-- The record of an offer under a sequence number. -/
def Offer.record (o : Offer) (seq : Nat) : Rec :=
  { seq := seq, code := o.code, src := o.src, rung := o.rung, ext := o.ext, epoch := o.epoch, mqFirst := o.mq, mqLast := o.mqLast,
    optime := o.optime, mtFirst := o.mt, mtLast := o.mtLast, pcyc := o.pcyc, args := o.args }

/-- Put a new record and its extension records in the next sequence numbers (R389). -/
def RecorderPart.newRec (r : RecorderPart) (o : Offer) : RecorderPart :=
  let q := r.next
  let r := r.put (q % evrSlots) (o.record q)
  let r := (List.range o.ext).foldl (fun r k =>
    r.put ((q + k + 1) % evrSlots) { seq := q + k + 1, code := 0xB0FF, part := k + 1, args := o.args }) r
  let r := { r with next := q + 1 + o.ext }
  let r := if o.ext = 0 then r.touch o q else r
  let r := r.raise 0
  if o.rung = 0 then r else r.raise 1

/-- Write one offer: merged, or as a new record. The fault it belongs to learns the number of its record (R50). -/
def State.writeOffer (s : State) (o : Offer) : State :=
  match s.evr.mergeInto o with
  | some x =>
    let r := { s.evr with unflushed := Table.put s.evr.unflushed (x.seq % evrSlots) (x.merged o) }.touch o x.seq
    { s with evr := r, mode := { s.mode with faults := noteSeq o x.seq s.mode.faults } }
  | none =>
    { s with evr := s.evr.newRec o, mode := { s.mode with faults := noteSeq o s.evr.next s.mode.faults } }

/-- After drops, the first entry freed takes the record 0xB001 (R385). -/
def State.afterDrops (s : State) : State :=
  if s.evr.dropRun = 0 then s
  else { s with evr := { s.evr with staged := s.evr.staged ++ [dropOffer s], dropRun := 0 } }

/-- Write the oldest staged event (R385, R387). -/
def State.writeStaged (s : State) : State :=
  match s.evr.staged with
  | [] => s
  | o :: rest => (({ s with evr := { s.evr with staged := rest } } : State).afterDrops).writeOffer o

/-- Write merged records to MRAM (R390). -/
def State.flushMerges (s : State) : State :=
  { s with evr := { s.evr.unflushed.foldl (fun r x => r.put x.1 x.2) s.evr with flushAt := s.mer.raw } }

/-- Write every staged event, as many as there are and one for a run of drops, and every outstanding merge (R386). -/
def State.flushRecorder (s : State) : State :=
  let n := s.evr.staged.length + 1
  ((List.range n).foldl (fun s _ => s.writeStaged) s).flushMerges

/-- The clear of R394, authorised by the key of slot `k`, in the order of its steps. -/
def State.clearRecorder (s : State) (k : Nat) : State :=
  let prev := s.evr.epochSeq
  let s : State := { s with evr := { s.evr with epochSeq := s.evr.next, epoch := (s.evr.epoch + 1) % 2 ^ 32, merge := [], unflushed := [] } }
  let s := s.writeOffer { s.stamp 0xB002 k 0 [prev] with epoch := true }
  let s := (List.range (s.evr.staged.length + 1)).foldl (fun s _ => s.writeStaged) s
  let s := s.writeOffer (s.stamp 0xA804 0 0 [eaWord (ea 0xB0001 0)])
  { s with evr := { s.evr with merge := [], wipeLeft := (s.evr.recs.filter (fun x => x.2.seq < s.evr.epochSeq)).length } }

/-- The slots of records before the epoch are zeroed. -/
def State.zeroOld (s : State) : State :=
  { s with evr := { s.evr with recs := s.evr.recs.filter (fun x => decide (s.evr.epochSeq ≤ x.2.seq)), wipeLeft := 0 } }

/-- The oldest readable record (R391). -/
def RecorderPart.oldest (r : RecorderPart) : Nat := max (max r.epochSeq (r.next - evrSlots)) 1

/-! ## The bytes of a record (R387, R389) -/

/-- DATA of an event: where the specification lays it out, its bytes; otherwise those of `Config.eventData`. -/
def eventBytes (code : Nat) (args : List Nat) : List Byte :=
  match code with
  | 0xB001 => leBytes 4 (args.getD 0 0)
  | 0xB002 => leBytes 8 (args.getD 0 0)
  | 0x6003 => leBytes 1 (args.getD 0 0) ++ leBytes 4 (args.getD 1 0)
  | _ => Config.eventData code args

/-- Bytes `a` to `a + n − 1` of a list, zero beyond its end. -/
def slice (l : List Byte) (a n : Nat) : List Byte := (List.range n).map (fun i => l.getD (a + i) 0)

/-- FLAGS of a record (Table 15-2). -/
def Rec.flagByte (x : Rec) : Nat := x.ext % 4 + bitAt x.epoch 2 + bitAt x.torn 3 + bitAt x.sat 4

/-- The 64 bytes of a record; `parent` is the code of the event for an extension record. -/
def Rec.bytes (x : Rec) (parent : Nat) : List Byte :=
  if x.part = 0 then
    leBytes 8 x.seq ++ leBytes 2 x.code ++ leBytes 2 x.src ++ leBytes 1 x.rung ++ leBytes 1 x.flagByte ++ leBytes 1 x.mqFirst
      ++ leBytes 1 x.mqLast ++ leBytes 8 x.optime ++ leBytes 8 (i64 x.mtFirst) ++ leBytes 8 (i64 x.mtLast) ++ leBytes 4 x.pcyc
      ++ leBytes 4 x.optLast ++ slice (eventBytes x.code x.args) 0 8 ++ leBytes 4 x.repeats ++ leBytes 4 x.upd
  else
    leBytes 8 x.seq ++ leBytes 2 0xB0FF ++ leBytes 2 x.part ++ slice (eventBytes parent x.args) (8 + 48 * (x.part - 1)) 48 ++ leBytes 4 x.upd

/-- The 64 bytes of a slot as a reader of R393 sees them: zeros for a record before EPOCH_SEQ. -/
def State.slotBytes (s : State) (slot : Nat) : List Byte :=
  let x := Table.get s.evr.recs {} slot
  if x.seq < s.evr.epochSeq then List.replicate 64 0
  else x.bytes (if x.part = 0 then x.code else (Table.get s.evr.recs {} ((x.seq - x.part) % evrSlots)).code)

end Sys2Proof.Machine
end

