-- ==== Sys2Proof/Machine/Recorder.lean ====
section
/-!
DEFINITION. The meanings of the recorder's commands (chapter 15).
-/
namespace Sys2Proof.Machine

/-- The recorder runs: firmware has started it (step 5 of Table 02-5), and the supply holds (R385, R386). -/
def State.recording (s : State) : Bool :=
  s.evr.ready && (match s.mode.phase with | .boot | .up | .pfail => true | _ => false)

/-- EVENT_OFFER: a source offers an event, FIRST or REPEAT (R385, R388). -/
def execEventOffer (o : Offering) (s : State) : Res :=
  .next (if s.recording then
    let x := { s.stamp o.code o.src o.rung o.args with rep := o.rep }
    s.offer (match o.instant with | some t => { x with mt := t, mtLast := t } | none => x)
  else s)

/-- EVENT_RECORD_WRITE: the recorder writes the next staged event (R387, R390). -/
def execEventRecordWrite (s : State) : Res := .next (if s.recording then s.writeStaged else s)

/-- MERGE_FLUSH: merged records are written to MRAM, at most once in 10 ms (R390). -/
def execMergeFlush (s : State) : Res :=
  .next (if s.recording && s.elapsed s.evr.flushAt (ticksMs 10) then s.flushMerges else s)

/-- RECORDER_CLEAR: Legend 0xB0001, with a Custodian token (R394). -/
def execRecorderClear (who : Who) (s : State) : Res :=
  whenUp s (fun s =>
    if s.mode.lifeCycle = .retired then s.refuseState
    else match s.takeToken who with
      | (.error d, s) => s.give (ansToken d)
      | (.ok k, s) => (s.clearRecorder k).okAns)

/-- RECORDER_ZEROING_DONE: the slots of records before the epoch are zero (R394). -/
def execRecorderZeroingDone (s : State) : Res := .next (if s.recording then s.zeroOld else s)

end Sys2Proof.Machine
end

