-- ==== Sys2Proof/Machine/ResetOps.lean ====
section
/-!
DEFINITION. Reset, start-up and restore (R39 to R43, R112, R391, R419, R424, R426).
-/
namespace Sys2Proof.Machine

/-! ## What a reset loses (Table 02-8) -/

/-- Memory after a reset: SRAM is zeroed, DRAM is lost, MRAM keeps its contents. -/
def afterReset (m : Memory) : Memory := (m.wipe 0 0x60000000).wipe 0x64000000 0x200000000

/-- Output channels while the SoC is in reset (R43): safe states, paralleled channels off. -/
def State.resetDio (s : State) (n : Nat) : DioChan :=
  let on := s.dioIsOut n && !s.paralleled (.dio n) && bitOf (s.dioCfg n) 12
  { raw := (s.dioCh n).raw, cmd := on, rb := on }
def State.resetAo (s : State) (n : Nat) : AoChan :=
  let i : F64 := if bitOf (s.aoCfg n) 0 && !s.paralleled (.ao n) then (s.aoIdle .safe n).getD (s.aoCh n).iCmd else 0
  { iCmd := i, resp := i, dac := s.dacCode n i, highZ := s.paralleled (.ao n), v := (s.aoCh n).v }

/-- A port after a reset: its latencies stand. -/
def PtpPort.afterReset (p : PtpPort) : PtpPort := { inLat := p.inLat, egLat := p.egLat, asym := p.asym }

/-- A queue after a reset: its configuration stands. -/
def HwQueue.afterReset (q : HwQueue) : HwQueue := { cls := q.cls, depth := q.depth, credit := q.credit }

/-- Everything a reset of either kind loses is gone; what Table 02-8 lets survive stands. -/
def State.lost (s : State) : State :=
  let s := s.clearInsts
  let vals := match s.tsk.active with
    | some p => p.singles.foldl (fun t d => if d.retentive then t else Table.put t d.ea d.init) s.tsk.values
    | none => []
  let consts := match s.tsk.active with | some p => initConsts p | none => []
  let keep (e : Nat) : Bool := !outsideConfig (e / 256) && !(decide (ea 0xA8300 0 ≤ e) && decide (e < ea 0xA8400 0))
    && (Table.find s.mode.cfgElems e).isNone
  { s with
    mode := { s.mode with
      trans := none, applying := false, autoWait := false, holdSince := 0, faults := [], retries := [], pcrqAt := none,
      reinitResult := 0, installResult := 0, cfgElems := [] },
    evr := { s.evr with
      staged := [], dropped := 0, dropRun := 0, merge := [], unflushed := [], flushAt := 0, ready := false, flushing := false, ctrl := 0,
      pend := 0 },
    sys := { ident := s.sys.ident, build := s.sys.build, fw := s.sys.fw, asset := s.sys.asset, assetWritten := s.sys.assetWritten },
    tri := {},
    mer := { p0 := s.mer.p0.afterReset, p1 := s.mer.p1.afterReset, p2 := s.mer.p2.afterReset, p3 := s.mer.p3.afterReset,
             canLat := s.mer.canLat, opMs := s.mer.opSecs * 1000, opSecs := s.mer.opSecs, pcyc := s.mer.pcyc },
    wpt := {},
    tsk := { active := s.tsk.active, staged := s.tsk.staged, insts := s.tsk.insts, values := vals, consts := consts },
    ring := {},
    cen := { tables := s.cen.tables, admitted := s.cen.admitted, rate := s.cen.rate, hyper := s.cen.hyper },
    red := { key := s.red.key, keyHeld := s.red.keyHeld, copyAdmitted := s.red.copyAdmitted },
    wit := { stations := s.wit.stations.map (fun x => (x.1, { e := x.2.e, holder := x.2.holder })), keys := s.wit.keys },
    net := { mac := s.net.mac },
    leg := { keys := s.leg.keys, clusterKey := s.leg.clusterKey, queues := s.leg.queues.map (fun x => (x.1, x.2.afterReset)) },
    sur := { points := s.sur.points, cmdPts := s.sur.cmdPts, forceCount := if s.forces.isEmpty then s.sur.forceCount else s.forces.length },
    dio := { chans := (upto 32).foldl (fun t n => Table.set t {} n (s.resetDio n)) [],
             groups := s.dio.groups.map (fun x => (x.1, { mv := x.2.mv, low := x.2.low, missing := x.2.missing })) },
    aio := { ao := (upto 8).foldl (fun t n => Table.set t {} n (s.resetAo n)) [], z := s.aio.z, k := s.aio.k },
    saf := { set := s.saf.set, crc := s.saf.crc, activated := s.saf.activated, chCfg := s.saf.chCfg,
             chans := s.saf.chans.map (fun x => (x.1, { raw := x.2.raw })) },
    can := {},
    crt := { s.crt with keys := [], late := [], lastFp := none, update := s.crt.update.map (fun u => { u with at_ := 0 }), ie := 0, pend := 0, page := 0, scroll := 0, full := false,
                        fp := { s.crt.fp with held := false }, ext := { s.crt.ext with held := false } },
    clk := { fastRc := s.clk.fastRc, slowRc := s.clk.slowRc, xa := s.clk.xa, xb := s.clk.xb, clkin := s.clk.clkin,
             trimCode := s.clk.trimCode, aRef := s.clk.aRef },
    mem := { data := afterReset s.mem.data, bist := s.mem.bist, bistPassed := s.mem.bistPassed, spares := s.mem.spares },
    pwr := { s.pwr with pcrq := false, pcrqUntil := 0, code := 5, ctrl := 0, pend := 0, pfail := false },
    elems := s.elems.filter (fun x => keep x.1) }

/-! ## Start-up steps 3 to 6 -/

/-- The module holds itself in reset with FAULT asserted (R41, Table 17-4). -/
def State.holdReset (s : State) : State :=
  { s with mode := { s.mode with phase := .held }, pwr := { s.pwr with fault := true } }

/-- Fuse load: identity, build, plant MAC, trims. -/
def State.fuseLoad (s : State) (f : Fuses) : State :=
  let port (k : Nat) (p : PtpPort) : PtpPort := { p with inLat := f.inLat.getD k 0, egLat := f.egLat.getD k 0 }
  { s with
    sys := { s.sys with ident := f.ident, build := f.build % 256 + bitAt f.coated 8 },
    net := { s.net with mac := f.mac },
    clk := { s.clk with trimCode := f.rcTrim },
    mer := { s.mer with
      p0 := port 0 s.mer.p0, p1 := port 1 s.mer.p1, p2 := port 2 s.mer.p2, p3 := port 3 s.mer.p3,
      canLat := (upto 4).map (fun c => f.canRx.getD c 0) ++ (upto 4).map (fun c => f.canTx.getD c 0) } }

/-- Spares assigned at BIST: those the failing columns need, of the 4 less the fused ones (R424). -/
def spareNeed (b : BistFind) : Nat := min b.failing (4 - b.fused)
/-- The bank needs more than its 4 spares. -/
def beyondRepair (b : BistFind) : Bool := decide (4 < b.fused + b.failing)

/-- BIST of every bank (R424): the results stand in MEM_BISTb; each spare assigned is recorded. -/
def State.runBist (s : State) (l : List BistFind) : State :=
  let res := (upto 49).foldl (fun t b =>
    let f := (l.find? (fun x => x.bank.val == b)).getD { bank := 0 }
    Table.set t 0 b (f.fused % 8 + 8 * spareNeed f + (if beyondRepair f then 0 else 64))) []
  let s : State := { s with mem := { s.mem with
    bist := res, bistPassed := !l.any beyondRepair, spares := l.any (fun b => spareNeed b != 0) } }
  s.each l (fun s b => s.each (upto (spareNeed b)) (fun s _ => s.ev 0xD011 [b.bank.val]))

/-- Try a slot: an image that passes its check, or event 0x100F (R41). -/
def State.slotGood (s : State) (k : Nat) : Bool := if k = 0 then s.mode.slotA.valid else s.mode.slotB.valid
def State.slotVersion (s : State) (k : Nat) : Nat := if k = 0 then s.mode.slotA.version else s.mode.slotB.version

/-- The active slot, then the other, then the recovery image (R41). -/
def State.loadFirmware (s : State) : State :=
  let k := s.mode.slotSel
  let run (s : State) (k : Nat) : State :=
    { s with mode := { s.mode with image := k }, sys := { s.sys with fw := s.slotVersion k } }
  if s.slotGood k then run s k
  else
    let s := s.ev 0x100F [k]
    if s.slotGood (1 - k) then run s (1 - k)
    else
      let s := s.ev 0x100F [1 - k]
      ({ s with mode := { s.mode with image := 2 } } : State).ev 0x1010 []

/-- A source that has left its start-up window in tolerance, or one that shows no edge and stays in it (R418). -/
def Source17.settled (x : Source17) (run : Bool) : Source17 := { x with running := run, ok := run, failed := false, window := !run }

/-- Step 6: loop A locks to XA, or to XB; with neither the root stays on loop B. The raw counter starts from zero (R91). -/
def State.startRoot (s : State) : State :=
  let c := s.clk
  let root := if c.xa.ok then 0 else if c.xb.ok then 1 else 2
  { s with
    clk := { c with root := root, aLock := root ≠ 2, bLock := true, aRef := if root = 1 then 1 else 0 },
    mer := { s.mer with running := true, raw := 0, offset := 0, rho := 0, state := .free } }

/-- Steps 3 to 6 after the losses of a reset: firmware runs, the recorder starts, the counter starts. -/
def State.bootSteps (s : State) : State :=
  let s : State := { s with mode := { s.mode with phase := .boot } }
  let s := s.loadFirmware
  let s : State := { s with evr := { s.evr with ready := true }, mem := { s.mem with secureReady := true } }
  s.startRoot

/-- Reset: outputs to their reset states, everything volatile lost, then start-up from step 3 (R43). The durations of
steps 3 to 6 are values the specification does not give. -/
def State.warmStart (s : State) : State :=
  let s := (s.stopRenewals.flushRecorder).lost
  let s : State := { s with mode := { s.mode with warmCount := satInc 32 s.mode.warmCount } }
  let s := s.bootSteps
  let d := (upto 4).map (fun k => (Config.random (s.freeCtr + k)).toNat % 2 ^ 32)
  { s with freeCtr := s.freeCtr + 4, mode := { s.mode with durations := s.mode.durations.take 2 ++ d } }

/-! ## Mode restore -/

/-- The repair of a record left half-written (R392). -/
def State.repairTorn (s : State) (slot : Nat) : State :=
  let x := Table.get s.evr.recs {} slot
  let s : State := { s with evr := { s.evr with recs := Table.set s.evr.recs {} slot { x with torn := true, upd := (x.upd + 1) / 2 * 2 % 2 ^ 32 } } }
  s.ev 0xB003 [x.seq]

/-- A configuration that fails its check at restore is treated as absent (R41): nothing of it is in force. -/
def State.withoutConfig (s : State) : State :=
  { s with
    elems := [],
    mode := { s.mode with cfgHeld := false, cfgId := 0, modIndex := 0xFF },
    cen := { s.cen with tables := [], admitted := false, rate := 0, hyper := 0 },
    sur := { s.sur with points := [], cmdPts := [], image := [] },
    leg := { s.leg with queues := [] } }

/-- The field dies and their links come up. -/
def State.linksUp (s : State) : State :=
  let s := s.each (upto 4) (fun s g => s.updGrp g (fun x => { x with link := true }))
  { s with dio := { s.dio with ready := true }, aio := { s.aio with ready := true, link := true },
           saf := { s.saf with link := true, lastCheck := s.mer.raw, frameAt := 0 } }

/-- Meridian is synchronised (R103): LOCKED, or HOLDOVER within the limit of Legend 0x40004.1. -/
def State.synced (s : State) : Bool :=
  match s.mer.state with
  | .locked => true
  | .holdover => !s.elapsed s.mer.holdSince (s.el 0x40004 1 60 * 400000000)
  | _ => false

/-- The condition of Legend 0x10002.1. -/
def State.syncCondition (s : State) : Bool := s.el 0x10002 1 s.pairMember.toNat == 0 || s.synced

/-- A kept cause that its own chapter has still to clear stands again after a reset (R39): an EXTERNAL-DRIVE on a pair
remains until its detection finds it gone. -/
def State.keepCauses (s : State) : State :=
  s.each (s.mode.kept.filter (fun c => c.code == 0x8033)) (fun s c => s.updSafPair c.obj (fun x => { x with extDrive := true }))

/-- Enter SAFE because the stored SAFE state stands (R42, R54). -/
def State.restoreSafe (s : State) : State :=
  let code := (s.mode.kept.head?.map (·.code)).getD 0
  (((s.setMode .safe code).ev 0x1008 [code]).keepCauses).applyIdle

/-- Enter STOP from BLANK, SERVICE or a restore: a cause that is present enters SAFE at that moment (R38). -/
def State.enterStop (s : State) : State :=
  let s := (s.setMode .stop 0).applyIdle
  s.each s.presentCauses (fun s c => s.enterSafe c.1 c.2.1 c.2.2)

end Sys2Proof.Machine
end

