-- ==== Sys2Proof/Machine/ModeReq.lean ====
section
/-!
DEFINITION. Mode requests and the answers they get (R35 to R39, R42, R465).
-/
namespace Sys2Proof.Machine

/-- What a request does, and what it answers. -/
abbrev Act := Ans × State

/-- Refuse a transition (R35, R37): STATE-REFUSED, and event 0x1002 with the requested mode and the cause. -/
def State.refuseMode (s : State) (m : Mode) (cause : Nat) : Act :=
  ({ status := .stateRefused, detail := s.stateDetail }, s.evRep 0x1002 0 [m.code, cause])

/-- A request is accepted: its mode is kept in MRAM (R42), and an autostart wait ends. -/
def State.acceptMode (s : State) (m : Mode) : State :=
  { s with mode := { s.mode with lastReq := m.code, autoWait := false } }

/-- Do an accepted transition at a privilege (Table 02-3). -/
def State.modeAct (s : State) (who : Who) (priv : Nat) (m : Mode) (f : State → State) : Act :=
  if who.level.val < priv then ({ status := .privilege, detail := priv }, s) else (ansOk, f (s.acceptMode m))

/-- The recovery image offers firmware installation only (R41). -/
def State.recovery (s : State) : Bool := decide (s.mode.image = 2)

/-- Role is witness. -/
def State.isWitness (s : State) : Bool := s.role == 2

/-- To BLANK: from STOP and WITNESS with erasure (R464), from SERVICE where no configuration is held. -/
def State.reqBlank (s : State) (who : Who) : Act :=
  let erase (s : State) : Act :=
    if who.level.val < engineer then ({ status := .privilege, detail := engineer }, s)
    else s.withToken who s.sealed_ (ea 0x10001 0) (fun s => (ansOk, ((s.acceptMode .blank).eraseConfig).enterOff .blank 0))
  match s.mode.mode with
  | .stop | .witness => erase s
  | .service => if s.mode.cfgHeld then s.refuseMode .blank 0 else s.modeAct who engineer .blank (fun s => s.clearForces.enterOff .blank 0)
  | _ => s.refuseMode .blank 0

/-- The instant of SAFE to STOP: the next 1 ms boundary of Meridian time (R36). -/
def nextMs (t : MTime) : MTime := t - t % 1000000 + 1000000

/-- Acknowledge SAFE (R39): refused with the first remaining cause; otherwise STOP from acceptance, its effect at the next
millisecond. -/
def State.acknowledge (s : State) (who : Who) : Act :=
  if who.level.val < engineer then ({ status := .privilege, detail := engineer }, s)
  else match s.firstCause with
    | some c => s.refuseMode .stop c
    | none =>
      let s := (s.acceptMode .stop).ev 0x1009 []
      let s : State := { s with mode := { s.mode with safeStored := false, kept := [] } }
      let s := s.setMode .stop 0
      (ansOk, { s with mode := { s.mode with trans := some { frm := .safe, dest := .stop, until_ := some (nextMs s.now) } } })

/-- Leave STANDBY for STOP: the module leaves shadow and is not ready (Table 02-3). -/
def State.leaveShadow (s : State) : State := (s.enterOff .stop 0).notReady

/-- To STOP. -/
def State.reqStop (s : State) (who : Who) : Act :=
  match s.mode.mode with
  | .stop =>
    if s.mode.applying then s.modeAct who operator .stop State.endApplication else s.refuseMode .stop 0
  | .run => s.modeAct who operator .stop (fun s => (s.setMode .stop 0).stopRun .run)
  | .hold => s.modeAct who operator .stop (fun s => (s.setMode .stop 0).stopRun .hold)
  | .standby => s.modeAct who engineer .stop State.leaveShadow
  | .safe => s.acknowledge who
  | .service =>
    if s.mode.cfgHeld && !s.isWitness then s.modeAct who engineer .stop State.enterStop else s.refuseMode .stop 0
  | _ => s.refuseMode .stop 0

/-- STOP to RUN: a module that holds its claim starts; another member applies for one (R465). -/
def State.runOrApply (s : State) : State :=
  if s.ownsClaim then (s.setMode .run 0).startRun else s.applyForClaim

/-- To RUN: from STOP, or resume from HOLD. -/
def State.reqRun (s : State) (who : Who) : Act :=
  match s.mode.mode with
  | .stop => if s.syncCondition then s.modeAct who operator .run State.runOrApply else s.refuseMode .run 0
  | .hold => s.modeAct who engineer .run (fun s => (s.setMode .run 0).resumeRun)
  | _ => s.refuseMode .run 0

/-- HOLD is permitted (R33). -/
def State.holdPermitted (s : State) : Bool := s.elB 0x10002 2 false

/-- To HOLD. -/
def State.reqHold (s : State) (who : Who) : Act :=
  match s.mode.mode with
  | .run => if s.holdPermitted then s.modeAct who engineer .hold (fun s => (s.setMode .hold 0).holdRun none) else s.refuseMode .hold 0
  | _ => s.refuseMode .hold 0

/-- To SERVICE. -/
def State.reqService (s : State) (who : Who) : Act :=
  match s.mode.mode with
  | .blank | .stop | .safe | .witness => s.modeAct who engineer .service (fun s => s.enterOff .service 0)
  | _ => s.refuseMode .service 0

/-- To WITNESS. -/
def State.enterWitness (s : State) : State :=
  let s := s.enterOff .witness 0
  { s with wit := { s.wit with since := s.mer.raw, stations := s.wit.stations.map (fun x => (x.1, { x.2 with watched := false, yield_ := none })) } }
def State.reqWitness (s : State) (who : Who) : Act :=
  match s.mode.mode with
  | .service => if s.isWitness && s.mode.cfgHeld then s.modeAct who engineer .witness State.enterWitness else s.refuseMode .witness 0
  | _ => s.refuseMode .witness 0

/-- A safe demand (R38): its cause is named by the code of the event that records it. -/
def State.reqSafe (s : State) (who : Who) : Act :=
  match s.mode.mode with
  | .run | .hold | .stop | .standby => s.modeAct who operator .safe (fun s => s.enterSafe 0x1008 0 false)
  | _ => s.refuseMode .safe 0

/-- A request that is not taken while a transition is in progress (R37): every one but a safe demand, whose rank is higher,
and the STOP that cancels an application (R465). -/
def State.serialised (s : State) (m : Mode) : Bool :=
  s.inTransition && m != .safe && !(m == .stop && s.mode.applying)

/-- A mode request (R35), after R47 and the least level of Table 09-3. -/
def State.requestMode (s : State) (who : Who) (m : Mode) : Act :=
  if s.mode.lifeCycle = .retired then (s.ansState, s)
  else if who.level.val < operator then ({ status := .privilege, detail := operator }, s)
  else if s.serialised m || s.recovery then s.refuseMode m 0
  else match m with
    | .blank => s.reqBlank who
    | .stop => s.reqStop who
    | .run => s.reqRun who
    | .hold => s.reqHold who
    | .standby => s.refuseMode .standby 0
    | .witness => s.reqWitness who
    | .safe => s.reqSafe who
    | .service => s.reqService who

end Sys2Proof.Machine
end

