-- ==== Sys2Proof/Machine/LoadOps.lean ====
section
/-!
DEFINITION. Containers in the staging buffer, and bringing a configuration into force (R54, R149, R464).
-/
namespace Sys2Proof.Machine

/-! ## Containers (Table 05-2) -/

/-- What was written to the staging buffer. -/
def State.staged (s : State) : List Byte := (upto s.leg.stagingLen).map s.leg.staging.read

/-- A little-endian number at an offset of a byte list. -/
def leAt (l : List Byte) (off n : Nat) : Nat := leNat ((l.drop off).take n)

/-- Offset, length and CRC of the section entries, with their TYPE. -/
def sections (l : List Byte) : List (Nat × Nat × Nat × Nat) :=
  (upto (leAt l 6 2)).map (fun k => let o := 64 + 16 * k; (leAt l o 2, leAt l (o + 4) 4, leAt l (o + 8) 4, leAt l (o + 12) 4))

/-- A section's CRC-32C is that of its entry. -/
def sectionOk (l : List Byte) (x : Nat × Nat × Nat × Nat) : Bool :=
  decide (x.2.1 + x.2.2.1 ≤ l.length) && crc32c ((l.drop x.2.1).take x.2.2.1) == x.2.2.2

/-- The signature over all bytes before the trailer, by the key slot that the key index names (R149). -/
def State.signed (s : State) (l : List Byte) : Bool :=
  let k := s.keySlot (leAt l 40 1)
  !s.mem.tamper && k.level != 0 && edVerify k.pub (l.take (l.length - 64)) (l.drop (l.length - 64))

/-- The first check of a container that fails: its magic and signature, then its sections in order. -/
def State.containerFault (s : State) (magic : String) : Option Ans :=
  let l := s.staged
  if l.length < 128 || l.take 4 != ascii magic || !s.signed l then some (ansCheck 1 0)
  else match (sections l).find? (fun x => !sectionOk l x) with
    | some x => some (ansCheck 2 x.1)
    | none => none

/-- The first point that the task outputs of a program and another writer both write (R19), besides those the records show. -/
def State.programWriter (s : State) (prog : Program) : Option Nat :=
  let chans := prog.outputs.flatMap (·.2)
  let pts := (s.sur.cmdPts.filter (fun x => chans.contains x.2)).map (·.1)
  match lowest (pts.filter (fun p => s.writerClaims.any (fun c => c.1 == p))) with
  | some p => some p
  | none => ({ s with tsk := { s.tsk with active := some prog } } : State).writerFault s.sur.points

/-- The first check of R150 that a program in the staging buffer fails. -/
def State.loadFault (s : State) (prog : Program) : Option Ans :=
  match s.containerFault "OPSP" with
  | some a => some a
  | none =>
    match s.tableFault prog.tasks prog.outputs with
    | some t => some (ansCheck 3 t)
    | none =>
      match s.programWriter prog with
      | some p => some (ansCheck 4 (s.pointAddr p))
      | none => (s.taskAdmission prog.tasks (some prog)).map (fun x => ansCheck 5 x.1)

/-! ## Bringing a configuration into force -/

/-- Elements that a commit leaves as they are: those the configuration does not hold, forces, and the task table, which the
program container brings. -/
def keptAtCommit (e : Nat) : Bool := outsideConfig e || (0xA8300 ≤ e && e ≤ 0xA83FF) || (0x21000 ≤ e && e ≤ 0x2100F)

/-- The state with a container's configuration in place of the present one. -/
def State.withBody (s : State) (b : ConfigBody) : State :=
  let kept := s.elems.filter (fun x => keptAtCommit (x.1 / 256))
  { s with
    elems := b.elems.foldl (fun t x => if keptAtCommit (x.1 / 256) then t else Table.put t x.1 x.2) kept,
    mode := { s.mode with modIndex := b.index },
    sur := { s.sur with points := b.points.foldl (fun t x => Table.put t x.1 x.2) [], cmdPts := b.cmdPts,
                        image := s.sur.image.filter (fun x => b.points.any (fun y => y.1 == x.1)) },
    leg := { s.leg with queues := b.queues.foldl (fun t x =>
        Table.put t x.1 ({ cls := x.2.cls, depth := x.2.depth, credit := x.2.credit } : HwQueue)) [] } }

/-- The copy load that a configuration admits, B per ms (R206). -/
def State.admittedCopy (s : State) : Nat :=
  ((Frac.sum ((s.copyParts s.taskTable s.tsk.active).map (·.2))).floor)

/-- Registers, task states, admitted figures and slots follow the configuration in force. -/
def State.settle (s : State) : State :=
  let s := (s.admitTasks s.taskTable s.tsk.active).admitLoops
  let s := s.each s.tasks (fun s t => s.updTask t (fun x => if x.state = .unconfigured then { x with state := .waiting } else x))
  ({ s with red := { s.red with copyAdmitted := s.admittedCopy }, can := { s.can with since := s.mer.raw } } : State).mirrorAll

/-- An accepted configuration takes effect (R54). -/
def State.inForce (s : State) (ident : Nat) : State :=
  let s : State := { s with mode := { s.mode with cfgHeld := true, cfgId := ident, cfgElems := [] } }
  s.settle.ev 0x1011 [ident]

/-- A commit of a candidate is refused (R54): event 0x1012 with the check, and those of the admission checks. -/
def State.commitRefused (s c : State) (a : Ans) : Act :=
  let s := match a.detail / 2 ^ 28 with
    | 5 => s.ev 0x2109 [a.detail % 2 ^ 28, ((c.taskAdmission c.taskTable c.tsk.active).map (fun (x : Nat × Nat) => x.2)).getD 0]
    | 6 => s.ev 0x3001 [a.detail % 2 ^ 28, (c.loopAdmission.map (fun (x : Nat × Nat) => x.2)).getD 0]
    | _ => s
  (a, s.ev 0x1012 [a.detail / 2 ^ 28])

/-- The mode after an accepted commit (R54). -/
def State.afterCommit (s : State) : State :=
  match s.mode.mode with
  | .blank => if s.isWitness then s.enterWitness else if s.mode.safeStored then s.restoreSafe else s.enterStop
  | .stop => s.applyIdle
  | _ => s

/-- The modes in which a commit is accepted. -/
def State.mayCommit (s : State) : Bool := match s.mode.mode with | .blank | .stop | .service => !s.recovery | _ => false

/-- A commit once its mode, privilege and token stand: value 1 with a container's body, value 2 with the elements as written,
whose configuration has no container identity of its own (a free value). -/
def State.commit (s : State) (body : Option ConfigBody) : Act :=
  match body with
  | some b =>
    match s.containerFault "OPSC" with
    | some a => s.commitRefused s a
    | none =>
      let c := s.withBody b
      match c.configFault with
      | some a => s.commitRefused c a
      | none => (ansOk, (c.inForce b.ident).afterCommit)
  | none =>
    match s.configFault with
    | some a => s.commitRefused s a
    | none =>
      let d := s.draw
      (ansOk, (d.2.inForce ((Config.random d.1).toNat % 2 ^ 64)).afterCommit)

/-- Configuration commit (R54), Legend 0x10070. -/
def State.configCommit (s : State) (who : Who) (body : Option ConfigBody) : Act :=
  if s.mode.lifeCycle = .retired then (s.ansState, s)
  else if who.level.val < engineer then ({ status := .privilege, detail := engineer }, s)
  else if !s.mayCommit then (s.ansState, s)
  else s.withToken who s.sealed_ (ea 0x10070 0) (fun s => s.commit body)

end Sys2Proof.Machine
end

