-- ==== Sys2Proof/Machine/Recovery.lean ====
section
/-!
DEFINITION. The recovery ladder, the life cycle, configuration commits and firmware (R44 to R55).
-/
namespace Sys2Proof.Machine

/-- A command at Engineer privilege that RETIRED refuses (R47, R236). -/
def State.engineerAct (s : State) (who : Who) (f : State → Act) : Act :=
  if s.mode.lifeCycle = .retired then (s.ansState, s)
  else if who.level.val < engineer then ({ status := .privilege, detail := engineer }, s)
  else f s

/-! ## Rungs 3 and 4 -/

/-- A warm reset request (R43, R52). -/
def State.reqWarm (s : State) (who : Who) (v : Nat) : Act :=
  s.engineerAct who (fun s =>
    if v ≠ 0xA5C3 then (ansRange, s) else (ansOk, (s.ev 0x100C [(s.session who.session).id]).warmStart))

/-- PCRQ is driven for 500 ms (R53). -/
def State.drivePcrq (s : State) : State := { s with pwr := { s.pwr with pcrq := true, pcrqUntil := s.mer.raw + ticksMs 500 } }

/-- A power cycle request (R52, R53). -/
def State.reqCycle (s : State) (who : Who) (v : Nat) : Act :=
  s.engineerAct who (fun s =>
    if v ≠ 0xC3A5 then (ansRange, s)
    else
      let s := (s.ev 0x100D []).drivePcrq
      (ansOk, { s with mode := { s.mode with pcrqAt := some s.mer.raw } }))

/-- WARM_RESET (R43, R52). -/
def execWarmReset (who : Who) (value : Nat) (s : State) : Res := whenUp s (fun s => giveBoth (s.reqWarm who value))

/-- POWER_CYCLE_REQUEST (R53). -/
def execPowerCycleRequest (who : Who) (value : Nat) (s : State) : Res := whenUp s (fun s => giveBoth (s.reqCycle who value))

/-- POWER_CYCLE_TIMEOUT (R53): 2 s after the request the supply has not fallen below 9 V. -/
def execPowerCycleTimeout (s : State) : Res :=
  whenUp s (fun s =>
    match s.mode.pcrqAt with
    | some t => if s.elapsed t (ticksMs 2000) && decide (9000 ≤ max s.pwr.ina s.pwr.inb) then (s.ev 0x100E []).warmStart else s
    | none => s)

/-- PCRQ_GO: a firmware write of 1 to PWR_CTRL.PCRQ_GO (R53, Table 17-13). -/
def execPcrqGo (agent : Agent) (s : State) : Res :=
  whenUp s (fun s => match agent with | .triad | .cc0 | .cc1 => s.drivePcrq)

/-! ## Rung 2 (R51, Table 02-10) -/

/-- Tasks or loops that write one of these channels run. -/
def State.writersRun (s : State) (p : Chan → Bool) : Bool :=
  (match s.mode.mode with | .run | .hold => true | _ => false) &&
    (s.tasks.any (fun t => (s.taskChans t).any p) || s.slots.any (fun i => match s.loopChan i with | some c => p c | none => false))

/-- Re-initialise a CAN controller (R359): its configuration, its counts and its pending objects stand. The transmission in
progress ends, and the bus integration that follows starts the next. -/
def State.reinitCan (s : State) (c : Nat) : State :=
  (s.updCan c (fun x => { x with tec := 0, rec_ := 0, lec := 0, lecData := false, busOff := false, passive := false, recovering := false,
                                 idle := true, pend := 0, episode := none,
                                 objs := x.objs.map (fun o => (o.1, { o.2 with inTx := false, payload := o.2.held.getD o.2.payload, held := none })) })).startTx c 11 1

def PortState.reinit (p : PortState) : PortState := { p with windows := [], windowAt := 0, icmpReplies := 0, policedAt := none, violAt := none }
def State.updNet (s : State) (p : Nat) (f : PortState → PortState) : State :=
  { s with net := match p with
      | 0 => { s.net with na := f s.net.na } | 1 => { s.net with nb := f s.net.nb }
      | 2 => { s.net with ia := f s.net.ia } | _ => { s.net with ib := f s.net.ib } }
def State.netPort (s : State) (p : Nat) : PortState := match p with | 0 => s.net.na | 1 => s.net.nb | 2 => s.net.ia | _ => s.net.ib

def State.reinitHart (s : State) (n : Nat) : State :=
  { s with aio := { s.aio with masters := Table.erase s.aio.masters n, loops := Table.erase (Table.erase s.aio.loops (2 * n)) (2 * n + 1) } }

def State.reinitAo (s : State) (n : Nat) : State :=
  let s : State := { s with aio := { s.aio with link := true, ready := true } }
  let s := s.updAo n (fun c => { c with conds := [], since := [], clearSince := [], lowHead := false, detail := 0 })
  (s.idleAo s.mode.mode n).writeAoRb n

def State.reinitGroup (s : State) (g : Nat) : State :=
  let s := s.updGrp g (fun x => { x with link := true })
  s.each ((upto 8).map (8 * g + ·)) (fun s n =>
    let s := s.updDio n (fun c => { c with conds := [], latched := false, unlatch := false, tripAt := none, tries := [], rejectRun := 0, closeAt := none })
    (s.idleDio s.mode.mode n).writeDio n)

/-- The safety field die starts anew: its latched faults end, but not an EXTERNAL-DRIVE, whose cause lies outside. -/
def State.reinitSafety (s : State) : State :=
  let x := s.saf
  let s : State := { s with saf :=
    { set := x.set, crc := x.crc, pending := x.pending, pendCrc := x.pendCrc, pendAt := x.pendAt, activated := x.activated,
      chans := x.chans.map (fun c => (c.1, { raw := c.2.raw, missCount := c.2.missCount })),
      fns := x.fns.map (fun f => (f.1, { t0 := f.2.t0, demands := f.2.demands })),
      pairs := x.pairs.map (fun p => (p.1, { extDrive := p.2.extDrive, lastTest := p.2.lastTest })),
      diverge := x.diverge, checks := x.checks, resets := x.resets, resetsDiscarded := x.resetsDiscarded, frameAt := x.frameAt,
      link := true, lastCheck := s.mer.raw, ctrl := x.ctrl, chCfg := x.chCfg } }
  s.writeSafInputs

def State.reinitPtp (s : State) : State :=
  let f (p : PtpPort) : PtpPort := { inLat := p.inLat, egLat := p.egLat, asym := p.asym, reqSeq := p.reqSeq }
  { s with mer := { s.mer with p0 := f s.mer.p0, p1 := f s.mer.p1, p2 := f s.mer.p2, p3 := f s.mer.p3, sources := [], master := none,
                               plantMaster := false, count := [], points := [] } }

def State.reinitLegend (s : State) : State :=
  { s with leg := { s.leg with sessions := [], sources := [], rates := [], busyAt := none, violRec := [], forwards := [], atomics := [], reasm := [] } }

def State.reinitCartouche (s : State) : State :=
  { s with crt := { s.crt with fp := { s.crt.fp with held := false }, ext := { s.crt.ext with held := false }, keys := [], pend := 0, banner := false,
                               full := false, page := 0, scroll := 0 } }

/-- A communication core starts again and its heartbeat counts anew (R86). -/
def CommCore.restart (c : CommCore) (raw : Nat) : CommCore := { c with inReset := false, lastBeat := raw }

def State.reinitCc0 (s : State) : State :=
  let s : State := { s with tri := { s.tri with cc0 := s.tri.cc0.restart s.mer.raw } }
  let s := (s.reinitLegend.reinitPtp.closeFn 0x0600).closeFn 0x0601
  { s with leg := { s.leg with directory := [], datumAck := 0, datumLost := false, peers := [] } }

def State.reinitCc1 (s : State) : State :=
  let s : State := { s with tri := { s.tri with cc1 := s.tri.cc1.restart s.mer.raw }, leg := { s.leg with reasm := [] } }
  s.each (upto 8) (fun s n => ((s.reinitHart n).closeFn (0x0300 + n)).clearRetries (0x0300 + n))

/-- A head is configured anew by SERVICE frames (R375) and is admitted again. -/
def State.reinitHead (s : State) (h : Nat) : State :=
  let s : State := { s with ring := { s.ring with heads := Table.erase s.ring.heads h } }
  (s.send (.ring 5 0 0 s.red.cur.claim false [(h, s.el (0xA0100 + h) 0 0)])).writeHeadStatus h

/-- The function of a code, if it is one of Table 02-10: whether its condition is met, and what its re-initialisation does. -/
def State.reinitOf (s : State) (code : Nat) : Option (Bool × (State → State)) :=
  let k := code % 256
  if 0x0100 ≤ code && code ≤ 0x0103 then some (true, fun s => s.reinitCan k)
  else if 0x0200 ≤ code && code ≤ 0x0203 then
    some (k < 2 || (s.netPort (5 - k)).up, fun s => s.updNet k PortState.reinit)
  else if 0x0300 ≤ code && code ≤ 0x0307 then some (true, fun s => s.reinitHart k)
  else if 0x0310 ≤ code && code ≤ 0x0317 then
    some (!s.writersRun (fun c => decide (c = .ao (k - 16))), fun s => s.reinitAo (k - 16))
  else if 0x0400 ≤ code && code ≤ 0x0403 then
    some (!s.writersRun (fun c => match c with | .dio n => n / 8 == k | _ => false), fun s => s.reinitGroup k)
  else if code = 0x0500 then some ((upto 4).all (fun p => !(s.safPair p).energised), State.reinitSafety)
  else if code = 0x0600 then some (true, State.reinitPtp)
  else if code = 0x0601 then some (true, State.reinitLegend)
  else if code = 0x0602 then some (s.crt.update.isNone, State.reinitCartouche)
  else if code = 0x0603 then some (true, State.reinitCc0)
  else if code = 0x0604 then some (true, State.reinitCc1)
  else if 0x0700 ≤ code && code ≤ 0x07FF then
    some (true, fun s =>
      (({ s with leg := { s.leg with services := Table.erase s.leg.services k } } : State).endUnit (.service k)).evS 0xE002 code [k])
  else if 0x0800 ≤ code && code ≤ 0x0817 then some (true, fun s => s.reinitHead k)
  else none

/-- A rung 2 request: the answer first, then the re-initialisation and its result. -/
def State.reqReinit (s : State) (who : Who) (code : Nat) : Act :=
  s.engineerAct who (fun s =>
    match s.reinitOf code with
    | none => (ansRange, s)
    | some (false, _) => (ansOk, ({ s with mode := { s.mode with reinitResult := 1 } } : State).ev 0x100B [code, 1])
    | some (true, f) =>
      let s := ((f s).closeFn code).clearRetries code
      (ansOk, ({ s with mode := { s.mode with reinitResult := 0 } } : State).evS 0x100B code [code, 0]))

/-- REINITIALISE_FUNCTION (R51). The answer leaves before the function stops. -/
def execReinitialiseFunction (who : Who) (code : Nat) (s : State) : Res := whenUp s (fun s => giveBoth (s.reqReinit who code))

/-! ## Life cycle (R44 to R47) -/

/-- The wipes of a transition to OPEN or RETIRED: the configuration and what goes with it, and the stored SAFE state. -/
def State.wipeConfig (s : State) : State :=
  let s := s.eraseConfig
  { s with mode := { s.mode with safeStored := false, kept := [] } }

/-- A permitted transition: recorded before the wipe, and ended by a warm reset. The asset tag may be written again (R441). -/
def State.lifeStep (s : State) (dest : LifeCycle) (slot : Nat) : State :=
  let old := s.mode.lifeCycle
  let s := s.ev 0x1007 [old.code, dest.code, slot]
  let s := match dest with
    | .opened | .retired => s.flushRecorder.wipeConfig
    | _ => s
  let s : State := if old = .factory then { s with leg := { s.leg with keys := [] } } else s
  ({ s with mode := { s.mode with lifeCycle := dest }, sys := { s.sys with assetWritten := false } } : State).warmStart

/-- The transitions of Table 02-7; OPEN to SEALED needs an Engineer key and a Custodian key (R237). -/
def State.lifePermitted (s : State) (dest : LifeCycle) : Bool :=
  match s.mode.lifeCycle, dest with
  | .factory, .opened => true
  | .opened, .sealed => s.hasKey (· == 2) && s.hasKey (· == 3)
  | .sealed, .opened => true
  | .opened, .retired => true
  | .sealed, .retired => true
  | _, _ => false

/-- A life-cycle request (R44): in SERVICE, with a Custodian token; FACTORY to OPEN is production test's. -/
def State.reqLife (s : State) (who : Who) (dest : LifeCycle) : Act :=
  if s.mode.mode ≠ .service || s.recovery || !s.lifePermitted dest then (s.ansState, s)
  else if s.mode.lifeCycle = .factory then (ansOk, s.lifeStep dest 0xFF)
  else match s.takeToken who with
    | (.error d, s) => (ansToken d, s)
    | (.ok k, s) => (ansOk, (if s.leg.grant.isSome then s else s.ev 0xA804 [eaWord (ea 0x10021 0)]).lifeStep dest k)

/-- LIFECYCLE_TO_OPEN (R44). -/
def execLifecycleToOpen (who : Who) (s : State) : Res := whenUp s (fun s => giveBoth (s.reqLife who .opened))

/-- LIFECYCLE_TO_SEALED (R44). -/
def execLifecycleToSealed (who : Who) (s : State) : Res := whenUp s (fun s => giveBoth (s.reqLife who .sealed))

/-- LIFECYCLE_TO_RETIRED (R47). -/
def execLifecycleToRetired (who : Who) (s : State) : Res := whenUp s (fun s => giveBoth (s.reqLife who .retired))

/-! ## Configuration and firmware (R54, R55) -/

/-- CONFIG_COMMIT_CONTAINER (R54): value 1. -/
def execConfigCommitContainer (who : Who) (body : ConfigBody) (s : State) : Res := whenUp s (fun s => giveBoth (s.configCommit who (some body)))

/-- CONFIG_COMMIT_ELEMENTS (R54): value 2. -/
def execConfigCommitElements (who : Who) (s : State) : Res := whenUp s (fun s => giveBoth (s.configCommit who none))

/-- The modes in which firmware is installed. -/
def State.mayInstall (s : State) : Bool :=
  match s.mode.mode with | .blank | .stop | .service | .witness => true | _ => s.recovery

/-- Write a slot. -/
def State.setFwSlot (s : State) (slot : Nat) (x : FwSlot) : State :=
  if slot = 0 then { s with mode := { s.mode with slotA := x } } else { s with mode := { s.mode with slotB := x } }
def State.installDone (s : State) (r : Nat) : State := { s with mode := { s.mode with installResult := r } }

/-- Install an image (R55). -/
def State.reqInstall (s : State) (who : Who) (slot : Nat) (found : FwFind) : Act :=
  s.engineerAct who (fun s =>
    if 1 < slot then (ansRange, s)
    else if !s.mayInstall || s.mode.image = slot then (s.ansState, s.installDone 1)
    else s.withToken who s.sealed_ (ea 0x10071 0) (fun s =>
      if !found.sigOk then (ansCheck 1 0, s.installDone 2)
      else if !found.writeOk then (ansCheck 1 0, (s.setFwSlot slot {}).installDone 3)
      else (ansOk, ((s.setFwSlot slot { valid := true, version := found.version }).installDone 0).ev 0x1013 [slot, found.version])))

/-- FIRMWARE_INSTALL (R55). -/
def execFirmwareInstall (who : Who) (slot : Nat) (found : FwFind) (s : State) : Res := whenUp s (fun s => giveBoth (s.reqInstall who slot found))

/-- Select the slot to start from (R55). -/
def State.reqSelect (s : State) (who : Who) (slot : Nat) : Act :=
  s.engineerAct who (fun s =>
    if 1 < slot then (ansRange, s)
    else s.withToken who s.sealed_ (ea 0x10072 0) (fun s =>
      if s.slotGood slot then (ansOk, { s with mode := { s.mode with slotSel := slot } }) else (ansCheck 1 0, s)))

/-- FIRMWARE_SLOT_SELECT (R55). -/
def execFirmwareSlotSelect (who : Who) (slot : Nat) (s : State) : Res := whenUp s (fun s => giveBoth (s.reqSelect who slot))

end Sys2Proof.Machine
end

