-- ==== Sys2Proof/Machine/Cyclic.lean ====
section
/-!
DEFINITION. The meanings of the program cycle and the ring cycle of chapter 5.
-/
namespace Sys2Proof.Machine

/-- Tasks run their cycles here: in RUN and HOLD, or those a transition still awaits (R36, R223). -/
def State.cycles (s : State) (t : Nat) : Bool :=
  (match s.mode.mode with | .run | .hold | .stop => true | _ => false) || s.awaitsTask t

/-- INPUT_IMAGE_FREEZE (R126, R127). -/
def execInputImageFreeze (task : Fin 16) (s : State) : Res :=
  whenUp s (fun s =>
    let r := s.taskRun task
    if r.latched && decide (r.freeze ≤ s.now) && s.cycles task then s.freezeTask task else s)

/-- TASK_COMMIT_DEADLINE_MISSED (R135). -/
def execTaskCommitDeadlineMissed (task : Fin 16) (s : State) : Res :=
  whenUp s (fun s =>
    let r := s.taskRun task
    if r.busy && !r.missed && decide (s.taskDeadline task ≤ s.now) && decide (s.mode.mode = .run) then
      let s := s.updTask task (fun x => { x with missed := true, state := .late })
      if (s.taskRec task).ringOwner then s.repeatFrame task r.c else s
    else s)

/-- OUTPUT_STAGE_RELEASE (R36, R131): what is due for a task, and what the partner staged. -/
def execOutputStageRelease (task : Fin 16) (s : State) : Res :=
  whenUp s (fun s => ((s.releaseHanded task).stopOutputs task).applyPresets)

/-- The instant of a task's next cycle start. -/
def State.nextStart (s : State) (t : Nat) : MTime :=
  let r := s.slot (256 + t)
  if r.enable then firstInstant r.instant r.period s.now else s.now

/-- Tasks run in this mode, so that a change waits for a cycle start. -/
def State.tasksLive (s : State) : Bool := match s.mode.mode with | .run | .hold => true | _ => false

/-- Write a single value (R147). -/
def State.writeSingle (s : State) (d : SingleDecl) (v : Nat) : State :=
  if s.tasksLive && s.taskOn d.task then
    let s : State := { s with tsk := { s.tsk with singles := s.tsk.singles ++ [(d.ea, v)] } }
    s.sendChange (d.ea / 256) (d.ea % 256) v (s.nextStart d.task)
  else
    let s : State := { s with tsk := { s.tsk with values := Table.put s.tsk.values d.ea v } }
    (s.ev 0x2107 [d.ea / 256]).sendChange (d.ea / 256) (d.ea % 256) v s.now

/-- SINGLE_VALUE_WRITE (R147): checked against its declared privilege, range and type. -/
def execSingleValueWrite (who : Who) (ea : Nat) (value : Nat) (s : State) : Res :=
  whenUp s (fun s =>
    if s.mode.lifeCycle = .retired then s.give s.ansState
    else match s.single? (ea / 256) (ea % 256), s.desc (ea / 256) (ea % 256) with
      | some d, some x =>
        if who.level.val < d.priv then s.give { status := .privilege, detail := d.priv }
        else if !x.fits value then s.give ansRange
        else (s.writeSingle d value).okAns
      | _, _ => s.give { status := .noEntry })

/-- The constants staged: place and value. -/
def State.stagedConsts (s : State) : List (Nat × Nat) :=
  (s.elems.filter (fun x => x.1 / 256 == 0x22011)).map (fun x => (x.1 % 256, x.2))

/-- Commit the staged batch (R147): whole, at one cycle start of each task that reads it. -/
def State.commitBatch (s : State) : State :=
  let l := s.stagedConsts
  let reads (i : Nat) : List Nat := match s.const? i with | some d => d.tasks | none => []
  let ts := (l.flatMap (fun x => reads x.1)).eraseDups
  let s : State := { s with elems := s.elems.filter (fun x => x.1 / 256 != 0x22011) }
  if l.isEmpty then s
  else if s.tasksLive then
    let first := (ts.map s.nextStart).foldl min ((ts.map s.nextStart).headD s.now)
    let s : State := { s with tsk := { s.tsk with batches := s.tsk.batches ++ [(l, ts.filter s.taskOn)] } }
    s.each l (fun s x => s.sendChange 0x22011 x.1 x.2 first)
  else
    let s : State := { s with tsk := { s.tsk with
      consts := l.foldl (fun c x => (reads x.1).foldl (fun c t => Table.put c (64 * t + x.1) x.2) c) s.tsk.consts } }
    (s.each l (fun s x => s.sendChange 0x22011 x.1 x.2 s.now)).ev 0x2107 [0x22010]

/-- Legend 0x22010.0. -/
def State.reqBatch (s : State) (who : Who) : Act := s.engineerAct who (fun s => (ansOk, s.commitBatch))

/-- CONSTANTS_BATCH_COMMIT (R147). -/
def execConstantsBatchCommit (who : Who) (s : State) : Res := whenUp s (fun s => giveBoth (s.reqBatch who))

/-- Load the staged container (R148, R150): in STOP only. -/
def State.reqLoad (s : State) (who : Who) (prog : Program) : Act :=
  s.engineerAct who (fun s =>
    if s.mode.mode ≠ .stop then (s.ansState, s)
    else s.withToken who s.sealed_ (ea 0x22000 0) (fun s =>
      match s.loadFault prog with
      | some a =>
        let c := a.detail / 2 ^ 28
        let s := if c = 5 then
            s.ev 0x2109 [a.detail % 2 ^ 28, ((s.taskAdmission prog.tasks (some prog)).map (fun (x : Nat × Nat) => x.2)).getD 0]
          else s
        (a, s.ev 0x2108 [c])
      | none => (ansOk, { s with tsk := { s.tsk with staged := some prog } })))

/-- CONTAINER_LOAD (R150). -/
def execContainerLoad (who : Who) (prog : Program) (s : State) : Res := whenUp s (fun s => giveBoth (s.reqLoad who prog))

/-! ## Ring deadlines (R152, R373, Table 05-3) -/

/-- The collection deadline of an exchange: its latch instant + t_in. -/
def State.collectDue (s : State) (e : Exchange) : Bool :=
  let t := if e.owner < 16 then s.ringTin else s.groupTRdy (e.owner - 16)
  !e.collected && decide (e.at_ + t ≤ s.now)

/-- A head without an answer: STALE points; past its missed-cycle count it is in fail-safe and its points are BAD. -/
def State.headSilent (s : State) (h : Nat) : State :=
  let x := s.head h
  if x.state = .missing && s.headMiss h ≤ x.missed then
    let s := s.updHead h (fun x => { x with state := .failSafe })
    (((s.writeHeadStatus h).requalify h qBad).closeFault (headFn h) 0x2104 h).faultRep (headFn h) 0x2105 h 2 [h]
  else if x.state = .failSafe then s.requalify h qBad
  else s.requalify h qStale

/-- RING_COLLECT_DEADLINE (R152). -/
def execRingCollectDeadline (owner : Fin 272) (s : State) : Res :=
  whenUp s (fun s =>
    match s.exchange? owner with
    | some e =>
      if s.collectDue e then
        let s := s.updExch owner (fun e => { e with collected := true })
        s.each ((s.exchHeads owner).filter (fun h => !(s.head h).answered)) State.headSilent
      else s
    | none => s)

/-- A head that has not acknowledged the output frame (Table 05-3, step 3), or has. Missed cycles are those of the ring
owner's exchange (R375). -/
def State.checkAck (s : State) (h : Nat) (task : Bool) : State :=
  if (s.head h).acked then
    if (s.head h).state = .present then s.updHead h (fun x => { x with missed := 0 }) else s
  else (s.updHead h (fun x => { x with missed := if task then min 255 (x.missed + 1) else x.missed })).headMissing h

/-- RING_ACK_CHECK (R373): the exchange ends with it. -/
def execRingAckCheck (owner : Fin 272) (s : State) : Res :=
  whenUp s (fun s =>
    match s.exchange? owner with
    | some e =>
      if e.sentOut && (decide (e.checkAt ≤ s.now) || (e.backA && e.backB)) then
        let s := s.each (s.exchHeads owner) (fun s h => s.checkAck h (decide (owner.val < 16)))
        { s with ring := { s.ring with exchanges := s.ring.exchanges.filter (fun x => x.owner != owner) } }
      else s
    | none => s)

end Sys2Proof.Machine
end

