-- ==== Sys2Proof/Machine/Digital.lean ====
section
/-!
DEFINITION. The digital field channels' commands (R266 to R289).
-/
namespace Sys2Proof.Machine

/-- GROUP_SUPPLY_MEASURE (R267): LOW sets below 18.0 V and clears at 19.0 V, MISSING below 9.0 V and at 10.0 V, each after
1 ms; the point qualities of the group follow. -/
def execGroupSupplyMeasure (g : Fin 4) (mv : Nat) (s : State) : Res :=
  whenUp s (fun s =>
    let x := s.dioGrp g
    let filt (state want : Bool) (at_ : Option Nat) : Bool × Option Nat :=
      if want = state then (state, none)
      else match at_ with
        | none => (state, some s.mer.raw)
        | some t => if t + ticksMs 1 ≤ s.mer.raw then (want, none) else (state, some t)
    let wantLow := if x.low then decide (mv < 19000) else decide (mv < 18000)
    let wantMiss := if x.missing then decide (mv < 10000) else decide (mv < 9000)
    let l := filt x.low wantLow x.lowAt
    let m := filt x.missing wantMiss x.missAt
    let s := s.updGrp g (fun x => { x with mv := mv % 65536, low := l.1, lowAt := l.2, missing := m.1, missAt := m.2 })
    let fn := 0x0400 + g.val
    let s := if l.1 && !x.low then s.evS 0x600D fn [g, mv] else s
    let s := if m.1 && !x.missing then s.evS 0x600E fn [g] else s
    let s := if (x.low || x.missing) && !l.1 && !m.1 then s.evS 0x600F fn [g] else s
    if l.1 = x.low && m.1 = x.missing then s
    else s.each (upto 8) (fun s k => s.writeDio (8 * g + k)))

/-- The safe states of a section that has lost its refresh; a paralleled channel goes off instead (R43, R268). -/
def State.sectionSafe (s : State) (sec : Nat) : State :=
  if sec < 4 then
    s.each (upto 8) (fun s k =>
      let n := 8 * sec + k
      if s.dioIsOut n && s.dioBase n == n then
        if s.paralleled (.dio n) then s.releaseDio n false else s.idleDio .safe n
      else s)
  else if sec = 4 then
    s.each (upto 8) (fun s n =>
      if bitOf (s.aoCfg n) 0 then (if s.paralleled (.ao n) then s.driveAo n F64.zero else s.idleAo .safe n) else s)
  else s.each (upto 4) (fun s p =>
    s.updSafPair p (fun x => { x with highClosed := false, lowClosed := false, permit := false, ma := 0 }))

/-- SECTION_REFRESH_LOSS (R268, R43). -/
def execSectionRefreshLoss (sec : Fin 6) (s : State) : Res := .next (s.sectionSafe sec)

/-- DIE_LINK_LOST (R268): the points of the section turn BAD with detail LINK, and rung 2 is called for. -/
def execDieLinkLost (sec : Fin 6) (s : State) : Res :=
  whenUp s (fun s =>
    if sec.val < 4 then
      let s := s.updGrp sec (fun x => { x with link := false })
      let s := s.each (upto 8) (fun s k => s.writeDio (8 * sec + k))
      s.fault (0x0400 + sec.val) 0x6010 sec 2 [sec]
    else if sec.val = 4 then
      let s : State := { s with aio := { s.aio with link := false, ready := false } }
      let s := s.each (upto 8) (fun s n => (s.writeAi n s.now).writeAoRb n)
      s.each (upto 8) (fun s n => s.fault (0x0310 + n) 0x7010 n 2 [])
    else
      let s : State := { s with saf := { s.saf with link := false } }
      s.writeSafInputs)

/-- RAW_INPUT_EDGE (R270, R273, R276): the counter counts, and a level that reverts before D is a rejected pulse. -/
def execRawInputEdge (ch : Fin 32) (level : Bool) (s : State) : Res :=
  whenUp s (fun s =>
    let c := s.dioCh ch
    let cfg := s.dioCfg ch
    let lvl := level != bitOf cfg 7
    if s.dioMode ch ≠ 1 || lvl = c.raw then s else
    let cnt := field cfg 4 3
    let counts := (cnt == 1 && lvl) || (cnt == 2 && !lvl) || cnt == 3
    let close := cnt != 0 && match c.edgeAt with
      | some t => decide (s.mer.raw < t + ticksUs 1)
      | none => false
    let reverts := lvl == c.state
    let run := if reverts then c.rejectRun + 1 else c.rejectRun
    let s := s.updDio ch (fun c => { c with
      raw := lvl, edgeAt := some s.mer.raw,
      counter := if counts then (c.counter + 1) % 2 ^ 32 else c.counter,
      closeAt := if close then some s.mer.raw else c.closeAt,
      rejected := if reverts then satInc 16 c.rejected else c.rejected,
      rejectRun := run })
    let s := if close && !c.conds.contains 14 then (s.setCond ch 14 true).writeDio ch else s
    if reverts && decide (4 ≤ run) && !c.conds.contains 9 then ((s.setCond ch 9 true).writeDio ch).evRep 0x600A (grpFn ch) [ch] else s)

/-- A change-of-state record (Table 10-2): pushed to its queue, or counted as dropped (R272). -/
def State.cosRecord (s : State) (n : Nat) (t : MTime) (catchup : Bool) : State :=
  let c := s.dioCh n
  let seq := (c.cosSeq + 1) % 2 ^ 32
  let bytes := leBytes 8 (i64 t) ++ leBytes 1 n ++ leBytes 1 c.state.toNat
    ++ leBytes 1 (catchup.toNat + 2 * (c.conds.contains 10).toNat) ++ leBytes 1 s.mq ++ leBytes 4 seq
  let r := s.pushQueue (s.el 0x60010 0 0) bytes
  let s := r.2.updDio n (fun c =>
    { c with cosSeq := seq, cosLast := c.state, cosDropped := if r.1 then c.cosDropped else satInc 16 c.cosDropped })
  let s : State := { s with dio := { s.dio with cosPend := setBit s.dio.cosPend n true } }
  if bitOf (s.dioCfg n) 6 then s.evAt 0x6001 (grpFn n) t [n, c.state.toNat] else s

/-- DEBOUNCE_ACCEPT (R271, R272, R275): a level held for D becomes the debounced state, at the instant of its edge. -/
def execDebounceAccept (ch : Fin 32) (s : State) : Res :=
  whenUp s (fun s =>
    let c := s.dioCh ch
    let d := s.dioDeb ch
    match c.edgeAt with
    | none => s
    | some t =>
      if s.dioMode ch ≠ 1 || c.raw = c.state || s.mer.raw < t + ticksUs d then s else
      let tc : MTime := s.now - (d : Int) * 1000
      let s := s.updDio ch (fun c =>
        { c with state := c.raw, tChange := tc, rejectRun := 0, onSince := if c.raw then s.mer.raw else c.onSince })
      let s := if c.raw = false && c.conds.contains 10 then ((s.setCond ch 10 false).writeDio ch).evS 0x600C (grpFn ch) [ch] else s
      if bitOf (s.dioCfg ch) 5 && !(s.dioCh ch).conds.contains 9 then s.cosRecord ch tc false else s)

/-- CHATTER_CLEAR (R276): no edge for 16 × D; a CATCHUP record if the state differs from the last one reported. -/
def execChatterClear (ch : Fin 32) (s : State) : Res :=
  whenUp s (fun s =>
    let c := s.dioCh ch
    let quiet := match c.edgeAt with | some t => decide (t + ticksUs (16 * s.dioDeb ch) ≤ s.mer.raw) | none => true
    if c.conds.contains 9 && quiet then
      let s := ((s.setCond ch 9 false).updDio ch (fun c => { c with rejectRun := 0 })).writeDio ch
      if bitOf (s.dioCfg ch) 5 && c.state != c.cosLast then s.cosRecord ch c.tChange true else s
    else s)

/-- COUNTER_OVERRANGE_CLEAR (R273): 10 ms without an edge pair closer than 1 µs. -/
def execCounterOverrangeClear (ch : Fin 32) (s : State) : Res :=
  whenUp s (fun s =>
    let c := s.dioCh ch
    let quiet := match c.closeAt with | some t => decide (t + ticksMs 10 ≤ s.mer.raw) | none => true
    if c.conds.contains 14 && quiet then (s.setCond ch 14 false).writeDio ch else s)

/-- COUNTER_CLEAR (R273): takes effect at the next latch of the channel's input group. -/
def execCounterClear (who : Who) (ch : Fin 32) (s : State) : Res :=
  request s who engineer (fun s => (s.updDio ch (fun c => { c with clearPending := true })).okAns)

/-- OPEN_WIRE (R274). -/
def execOpenWire (ch : Fin 32) (openWire : Bool) (s : State) : Res :=
  whenUp s (fun s =>
    let has := (s.dioCh ch).conds.contains 7
    if s.dioMode ch ≠ 1 || !bitOf (s.dioCfg ch) 8 || has = openWire then s else
    let s := s.setCond ch 7 openWire
    let s := s.writeDio ch
    if openWire then s.evS 0x6008 (grpFn ch) [ch] else s)

/-- STUCK_ACTIVE (R275). -/
def execStuckActive (ch : Fin 32) (s : State) : Res :=
  whenUp s (fun s =>
    let c := s.dioCh ch
    let m := s.dioMaxact ch
    if s.dioMode ch ≠ 1 || m = 0 || !c.state || c.conds.contains 10 || s.mer.raw < c.onSince + ticksMs m then s else
    ((s.setCond ch 10 true).writeDio ch).evS 0x600B (grpFn ch) [ch])

/-- A SHORT or an OVERLOAD: off, latched, to be retried after 100 ms (R279, R280). -/
def State.dioTrip (s : State) (n d code : Nat) : State :=
  if s.dioDrive n then
    let s := s.latchOff n d
    let s := s.updDio n (fun c => { c with tripAt := some s.mer.raw })
    s.faultRep (grpFn n) code n 1 [n]
  else s

/-- OUTPUT_SHORT (R280). -/
def execOutputShort (ch : Fin 32) (s : State) : Res := whenUp s (fun s => s.dioTrip ch 3 0x6004)

/-- OUTPUT_OVERLOAD (R280). -/
def execOutputOverload (ch : Fin 32) (s : State) : Res := whenUp s (fun s => s.dioTrip ch 4 0x6005)

/-- OUTPUT_RETRY (R280, R49): 100 ms after the trip the channel is switched on again; `good` says that it stays on. At the
retry limit it stays latched and calls for rung 2. -/
def execOutputRetry (ch : Fin 32) (good : Bool) (s : State) : Res :=
  whenUp s (fun s =>
    let c := s.dioCh ch
    match c.tripAt with
    | none => s
    | some t =>
      if s.mer.raw < t + ticksMs 100 || !c.latched then s else
      let fn := grpFn ch
      let d := if c.conds.contains 3 then 3 else 4
      let code := if d = 3 then 0x6004 else 0x6005
      if s.retryFree fn then
        let s := s.countRetry fn
        let s := s.updDio ch (fun c =>
          { c with tries := s.mer.raw :: c.tries.filter (fun t => decide (s.mer.raw < t + s.retryW)) })
        if good then
          let s := (s.dioUnit ch).foldl (fun s k => s.updDio k (fun c => { c with latched := false, tripAt := none })) s
          let s := s.setCond ch d false
          (s.settleReadback ch).closeFault fn code ch
        else (s.updDio ch (fun c => { c with tripAt := some s.mer.raw })).faultRep fn code ch 1 [ch]
      else (s.updDio ch (fun c => { c with tripAt := none })).retryLimit fn code ch)

/-- The group's supply is missing: NO-DRIVE, OPEN-LOAD and SHARE are suspended (R267). -/
def State.dioSuspended (s : State) (n : Nat) : Bool := (s.dioGrp (n / 8)).missing

/-- NO_DRIVE (R280). -/
def execNoDrive (ch : Fin 32) (present : Bool) (s : State) : Res :=
  whenUp s (fun s =>
    let has := (s.dioCh ch).conds.contains 5
    if present = has then s
    else if present then
      if s.dioDrive ch && !s.dioSuspended ch && s.dioChecked ch && !(s.dioCh ch).conds.contains 3 then
        let s := (s.setCond ch 5 true).updDio ch (fun c => { c with rb := false })
        (s.writeReadback ch).fault (grpFn ch) 0x6006 ch 2 [ch]
      else s
    else
      let s := (s.setCond ch 5 false).updDio ch (fun c => { c with rb := true })
      (s.writeReadback ch).closeFault (grpFn ch) 0x6006 ch)

/-- OPEN_LOAD (R280). -/
def execOpenLoad (ch : Fin 32) (present : Bool) (s : State) : Res :=
  whenUp s (fun s =>
    let has := (s.dioCh ch).conds.contains 6
    if present = has then s
    else if present then
      if s.dioDrive ch && bitOf (s.dioCfg ch) 9 && !s.dioSuspended ch && s.dioChecked ch then
        ((s.setCond ch 6 true).writeReadback ch).evS 0x6007 (grpFn ch) [ch]
      else s
    else (s.setCond ch 6 false).writeReadback ch)

/-- SHARE (R279): the condition stands on the pair, at its even channel. -/
def execShare (ch : Fin 32) (present : Bool) (s : State) : Res :=
  whenUp s (fun s =>
    let b := s.dioBase ch
    let has := (s.dioCh b).conds.contains 8
    if s.dioMode ch ≠ 3 || present = has then s
    else if present then
      if s.dioDrive b && !s.dioSuspended b && s.dioChecked b then
        ((s.setCond b 8 true).writeReadback b).evS 0x6009 (grpFn b) [b]
      else s
    else (s.setCond b 8 false).writeReadback b)

/-- The candidates of R282 for a suspect whose high readback began at `onset`. -/
def State.wiredCandidates (s : State) (n : Nat) (onset : MTime) : List Nat :=
  let near (t : MTime) : Bool := decide (onset - 2000 ≤ t) && decide (t ≤ onset)
  let sus := s.dioCh (s.dioBase n)
  (upto 32).filter (fun k =>
    let c := s.dioCh (s.dioBase k)
    s.dioIsOut k && s.dioDrive k && !(s.dioUnit n).contains k &&
      ((c.changedRaw.isSome && near c.changedAt)
        || (sus.changedRaw.isSome && near sus.changedAt && decide (c.changedAt < sus.changedAt))))

/-- EXTERNAL-DRIVE on a digital channel (R281). -/
def State.externalDrive (s : State) (n : Nat) : State :=
  let s := (s.setCond n 1 true).updDio n (fun c => { c with rb := true })
  (s.writeReadback n).evS 0x6002 (grpFn n) [n]

/-- READBACK_HIGH_WHILE_OFF (R281, R282, R284): an output commanded off reads high for 200 µs. On a safety pair it is an
EXTERNAL-DRIVE that enters SAFE for an outside cause; a member that does not hold the claim raises nothing there (R335). -/
def execReadbackHighWhileOff (pair : Bool) (n : Fin 32) (onset : MTime) (s : State) : Res :=
  if pair && decide (4 ≤ n.val) then .fault .illFormed
  else whenUp s (fun s =>
    if pair then
      let x := s.safPair n
      if x.highClosed || x.lowClosed || x.extDrive || (s.pairMember && !s.red.holds) || !s.safActive then s else
      let s := s.updSafPair n (fun x => { x with extDrive := true })
      let s := (s.evS 0x8033 fnSafety [n]).safPend 1
      (s.enterSafe 0x8033 n false).safEval
    else
      if !s.dioIsOut n || s.dioDrive n || !s.dioChecked n || (s.dioCh n).conds.contains 1 || (s.dioCh n).conds.contains 2 then s
      else
        let cs := s.wiredCandidates n onset
        if cs.isEmpty then s.externalDrive n
        else
          let s := (n.val :: cs).foldl (fun s k => s.latchOff k 2) s
          let s := s.updDio n (fun c => { c with rb := true })
          let s := s.writeReadback n
          let mask := (cs.map (fun k => 2 ^ k)).foldl (· + ·) 0
          s.fault (grpFn n) 0x6003 n 2 [n, mask])

/-- WIRED_TOGETHER_RECHECK (R282): 200 µs after the latch, a suspect that still reads high is EXTERNAL-DRIVE as well. -/
def execWiredTogetherRecheck (ch : Fin 32) (high : Bool) (s : State) : Res :=
  whenUp s (fun s =>
    let c := s.dioCh ch
    let due := match c.changedRaw with | some t => decide (t + ticksUs 200 ≤ s.mer.raw) | none => false
    if !c.conds.contains 2 || !due then s
    else if high then (if c.conds.contains 1 then s else s.externalDrive ch)
    else (s.updDio ch (fun c => { c with rb := false })).writeReadback ch)

/-- EXTERNAL_DRIVE_CLEAR (R281): the readback has been low for 200 µs while commanded off. -/
def execExternalDriveClear (pair : Bool) (n : Fin 32) (s : State) : Res :=
  if pair && decide (4 ≤ n.val) then .fault .illFormed
  else whenUp s (fun s =>
    if pair then (if (s.safPair n).extDrive then (s.updSafPair n (fun x => { x with extDrive := false })).safEval else s)
    else if (s.dioCh n).conds.contains 1 && !s.dioDrive n then
      ((s.setCond n 1 false).updDio n (fun c => { c with rb := false })).writeReadback n
    else s)

/-- CHANNEL_UNLATCH (R283): takes effect at the channel's next release instant. -/
def execChannelUnlatch (who : Who) (ch : Fin 32) (s : State) : Res :=
  request s who engineer (fun s => (s.updDio ch (fun c => { c with unlatch := true })).okAns)

/-- DIO_UNLATCH (R283, Table 10-5): bit n unlatches channel n at its next release. -/
def execDioUnlatch (agent : Agent) (mask : Nat) (s : State) : Res :=
  whenUp s (fun s =>
    match agent with
    | _ => s.each ((upto 32).filter (bitOf mask)) (fun s n => s.updDio n (fun c => { c with unlatch := true })))

/-- A step of a pattern table (Legend 0x60300 + p): offset in µs and state. -/
def State.patternStep (s : State) (p i : Nat) : Nat × Nat :=
  let rec_ := s.el (0x60300 + p) 1 0
  (field rec_ (64 * i + 31) (64 * i), field rec_ (64 * i + 63) (64 * i + 32))

/-- Steps of a pattern table. -/
def State.patternCount (s : State) (p : Nat) : Nat := min (s.el (0x60300 + p) 0 0) 32

/-- Apply one step: the masked channels in MODE 4 take the step's state, if the stages accept it. -/
def State.applyPattern (s : State) (mask st : Nat) : State :=
  s.each (upto 32) (fun s n => if bitOf mask n && s.dioMode n == 4 then s.releaseDio n (bitOf st n) else s)

/-- The due step that comes first: earliest instant, then lowest slot, so that the later step and the higher slot stand. -/
def State.firstDue (s : State) : List PatternRun → Option (MTime × PatternRun)
  | [] => none
  | r :: rs =>
    let t : MTime := r.at_ + (s.patternStep r.table r.next).1 * 1000
    let rest := s.firstDue rs
    if s.now < t then rest
    else match rest with
      | none => some (t, r)
      | some (u, q) => if t < u || (t = u && r.slot < q.slot) then some (t, r) else some (u, q)

/-- Apply the due steps in order; a run that has taken its last step ends. -/
def State.patternRun : Nat → State → State
  | 0, s => s
  | k + 1, s =>
    match s.firstDue s.dio.runs with
    | none => s
    | some (_, r) =>
      let s := s.applyPattern r.mask (s.patternStep r.table r.next).2
      let upd := s.dio.runs.filterMap (fun q =>
        if q = r then (if r.next + 1 < s.patternCount r.table then some { r with next := r.next + 1 } else none) else some q)
      State.patternRun k { s with dio := { s.dio with runs := upd } }

/-- PATTERN_STEP (R285): every step that is due is applied. -/
def execPatternStep (s : State) : Res := whenUp s (fun s => s.patternRun (32 * s.dio.runs.length))

end Sys2Proof.Machine
end

