-- ==== Sys2Proof/Machine/WptOps.lean ====
section
/-!
DEFINITION. Waypoint slots: what a write checks, staging, firing and the re-anchoring at a step (R113 to R118).
-/
namespace Sys2Proof.Machine

/-! ## Writing a slot (R115) -/

/-- The action, target and argument of a record are in range and name a configured target (Table 04-7). Frame descriptors are
firmware's own: none is configured for a program or host. -/
def State.targetOk (s : State) (r : WptRec) : Bool :=
  match r.action with
  | 0 => true
  | 1 => s.inGroupUsed r.target && r.arg == 0
  | 2 => s.outGroupUsed r.target && r.arg == 0
  | 3 => r.target < 256 && s.groupOn r.target && r.arg == 0
  | 4 => r.target < 128 && r.arg < 4 && s.objSend r.arg r.target
  | 5 => r.target < 64 && s.el (0x60300 + r.target) 0 0 != 0 && r.arg < 2 ^ 32
  | 8 => r.target < 256 && (s.queue r.target).depth != 0
  | _ => false

/-- PERIOD: one-shot, or 10 µs to 100 s. -/
def periodOk (p : Nat) : Bool := p == 0 || (10000 ≤ p && p ≤ 100000000000)

/-- The slot is enabled and its instant is less than 5 µs away. -/
def State.slotStaged (s : State) (n : Nat) : Bool := (s.slot n).enable && decide ((s.slot n).instant < s.now + 5000)

/-- Why a write to a slot by a program or host is refused, if it is (R115). -/
def State.slotFault (s : State) (n : Nat) (r : WptRec) : Option Status :=
  if n < 384 then some .protected_
  else if !periodOk r.period || !s.targetOk r || 65536 ≤ r.count then some .invalid
  else if s.slotStaged n then some .staged
  else if r.enable && decide (r.instant < s.now + 5000) then some .tooLate
  else none

/-- Write a slot: the read-only fields keep their values. -/
def State.writeSlot (s : State) (n : Nat) (r : WptRec) : State :=
  let old := s.slot n
  let s := s.setSlot n { r with suppressed := old.suppressed, unsync := old.unsync, late := old.late, fired := old.fired, missed := old.missed }
  let bases := if r.enable && r.period != 0 then Table.put s.wpt.bases n r.instant else Table.erase s.wpt.bases n
  { s with wpt := { s.wpt with bases := bases, staged := s.wpt.staged.filter (· != n), lates := s.wpt.lates.filter (· != n) } }

/-- A write and its answer. -/
def State.reqSlot (s : State) (n : Nat) (r : WptRec) : Ans × State :=
  match s.slotFault n r with
  | some st => ({ status := st }, s)
  | none => (ansOk, s.writeSlot n r)

/-! ## Firing (R116 to R118) -/

/-- The mode holds the target of an action (R118, Table 02-2). -/
def suppresses (m : Mode) (a : Nat) : Bool :=
  match m with
  | .blank | .witness => a != 0
  | .stop | .safe | .service => a == 2 || a == 3 || a == 5 || a == 7
  | .standby => 1 ≤ a && a ≤ 7
  | .hold => a == 2 || a == 7
  | .run => false

/-- Action 2: the values handed over by the tasks of an output group are released. -/
def State.releaseGroup (s : State) (n : Nat) : State :=
  s.each (s.tasks.filter (fun t => (s.taskRec t).outGroup == n)) (fun s t =>
    let l := (s.taskRun t).handed.flatMap (·.outs)
    let s := s.updTask t (fun x => { x with handed := [] })
    s.each l State.releaseTaskOut)

/-- Perform an action with its instant. -/
def State.act (s : State) (n : Nat) (r : WptRec) (i : MTime) : State :=
  match r.action with
  | 1 => s.latchGroup r.target
  | 2 => s.releaseGroup r.target
  | 3 => if s.startOk i then s.startGroup r.target i else s.latchGroup (s.el (0x30100 + r.target) 3 0xFFFF)
  | 4 => s.placeObj r.arg r.target
  | 5 =>
    if s.el (0x60300 + r.target) 0 0 = 0 then s
    else { s with dio := { s.dio with runs := s.dio.runs ++ [{ table := r.target, mask := r.arg, slot := n, at_ := i }] } }
  | 6 => s.send (.ring 5 r.target i s.red.cur.claim false [(r.arg, 0)])
  | 7 => s.startTask r.target i
  | 8 => (s.pushQueue r.target (leBytes 8 (i64 i) ++ leBytes 4 r.arg)).2
  | _ => s

/-- What a suppressed firmware slot still does: a stopping group takes its last sample, inputs are latched for other readers,
and in HOLD the ring goes on. -/
def State.actSuppressed (s : State) (r : WptRec) (i : MTime) : State :=
  match s.mode.mode, r.action with
  | .stop, 3 => if s.awaitsGroup r.target then s.startGroup r.target i else s.latchGroup (s.el (0x30100 + r.target) 3 0xFFFF)
  | .stop, 7 | .hold, 7 | .safe, 7 => s.startTask r.target i
  | .safe, 3 => s.latchGroup (s.el (0x30100 + r.target) 3 0xFFFF)
  | _, _ => s

/-- The slot after a firing (R116): FIRED, COUNT, ENABLE and the series. -/
def afterFiring (r : WptRec) : WptRec :=
  let r := { r with fired := (r.fired + 1) % 65536 }
  if r.period = 0 then { r with enable := false }
  else
    let ends := r.count == 1
    let r := { r with count := r.count - 1, enable := !ends }
    if ends then r else { r with instant := r.instant + r.period }

/-- Waypoint instants were missed (event 0x4011). -/
def State.missInstants (s : State) (n k : Nat) : State :=
  if k = 0 then s
  else
    let s := s.setSlot n { s.slot n with missed := satAdd 16 (s.slot n).missed k }
    (({ s with wpt := { s.wpt with pend := setBit s.wpt.pend 1 true, last := n } } : State)).evRep 0x4011 0 [n, k]

/-- Stage a slot: UNSYNC says whether the state was LOCKED (R117, R118). -/
def State.stageSlot (s : State) (n : Nat) : State :=
  if s.wpt.staged.contains n then s
  else
    let s := s.setSlot n { s.slot n with unsync := decide (s.mer.state ≠ .locked) }
    { s with wpt := { s.wpt with staged := s.wpt.staged ++ [n] } }

/-- Fire one slot at its instant. -/
def State.fireSlot (s : State) (n : Nat) : State :=
  let s := s.stageSlot n
  let r := s.slot n
  let i := r.instant
  let late := s.wpt.lates.contains n
  let supp := suppresses s.mode.mode r.action
  let skip := r.skipUnsync && r.unsync
  let s := s.setSlot n (afterFiring { r with suppressed := supp, late := late })
  let s : State := { s with wpt := { s.wpt with bases := Table.erase s.wpt.bases n, staged := s.wpt.staged.filter (· != n), lates := s.wpt.lates.filter (· != n) } }
  let s := if late then
      ({ s with wpt := { s.wpt with pend := setBit s.wpt.pend 0 true, last := n } } : State).ev 0x4012 [n]
    else s
  if skip then s.missInstants n 1
  else if supp then s.actSuppressed r i
  else s.act n r i

/-- Order of slots that fire together: instant, latching actions first, action code, slot. -/
def fireKey (n : Nat) (r : WptRec) : Int × Nat × Nat × Nat :=
  (r.instant, (if r.action == 1 || r.action == 3 || r.action == 7 then 0 else 1), r.action, n)

/-- One key comes before another. -/
def keyLt (a b : Int × Nat × Nat × Nat) : Bool :=
  decide (a.1 < b.1) || (a.1 == b.1 && (decide (a.2.1 < b.2.1) || (a.2.1 == b.2.1 && (decide (a.2.2.1 < b.2.2.1)
    || (a.2.2.1 == b.2.2.1 && decide (a.2.2.2 < b.2.2.2))))))

/-- Insert a slot in firing order. -/
def insertFire (x : Nat × WptRec) : List (Nat × WptRec) → List (Nat × WptRec)
  | [] => [x]
  | y :: ys => if keyLt (fireKey x.1 x.2) (fireKey y.1 y.2) then x :: y :: ys else y :: insertFire x ys

/-- The slots that are due, in firing order. -/
def State.dueSlots (s : State) : List Nat :=
  ((s.wpt.slots.filter (fun x => x.2.enable && decide (x.2.instant ≤ s.now))).foldr insertFire []).map (·.1)

/-! ## Steps (R116) -/

/-- Re-anchor a slot at a step: a passed one-shot fires LATE at the step instant; a series goes on at its first instant at or
after the step instant + 5 µs, and a series that has not begun at its first
instant at the earliest. -/
def State.reanchor (s : State) (before : MTime) (n : Nat) : State :=
  let r := s.slot n
  if !r.enable then s
  else if r.period = 0 then
    if before ≤ r.instant && r.instant < s.now then
      let s := s.setSlot n { r with instant := s.now }
      { s with wpt := { s.wpt with lates := s.wpt.lates ++ [n] } }
    else s
  else
    let soon := s.now + 5000
    let t := match Table.find s.wpt.bases n with | some b => max soon b | none => soon
    let i := t + (r.instant - t) % (r.period : Int)
    (s.setSlot n { r with instant := i }).missInstants n (Int.fdiv (i - r.instant) r.period).toNat

end Sys2Proof.Machine
end

