-- ==== Sys2Proof/Machine/MerOps.lean ====
section
/-!
DEFINITION. Meridian: the servo, the states, steps, and the choice of a master (R92 to R103, R106, R108, R109).
-/
namespace Sys2Proof.Machine

/-! ## Timestamps (R104), in 2⁻¹⁶ ns -/

/-- M now. -/
def State.m16 (s : State) : Int := Int.fdiv s.mExact 33554432
/-- The timestamps of a message that crosses a port now. -/
def State.ingress (s : State) (p : Nat) : Int := s.m16 - (s.mer.port p).inLat
def State.egress (s : State) (p : Nat) : Int := s.m16 + (s.mer.port p).egLat

/-! ## Frequency and slew (R98) -/

/-- ρ_f over the points held: the ratio of master to raw counter, less one, in 2⁻⁴⁰. -/
def rhoOf (points : List (Int × Nat)) : Option Int :=
  match points.head?, points.getLast? with
  | some a, some b =>
    let raw : Int := ((a.2 : Int) - (b.2 : Int)) * 5 * 32768
    if raw ≤ 0 then none else some (roundHalfEven ((a.1 - b.1 - raw) * 2 ^ 40) raw)
  | _, _ => none

/-- ρ_f as it stands; with no estimate the present ρ stands. -/
def MeridianPart.rhoF (m : MeridianPart) : Int := (rhoOf m.points).getD m.rho

/-- The limit of the slew, 200 ppm. -/
def slewLimit : Int := 219902326

/-- The slew for an offset in 2⁻¹⁶ ns and τ in ms. -/
def slew (off tau : Int) : Int := clampI (roundHalfEven (-off * 2 ^ 40) (65536 * tau * 1000000)) (-slewLimit) slewLimit

/-- The range of ρ (R92). -/
def clampRho (r : Int) : Int := clampI r (-2147483648) 2147483647

/-- The mean ρ_f of the last 16 updates (HOLDOVER). -/
def meanRho (l : List Int) : Option Int := if l.isEmpty then none else some (roundHalfEven l.sum l.length)

/-! ## States -/

/-- Enter a state, with its events. -/
def State.enterM (s : State) (m : MState) : State :=
  let old := s.mer.state
  if old = m then s
  else
    let s : State := { s with mer := { s.mer with state := m, within := 0, beyond := 0 } }
    let s := if m = .locked then s.ev 0x4005 [] else s
    let s := if old = .locked then s.ev 0x4006 [m.code] else s
    let s := if old = .broken then s.ev 0x4003 [(s.mer.raw - s.mer.breakAt) * 5 / 2] else s
    if m = .broken then
      ({ s with mer := { s.mer with breaks := s.mer.breaks + 1, breakAt := s.mer.raw } } : State).ev 0x4002 [i64 s.mer.lastOffset]
    else s

/-- Decide a step, taken at the first multiple of 400,000 raw counts at least 400,000 ahead (R97). -/
def State.planStep (s : State) (delta : Int) (code : Nat) : State :=
  { s with mer := { s.mer with plan := some { delta := delta, atRaw := ceilDiv (s.mer.raw + 400000) 400000 * 400000, code := code } } }

/-- The Sync interval of the master, in raw counts. -/
def State.syncTicks (s : State) : Nat :=
  let l := s.mer.syncLog
  if l < 0 then 400000000 / 2 ^ (-l).toNat else 400000000 * 2 ^ l.toNat

/-- Half a microsecond limits of Table 04-1, in 2⁻¹⁶ ns. -/
def ns16 (n : Nat) : Int := (n * 65536 : Nat)

/-- The servo's new ρ, with continuity (R92, R98). -/
def State.servo (s : State) (off : Int) : State :=
  let r := clampRho (s.mer.rhoF + slew off (s.el 0x40004 0 2000))
  { s with mer := s.mer.setRho r }

/-- A valid measurement after the first step, no step pending (Table 04-1, R99). -/
def State.track (s : State) (off : Int) : State :=
  let big := decide (ns16 1000000 < (off.natAbs : Int))
  let was := s.mer.state
  let s := if big then s.enterM .broken
    else match was with
      | .locked =>
        let n := if ns16 50 < (off.natAbs : Int) then s.mer.beyond + 1 else 0
        if ns16 1000 < (off.natAbs : Int) || 3 ≤ n then s.enterM .tracking else { s with mer := { s.mer with beyond := n } }
      | .tracking =>
        let n := if (off.natAbs : Int) ≤ ns16 20 then s.mer.within + 1 else 0
        if 8 ≤ n then s.enterM .locked else { s with mer := { s.mer with within := n } }
      | _ => s.enterM .tracking
  let again := was = .broken && big && (s.mode.mode = .stop || s.mer.stepCmd)
  let s : State := { s with mer := { s.mer with stepCmd := false } }
  let s := s.servo off
  if again then s.planStep (-(roundHalfEven off 65536)) 0x4004 else s

/-- A valid measurement (R96 to R99): offset and master time in 2⁻¹⁶ ns. -/
def State.measure (s : State) (off master : Int) : State :=
  let m := s.mer
  let stale := s.elapsed m.lastMeas (3 * s.syncTicks)
  let restart := m.state = .acquiring && stale && m.plan.isNone
  let points := ((master, m.raw) :: (if restart then [] else m.points)).take 9
  let m := { m with points := points, lastMeas := m.raw, lastOffset := roundHalfEven off 65536, count := if restart then [] else m.count }
  let m := { m with rhoFs := (match rhoOf points with | some r => (r :: m.rhoFs).take 16 | none => m.rhoFs) }
  let s : State := { s with mer := m }
  if m.plan.isSome then s
  else match m.state with
    | .free => ({ s with mer := { s.mer with count := [off] } } : State).enterM .acquiring
    | .acquiring =>
      let c := off :: m.count
      let s : State := { s with mer := { s.mer with count := c } }
      if 4 ≤ c.length then s.planStep (-(roundHalfEven c.sum (65536 * c.length))) 0x4001 else s
    | _ => s.track off

/-- HOLDOVER is entered (R96, R98). -/
def State.holdover (s : State) : State :=
  match s.mer.state with
  | .tracking | .locked | .broken =>
    if s.mer.plan.isSome then s
    else
      let s := s.enterM .holdover
      let s : State := { s with mer := { s.mer with holdSince := s.mer.raw, holdReported := false } }
      { s with mer := s.mer.setRho (clampRho ((meanRho s.mer.rhoFs).getD s.mer.rho)) }
  | _ => s

/-- PTPSCALE, UTCVALID, LEAP and the UTC offset as the selected grandmaster announces them (Table 04-2). -/
def State.noteScale (s : State) : State :=
  match s.mer.master.bind (fun k => (Table.get s.mer.sources {} k).announce) with
  | some a => { s with mer := { s.mer with ptpScale := a.ptpTimescale && s.mer.stepped, utcValid := a.utcValid, utcOffset := a.utcOffset, leap := a.leap } }
  | none => if s.mer.plantMaster then { s with mer := { s.mer with ptpScale := false, utcValid := false, leap := false } } else s

/-- The step instant (R97, R99, R100, R116). -/
def State.takeStep (s : State) (p : StepPlan) : State :=
  let before := s.now
  let m := s.mer.setRho (clampRho s.mer.rhoF)
  let s : State := { s with mer := { m with offset := m.offset + p.delta * 4294967296, plan := none, steps := m.steps + 1, stepped := true, stepGo := false } }
  let s := s.ev p.code [i64 p.delta]
  let s := (s.enterM .tracking).noteScale
  let s : State := { s with
    wpt := { s.wpt with staged := [] },
    tsk := { s.tsk with runs := s.tsk.runs.map (fun x => (x.1, { x.2 with stepped := true, stepDelta := x.2.stepDelta + p.delta })) } }
  s.each (s.wpt.slots.map (·.1)) (fun s n => s.reanchor before n)

/-! ## Masters (R108, R109) -/

/-- The module's own clock identity: its identity (log entry 22). -/
def State.ownClock (s : State) : Nat := s.sys.ident

/-- The key of a source on a port. -/
def sourceKey (source port : Nat) : Nat := source * 2 + port % 2

/-- The comparison of the best-master algorithm: the lower list is the better clock. -/
def announceKey (a : Announce) (k : Nat) : List Nat :=
  [a.priority1, a.clockClass, a.accuracy, a.variance, a.priority2, a.gm, a.stepsRemoved, k]

/-- Lexicographic order. -/
def listLt : List Nat → List Nat → Bool
  | x :: xs, y :: ys => x < y || (x == y && listLt xs ys)
  | _, _ => false

/-- The best of the sources. -/
def bestSource : List (Nat × Announce) → Option (Nat × Announce)
  | [] => none
  | x :: xs =>
    match bestSource xs with
    | some y => if listLt (announceKey y.2 y.1) (announceKey x.2 x.1) then some y else some x
    | none => some x

/-- The data set of the module as a master (R108). -/
def State.ownAnnounce (s : State) : Announce :=
  { gm := s.ownClock, priority1 := s.el 0x40002 4 250, clockClass := 248, accuracy := 0xFE, variance := 0xFFFF, priority2 := 128, stepsRemoved := 0,
    ptpTimescale := false, utcValid := false, utcOffset := 0, leap := false }

/-- A source takes part. -/
def State.trusted (s : State) (source : Nat) : Bool := !(Table.get s.mer.offenders {} source).untrusted

/-- Select the master: the best trusted source, or this module where it may be master and stands above it. -/
def State.selectMaster (s : State) : State :=
  let l := s.mer.sources.filterMap (fun x => match x.2.announce with
    | some a => if s.trusted (x.1 / 2) then some (x.1, a) else none
    | none => none)
  let own := s.elB 0x40002 3 false
  let best := bestSource l
  let pick : Option Nat × Bool × Option Nat := match best with
    | some (k, a) => if own && listLt (announceKey s.ownAnnounce 0) (announceKey a k) then (none, true, some s.ownClock) else (some k, false, some a.gm)
    | none => if own then (none, true, some s.ownClock) else (none, false, none)
  let changed := match pick.2.2 with | some g => s.mer.gm != some g | none => false
  let s : State := { s with mer := { s.mer with
    master := pick.1, plantMaster := pick.2.1, gm := match pick.2.2 with | some g => some g | none => s.mer.gm } }
  let s := if changed then s.ev 0x4008 [s.mer.gm.getD 0] else s
  s.noteScale

/-- A protocol violation of a source (R109). -/
def State.violation (s : State) (source : Nat) : State :=
  let o := Table.get s.mer.offenders {} source
  let l := s.mer.raw :: o.violations.filter (fun t => !s.elapsed t (ticksMs 60000))
  let marks := 16 ≤ l.length && !o.untrusted
  let s : State := { s with mer := { s.mer with
    violations := satInc 32 s.mer.violations, untrusted := if marks && !o.known then satInc 32 s.mer.untrusted else s.mer.untrusted,
    offenders := Table.set s.mer.offenders {} source { violations := l, untrusted := o.untrusted || marks, known := o.known || marks } } }
  let s := s.evRep 0x4009 0x0600 [source]
  if marks then (if o.known then s else s.evS 0x400A 0x0600 [source]).selectMaster else s

/-- The domain of a port (Table 04-3). -/
def State.ptpDomain (s : State) (p : Nat) : Nat :=
  if p < 2 then (if s.el 0x40002 0 0 = 2 then 0 else s.el 0x40002 1 0) else s.el 0x40003 0 0

/-- A received PTP message: an option not supported is counted, a violation noted, another domain ignored. A message of the
ring is the other member's to forward (R107); the module's own returns there and ends. -/
def State.ptpGuard (s : State) (h : PtpHead) (f : State → State) : State :=
  if !h.optionOk then { s with mer := { s.mer with unsupported := satInc 32 s.mer.unsupported } }
  else if 2 ≤ h.port.val && h.clock = s.ownClock then s
  else if !h.lengthOk || !h.versionOk || h.correction < 0 || 1000000000 < h.correction || h.clock = s.ownClock then s.violation h.source
  else if h.domain ≠ s.ptpDomain h.port then s
  else f s

/-- Forward a ring message through the other ring port (R107). -/
def State.forwardRing (s : State) (p kind seq : Nat) : State := s.send (.ptp (5 - p) kind seq s.now)

/-- A Sync with its times: corrected ingress t2 and origin t1, both in 2⁻¹⁶ ns. -/
def State.syncPair (s : State) (h : PtpHead) (t1 t2 : Int) : State :=
  let s : State := { s with mer := s.mer.updPort h.port (fun p => { p with t1 := t1, t2 := t2 }) }
  let p := s.mer.port h.port
  if s.mer.master = some (sourceKey h.source h.port) then
    match p.delay with
    | some d => s.measure (t2 - t1 - d - p.asym) (t1 + d + p.asym)
    | none => s
  else s

end Sys2Proof.Machine
end

