-- ==== Sys2Proof/Machine/Meridian.lean ====
section
/-!
DEFINITION. The meanings of Meridian's and the Waypoints' commands (chapter 4).
-/
namespace Sys2Proof.Machine

/-! ## PTP (R96, R104 to R109) -/

/-- PTP_SYNC_RECEIVED (R96, R104): a one-step Sync carries its origin; a two-step one waits for its Follow_Up. -/
def execPtpSyncReceived (head : PtpHead) (origin : Option MTime) (logInterval : Int) (s : State) : Res :=
  whenUp s (fun s => s.ptpGuard head (fun s =>
    if 2 ≤ head.port.val then s.forwardRing head.port 0 head.seq
    else
      let t2 := s.ingress head.port - head.correction * 65536
      let s : State := if s.mer.master = some (sourceKey head.source head.port) then
          { s with mer := { s.mer with syncLog := clampI logInterval (-7) 1 } } else s
      match origin with
      | some t => s.syncPair head (t * 65536) t2
      | none => { s with mer := s.mer.updPort head.port (fun p => { p with sync := some (head.seq, t2) }) }))

/-- PTP_FOLLOW_UP_RECEIVED (R96, R109). -/
def execPtpFollowUpReceived (head : PtpHead) (origin : MTime) (s : State) : Res :=
  whenUp s (fun s => s.ptpGuard head (fun s =>
    if 2 ≤ head.port.val then s.forwardRing head.port 8 head.seq
    else match (s.mer.port head.port).sync with
      | some (q, t2) =>
        if q = head.seq then
          let s : State := { s with mer := s.mer.updPort head.port (fun p => { p with sync := none }) }
          s.syncPair head (origin * 65536) (t2 - head.correction * 65536)
        else s.violation head.source
      | none => s.violation head.source))

/-- PTP_DELAY_RESPONSE_RECEIVED (R104, R109): the end-to-end response carries `ta`, the master's receipt; the peer response
`ta` and `tb`, the peer's receipt and its answer. -/
def execPtpDelayResponseReceived (head : PtpHead) (peer : Bool) (ta tb : MTime) (s : State) : Res :=
  whenUp s (fun s => s.ptpGuard head (fun s =>
    let p := s.mer.port head.port
    match p.req with
    | some (q, t3) =>
      if q ≠ head.seq then s.violation head.source
      else
        let c := head.correction * 65536
        let sum := if peer then (s.ingress head.port - t3) - (tb - ta) * 65536 - c else (p.t2 - p.t1) + (ta * 65536 - t3 - c)
        { s with mer := s.mer.updPort head.port (fun p => { p with req := none, delay := some (Int.fdiv sum 2) }) }
    | none => if 2 ≤ head.port.val then s.forwardRing head.port 9 head.seq else s.violation head.source))

/-- PTP_ANNOUNCE_RECEIVED (R108): on a plant port; the best-master algorithm is not run on the ring. -/
def execPtpAnnounceReceived (head : PtpHead) (ann : Announce) (s : State) : Res :=
  whenUp s (fun s => s.ptpGuard head (fun s =>
    if 2 ≤ head.port.val then s
    else
      let k := sourceKey head.source head.port
      ({ s with mer := { s.mer with
          sources := Table.put s.mer.sources k { announce := some ann, heard := s.mer.raw, clock := head.clock } } } : State).selectMaster))

/-- UNTRUSTED_SOURCE_EXPIRY (R109): 600 s after its last violation. -/
def execUntrustedSourceExpiry (source : Nat) (s : State) : Res :=
  whenUp s (fun s =>
    let o := Table.get s.mer.offenders {} source
    let last := o.violations.headD 0
    if o.untrusted && s.elapsed last (ticksMs 600000) then
      ({ s with mer := { s.mer with offenders := Table.put s.mer.offenders source { known := true } } } : State).selectMaster
    else s)

/-- SYNC_TIMEOUT (R96): three Sync intervals without a valid measurement. -/
def execSyncTimeout (s : State) : Res :=
  whenUp s (fun s =>
    if !s.elapsed s.mer.lastMeas (3 * s.syncTicks) || s.mer.plan.isSome then s
    else match s.mer.state with
      | .acquiring => { s with mer := { s.mer with count := [], points := [] } }
      | _ => s.holdover)

/-- The Announce interval: 1 s under 802.1AS, else 2 s (log entry 23). -/
def State.announceTicks (s : State) : Nat := if s.el 0x40002 0 0 = 2 then 400000000 else 800000000

/-- ANNOUNCE_RECEIPT_TIMEOUT (R96, R106): the master's Announce has been missing for three intervals. -/
def execAnnounceReceiptTimeout (s : State) : Res :=
  whenUp s (fun s =>
    match s.mer.master with
    | some k =>
      if s.elapsed (Table.get s.mer.sources {} k).heard (3 * s.announceTicks) then
        (({ s with mer := { s.mer with sources := Table.erase s.mer.sources k } } : State).selectMaster).holdover
      else s
    | none => s)

/-- HOLDOVER_LIMIT_EXCEEDED (R103). -/
def execHoldoverLimitExceeded (s : State) : Res :=
  whenUp s (fun s =>
    if s.mer.state = .holdover && !s.mer.holdReported && !s.synced then
      ({ s with mer := { s.mer with holdReported := true } } : State).ev 0x4007 []
    else s)

/-- PTP_DELAY_REQUEST_SEND (R96, R104, R106): end to end on the plant ports, peer to peer under 802.1AS and on the ring. -/
def execPtpDelayRequestSend (p : Port) (s : State) : Res :=
  whenUp s (fun s =>
    let q := ((s.mer.port p).reqSeq + 1) % 65536
    let kind := if 2 ≤ p.val || s.el 0x40002 0 0 = 2 then 2 else 1
    let s : State := { s with mer := s.mer.updPort p (fun x => { x with reqSeq := q, req := some (q, s.egress p) }) }
    s.send (.ptp p kind q s.now))

/-- A log interval in raw counts. -/
def logTicks (l : Int) : Nat := if l < 0 then 400000000 / 2 ^ (-l).toNat else 400000000 * 2 ^ l.toNat

/-- PLANT_MASTER_SYNC_SEND (R108): two-step Sync at the interval of Legend 0x40002.2. -/
def execPlantMasterSyncSend (p : Port) (s : State) : Res :=
  whenUp s (fun s =>
    let due := match Table.find s.mer.plantSyncAt p with | some t => s.elapsed t (logTicks (s.elI 8 0x40002 2 (-3))) | none => true
    if s.mer.plantMaster && p.val < 2 && due then
      let q := (s.mer.syncSeq + 1) % 65536
      let s : State := { s with mer := { s.mer with syncSeq := q, plantSyncAt := Table.put s.mer.plantSyncAt p s.mer.raw } }
      (s.send (.ptp p 0 q s.now)).send (.ptp p 8 q (Int.fdiv (s.egress p) 65536))
    else s)

/-- RING_SYNC_SEND (R107): the claim's holder sends Sync in both directions with one originTimestamp. -/
def execRingSyncSend (s : State) : Res :=
  whenUp s (fun s =>
    let due := match s.mer.ringSyncAt with | some t => s.elapsed t (logTicks (s.elI 8 0x40003 1 (-5))) | none => true
    if s.ownsClaim && !s.heads.isEmpty && due then
      let q := (s.mer.syncSeq + 1) % 65536
      let s : State := { s with mer := { s.mer with syncSeq := q, ringSyncAt := some s.mer.raw } }
      s.send (.ringSync s.now q)
    else s)

/-! ## Steps and captures -/

/-- MERIDIAN_STEP (R97, R99, R100): the step instant. -/
def execMeridianStep (s : State) : Res :=
  whenUp s (fun s =>
    match s.mer.plan with
    | some p => if p.atRaw ≤ s.mer.raw then s.takeStep p else s
    | none => s)

/-- Legend 0x40008.0: accepted in BREAK, with a Custodian token. -/
def State.reqStep (s : State) (who : Who) : Act :=
  if s.mode.lifeCycle = .retired || s.mer.state ≠ .broken then (s.ansState, s)
  else s.withToken who true (ea 0x40008 0) (fun s => (ansOk, { s with mer := { s.mer with stepCmd := true } }))

/-- STEP_ON_BREAK_COMMAND (R99). -/
def execStepOnBreakCommand (who : Who) (s : State) : Res := whenUp s (fun s => giveBoth (s.reqStep who))

/-- MER_CTRL.STEP_GO: MER_STEP is applied at the next step instant. -/
def State.stepGo (s : State) : State :=
  if s.mer.plan.isSome then s
  else ({ s with mer := { s.mer with stepGo := true } } : State).planStep s.mer.stepReg (if s.mer.stepped then 0x4004 else 0x4001)

/-- MER_STEP_GO (R97, Table 04-10). -/
def execMerStepGo (_agent : Agent) (s : State) : Res := whenUp s State.stepGo

/-- MER_CTRL.CAPTURE: RAW and M of one tick. -/
def State.capture (s : State) : State := { s with mer := { s.mer with capRaw := s.mer.raw, capNow := s.now, capDone := true } }

/-- MER_CAPTURE (R95). -/
def execMerCapture (_agent : Agent) (s : State) : Res := whenUp s State.capture

/-- OPERATING_SECOND_WRITE (R112): each completed second goes to MRAM, once the module has power and its recorder runs. -/
def execOperatingSecondWrite (s : State) : Res :=
  .next (if s.evr.ready && s.mer.opSecs < s.mer.opMs / 1000 then { s with mer := { s.mer with opSecs := s.mer.opMs / 1000 } } else s)

/-! ## Waypoints -/

/-- WAYPOINT_SLOT_WRITE (R115): by a host at Engineer privilege. -/
def execWaypointSlotWrite (who : Who) (slot : Fin 1024) (rec : WptRec) (s : State) : Res :=
  request s who engineer (fun s => giveBoth (s.reqSlot slot rec))

/-- WAYPOINT_STAGING (R117): from 4 µs before the slot's instant. -/
def execWaypointStaging (slot : Fin 1024) (s : State) : Res :=
  whenUp s (fun s => if (s.slot slot).enable && decide ((s.slot slot).instant ≤ s.now + 4000) then s.stageSlot slot else s)

/-- WAYPOINT_FIRE (R116 to R118): every slot whose instant M has reached. -/
def execWaypointFire (s : State) : Res := whenUp s (fun s => s.each s.dueSlots State.fireSlot)

end Sys2Proof.Machine
end

