-- ==== Sys2Proof/Machine/RegOps.lean ====
section
/-!
DEFINITION. Bus errors and write-protect refusals (R438, R439, R441, Table 18-3).
-/
namespace Sys2Proof.Machine

/-- Address of a register: its frame and offset (Table 18-1). -/
def regAddr (f o : Nat) : Nat := 0x40000000 + f * 0x1000 + o

/-- The bit-alias window (R442). -/
def inAlias (addr : Nat) : Bool := decide (0x42000000 ≤ addr) && decide (addr < 0x4A000000)

/-- Offset from 0x4000_0000 of the register an address reaches, its alias resolved. -/
def regOffset (addr : Nat) : Nat := if inAlias addr then (addr - 0x42000000) / 128 else addr - 0x40000000

/-- Cause, agent and address of the last bus error, and their count. -/
def RegPart.note (r : RegPart) (agent : Agent) (cause addr : Nat) (write : Bool) : RegPart :=
  { r with errCause := cause, errAgent := agent.code, errWrite := write, errAlias := inAlias addr, errAddr := addr, errCnt := satInc 32 r.errCnt }

/-- A failing access has no effect on any register; it is noted and recorded (R438). An ECC or TMR error is recorded where it
is found. -/
def State.busError (s : State) (agent : Agent) (cause addr : Nat) (write : Bool) : State :=
  let s : State := { s with sys := s.sys.note agent cause addr write }
  if cause = 4 then
    let o := regOffset addr
    let s : State := { s with sys := { s.sys with wpCnt := Table.upd s.sys.wpCnt 0 (o / 0x1000) (satInc 32) } }
    s.evRep 0xF001 0 [o / 0x1000, o % 0x1000, agent.code]
  else if cause = 5 || cause = 7 then s
  else s.evRep 0xF004 0 [cause, addr, agent.code]

/-- A refused write is noted; for the triad, at its commit, it raises the bus-error interrupt (R439). -/
def State.refuseWrite (s : State) (a : Agent) (addr : Nat) : State :=
  let s := s.busError a 4 addr true
  if a = .triad then { s with sys := { s.sys with busIrq := true } } else s

end Sys2Proof.Machine
end

