-- ==== Sys2Proof/Machine/Clocks.lean ====
section
/-!
DEFINITION. Clock sources, loops and the root (R413 to R422), memory errors, handover banks and tamper (R423 to R426).
-/
namespace Sys2Proof.Machine

/-! ## Sources (R416 to R419) -/

/-- Source s of CLK_SRCs_ERR: 0 fast RC, 1 slow RC, 2 XA, 3 XB, 4 CLKIN. -/
def ClockPart.source (c : ClockPart) : Nat → Source17
  | 0 => c.fastRc | 1 => c.slowRc | 2 => c.xa | 3 => c.xb | _ => c.clkin
def ClockPart.updSource (c : ClockPart) (n : Nat) (f : Source17 → Source17) : ClockPart :=
  match n with
  | 0 => { c with fastRc := f c.fastRc } | 1 => { c with slowRc := f c.slowRc } | 2 => { c with xa := f c.xa }
  | 3 => { c with xb := f c.xb } | _ => { c with clkin := f c.clkin }

def ClockPart.raise (c : ClockPart) (b : Nat) : ClockPart := { c with pend := setBit c.pend b true }

/-- The module holds itself in reset with FAULT asserted (Table 17-4); what is staged reaches MRAM first (R386). -/
def State.holdInReset (s : State) : State := ((s.stopRenewals.flushRecorder).lost).holdReset

/-- CLKIN is selected (CLK_CTRL.CLKIN_SEL, R413). -/
def ClockPart.clkinSel (c : ClockPart) : Bool := field c.ctrl 3 2 == 1 || field c.ctrl 3 2 == 2

/-- CLKIN may be chosen: selected, in tolerance and out of its window (R418). -/
def ClockPart.clkinUsable (c : ClockPart) : Bool := c.clkin.ok && c.clkinSel

/-- The monitors count the source: CLKIN where it is selected. -/
def ClockPart.monitored (c : ClockPart) (src : Nat) : Bool := src != 4 || c.clkinSel

/-- The loop that the root has left coasts at its lowest frequency and relocks (R419): loop A to XB after XA failed. -/
def ClockPart.leaveA (c : ClockPart) : ClockPart :=
  { c with aCoast := true, aLock := false, aRef := if c.xa.ok then 0 else 1 }

/-- A reference of loop A fails while the root is not on it: the loop coasts, and a return to it is given up (R419). -/
def ClockPart.loseRef (c : ClockPart) (ref : Nat) : ClockPart :=
  if c.aRef = ref then
    { c.leaveA with returnFrom := none, switching := if c.switching = some ref then none else c.switching }
  else c

/-- A root switch begins: to loop B on the fast RC or, that having failed, on CLKIN; with neither the module holds itself in
reset (Table 17-4, R418). -/
def State.toLoopB (s : State) : State :=
  let c := s.clk
  if c.fastRc.ok then { s with clk := { c with switching := some 2, returnFrom := none } }
  else if c.clkinUsable then { s with clk := { c with switching := some 3, returnFrom := none } }
  else s.holdInReset

/-- The reactions of Table 17-4 to a failed source, the root before it. -/
def State.sourceReaction (s : State) (src : Nat) : State :=
  let root := s.clk.root
  match src with
  | 0 =>
    if root = 2 || root = 4 || s.clk.switching = some 2 then
      let s := s.fault 0 0xD004 0 15 []
      if s.clk.clkinUsable then { s with clk := { s.clk with switching := some 3 } } else s.holdInReset
    else s.fault 0 0xD004 0 4 []
  | 1 => s.ev 0xD005 []
  | 2 =>
    let s := s.fault 0 0xD001 0 4 []
    if root = 0 then ({ s with clk := { s.clk with aLock := false } } : State).toLoopB
    else { s with clk := s.clk.loseRef 0 }
  | 3 =>
    if root = 1 then ({ s.fault 0 0xD002 0 4 [] with clk := { s.clk with aLock := false } } : State).toLoopB
    else ({ s with clk := s.clk.loseRef 1 } : State).ev 0xD002 []
  | _ => if root = 3 || s.clk.switching = some 3 then s.holdInReset else s

/-- A source has failed: it is no fallback any more, and a crystal or the fast RC raises the non-maskable event (R419). -/
def State.sourceFailed (s : State) (src : Nat) : State :=
  let c := (s.clk.updSource src (fun x => { x with ok := false, failed := true, running := false, window := false })).raise 0
  let c := if src = 0 || src = 2 || src = 3 then { c with nmi := true } else c
  ({ s with clk := c } : State).sourceReaction src

/-- The clock block runs: from the first step of start-up (R413). -/
def State.clocked (s : State) : Bool := match s.mode.phase with | .boot | .up | .pfail => true | _ => false

/-- CLOCK_SOURCE_FAILURE: a monitor charges a source, the fast RC and the crystals past their windows (R416 to R419). -/
def execClockSourceFailure (src : Fin 5) (err : Int) (s : State) : Res :=
  .next (if s.clocked && s.clk.monitored src && !(s.clk.source src).failed && !(s.clk.source src).window then
    ({ s with clk := s.clk.updSource src (fun x => { x with err := err }) } : State).sourceFailed src
  else s)

/-- CLOCK_STARTUP_WINDOW_END: 10 ms in tolerance; the source is in tolerance and may be chosen (R418). -/
def execClockStartupWindowEnd (src : Fin 5) (err : Int) (s : State) : Res :=
  .next (if s.clocked && (s.clk.source src).window && !(s.clk.source src).failed && 2 ≤ src.val && s.clk.monitored src then
    { s with clk := s.clk.updSource src (fun x => { x with running := true, ok := true, window := false, err := err }) }
  else s)

/-- CLOCK_STARTUP_TIMEOUT: a source still in its window 50 ms after its start has failed (R418). -/
def execClockStartupTimeout (src : Fin 5) (s : State) : Res :=
  .next (if s.clocked && (s.clk.source src).window && !(s.clk.source src).failed && 2 ≤ src.val && s.clk.monitored src then s.sourceFailed src else s)

/-! ## Loops and the root (R419 to R421) -/

/-- LOOP_LOCK_LOST: a loop loses lock while its reference is good (Table 17-4). Loop A may relock within the retries of R49. -/
def execLoopLockLost (loopB : Bool) (s : State) : Res :=
  .next (if !s.clocked then s
    else if loopB then
      if s.clk.bLock then ({ s with clk := { s.clk with bLock := false, bCoast := true } } : State).fault 0 0xD003 1 1 [1] else s
    else if !s.clk.aLock then s
    else
      let s : State := { s with clk := { s.clk with aLock := false } }
      let s := s.fault 0 0xD003 0 1 [0]
      let s := if s.retryFree 0 then s.countRetry 0
        else ({ s with clk := { s.clk with aStuck := true } } : State).retryLimit 0 0xD003 0
      if s.clk.root = 0 || s.clk.root = 1 then s.toLoopB else { s with clk := { s.clk with aCoast := true } })

/-- Rate of a root against XA, as a fraction with the denominator 10¹⁶: the ratios are in 0.01 ppm (R416, R421), that of CLKIN
against the fast RC. -/
def ClockPart.rate (c : ClockPart) : Nat → Int
  | 1 => (100000000 + c.ratioXb) * 100000000
  | 2 | 4 => (100000000 + c.ratioRc) * 100000000
  | 3 => (100000000 + c.ratioRc) * (100000000 + c.clkin.err)
  | _ => 10000000000000000

/-- ρ after the raw counter's rate changed from `old` to `new`: M keeps its rate (R421). -/
def rhoAcross (rho old new : Int) : Int :=
  clampI (roundHalfEven ((1099511627776 + rho) * old) (max new 1) - 1099511627776) (-2147483648) 2147483647

/-- ROOT_SWITCH_COMPLETE: the new root runs, Meridian takes the ratio in the tick of the switch, and the switch is recorded
(R419 to R421). The ticks lost are ticks the raw counter did not make. -/
def execRootSwitchComplete (lost : Fin 4) (dead : Bool) (xb rc clkin : Int) (s : State) : Res :=
  .next (match lost, s.clk.switching with
    | _, none => s
    | _, some new =>
      let c := s.clk
      let old := c.root
      let c : ClockPart := { c with ratioXb := xb, ratioRc := rc, clkin := { c.clkin with err := clkin } }
      let c : ClockPart := ({ c with root := new, switching := none, switches := satInc 32 c.switches } : ClockPart).raise 1
      let c := if (old = 0 || old = 1) && !(new = 0 || new = 1) then c.leaveA else c
      let c := if dead then ({ c with deadSw := satInc 32 c.deadSw } : ClockPart).raise 2 else c
      let s : State := { s with clk := c, mer := s.mer.setRho (rhoAcross s.mer.rho (c.rate old) (c.rate new)) }
      let s := s.ev 0xD006 [old, new]
      if dead then s.ev 0xD007 [] else s)

/-- The reference loop A relocks to is usable. -/
def ClockPart.aRefOk (c : ClockPart) : Bool := if c.aRef = 0 then c.xa.ok else c.xb.ok

/-- LOOP_RELOCK: loop A is in lock again, and the 1 ms after which the root returns begins (R419). -/
def execLoopRelock (s : State) : Res :=
  .next (if s.clocked && s.clk.aCoast && !s.clk.aStuck && s.clk.aRefOk then
    ({ s with clk := { s.clk with aCoast := false, aLock := true, returnFrom := some s.mer.raw } } : State).closeFault 0 0xD003 0
  else s)

/-- ROOT_RETURN_TO_LOOP_A: after 1 ms in lock the root returns (R419). -/
def execRootReturnToLoopA (s : State) : Res :=
  .next (match s.clk.returnFrom with
    | some t =>
      if s.clocked && s.clk.aLock && s.clk.switching.isNone && s.elapsed t (ticksMs 1) then
        { s with clk := { s.clk with switching := some s.clk.aRef, returnFrom := none } }
      else s
    | none => s)

/-- The reference the fast RC is trimmed against: 1 XA, 2 PTP, 3 CAN, 0 none (R422). -/
def State.trimRef (s : State) : Nat :=
  if s.clk.xa.ok then 1 else if s.synced then 2 else if bitOf s.clk.ctrl 6 then 3 else 0

/-- RC_TRIM_STEP: `step` in 0.01 ppm. While the root runs from the fast RC, no more than 10 ppm in a second, and each step is
handed to Meridian (R422, R421). -/
def execRcTrimStep (step : Int) (ref : Fin 3) (code : Nat) (s : State) : Res :=
  .next (
    let c := s.clk
    let onRc := c.root == 2 || c.root == 4
    let fresh := s.elapsed c.trimAt (ticksMs 1000)
    let used := (if fresh then 0 else c.trimUsed) + step.natAbs
    if !s.clocked || c.fastRc.failed || s.trimRef ≠ ref.val + 1 || (onRc && decide (1000 < used)) then s
    else
      let c : ClockPart := { c with trimCode := code % 2 ^ 20, trimRef := ref.val + 1 }
      if onRc then
        { s with clk := { c with trimUsed := used, trimAt := if fresh then s.mer.raw else c.trimAt },
                 mer := s.mer.setRho (rhoAcross s.mer.rho 100000000 (100000000 + step)) }
      else { s with clk := c })

/-! ## Memory errors (R423) -/

def MemPart.raise (m : MemPart) (b : Nat) : MemPart := { m with pend := setBit m.pend b true }

/-- A corrected error: written back and counted. -/
def State.eccCorrected (s : State) : EccSite → State
  | .sram b w =>
    let m : MemPart := { s.mem with sramCe := satInc 32 s.mem.sramCe, sramAddr := w % 65536 + b.val * 65536 }
    ({ s with mem := m.raise 0 } : State).evRep 0xD010 0 [b.val]
  | .dram _ =>
    ({ s with mem := ({ s.mem with dramCe := satInc 32 s.mem.dramCe } : MemPart).raise 0 } : State).evRep 0xD014 0 []

/-- What an uncorrectable error does where it lies: a Survey record reads BAD until its writer writes it, a loop enters HELD
with cause 2 and starts anew at its next sample. -/
def State.eccPlace (s : State) (addr : Nat) : State :=
  if addr < 16 * 0x80000 then
    let p := addr / 16
    { s with sur := { s.sur with image := Table.upd s.sur.image {} p (fun r => { r with quality := r.quality / 8 * 8 + qBad }) } }
  else if addr < 16 * 0x80000 + 4096 * 512 then
    s.updLoop ((addr - 16 * 0x80000) / 512) (fun x => { x with heldSet := setBit x.heldSet 2 true, modeAct := mHeld, transfer := true })
  else s

/-- Rung 1 lies in the Survey image, a loop record or a triad private bank. -/
def eccRung (addr : Nat) : Nat :=
  if addr < 16 * 0x80000 + 4096 * 512 then 1
  else if 24 * 0x80000 ≤ addr && addr < 36 * 0x80000 then 1
  else 3

/-- An uncorrectable error. A second one in the same word within 10 s calls for rung 3 wherever it lies. -/
def State.eccUncorrectable (s : State) : EccSite → State
  | .sram b w =>
    let addr := b.val * 0x80000 + w % 65536 * 8
    let again := match Table.find s.mem.lastUe addr with | some t => !s.elapsed t (ticksMs 10000) | none => false
    let m : MemPart := { s.mem with
      sramUe := satInc 32 s.mem.sramUe, sramAddr := w % 65536 + b.val * 65536 + 2 ^ 31,
      bad := if s.mem.bad.contains addr then s.mem.bad else addr :: s.mem.bad, lastUe := Table.put s.mem.lastUe addr s.mer.raw }
    (({ s with mem := m.raise 1 } : State).eccPlace addr).fault 0 0xD012 addr (if again then 3 else eccRung addr) [b.val, w % 65536]
  | .dram _ =>
    ({ s with mem := ({ s.mem with dramUe := satInc 32 s.mem.dramUe } : MemPart).raise 1 } : State).fault 0 0xD015 0 3 []

/-- ECC_SCRUB: a word read by the scrub, or by an access, shows an error (R423). -/
def execEccScrub (site : EccSite) (uncorrectable : Bool) (s : State) : Res :=
  .next (if !s.clocked then s else if uncorrectable then s.eccUncorrectable site else s.eccCorrected site)

/-! ## Handover banks (R425) and tamper (R426) -/

def MemPart.own (m : MemPart) : Nat → Owner
  | 0 => m.own0 | 1 => m.own1 | 2 => m.own2 | _ => m.own3
def MemPart.setOwn (m : MemPart) (k : Nat) (o : Owner) : MemPart :=
  match k with | 0 => { m with own0 := o } | 1 => { m with own1 := o } | 2 => { m with own2 := o } | _ => { m with own3 := o }

/-- A write of MEM_OWNk: by the owner it begins a transfer; by anyone else, and of bank 45's, it is refused as a write of a
locked register. -/
def State.writeOwn (s : State) (agent : Agent) (k v : Nat) : State :=
  if k = 1 || (s.mem.own k).owner ≠ agent.code then s.refuseWrite agent (regAddr 0x13 (0x20 + 4 * k))
  else { s with mem := s.mem.setOwn k { owner := v % 8, transferring := true } }

/-- MEM_OWN_WRITE (R425). -/
def execMemOwnWrite (agent : Agent) (k : Fin 4) (owner : Fin 8) (s : State) : Res := whenUp s (fun s => s.writeOwn agent k.val owner.val)

/-- OWNER_TRANSFER_COMPLETE (R425). -/
def execOwnerTransferComplete (k : Fin 4) (s : State) : Res :=
  whenUp s (fun s => { s with mem := s.mem.setOwn k.val { s.mem.own k.val with transferring := false } })

/-- TAMPER: the secure bank is zeroed, the signature unit refuses every operation until a warm reset, and a duty's renewals stop
(R426). -/
def execTamper (cause : Nat) (s : State) : Res :=
  .next (if s.clocked then
    let s : State := { s with mem := ({ s.mem with tamper := true, secureReady := false } : MemPart).raise 2 }
    s.stopRenewals.fault 0 0xD013 0 3 [cause]
  else s)

end Sys2Proof.Machine
end

