-- ==== Sys2Proof/Machine/Modes.lean ====
section
/-!
DEFINITION. The meanings of start-up, restore and the mode requests (R33 to R43, R145, R465).
-/
namespace Sys2Proof.Machine

/-! ## Start-up -/

/-- Step 1 of Table 02-5: the RC oscillators start, the stores charge, reset is held. -/
def State.stepOne (s : State) (ina inb cap : Nat) : State :=
  { s with
    mode := { s.mode with phase := .charging },
    clk := { s.clk with root := 4, fastRc := { running := true, ok := true, window := false }, slowRc := { running := true, ok := true, window := false } },
    pwr := { s.pwr with ina := ina, inb := inb, inaOk := decide (18000 ≤ ina), inbOk := decide (18000 ≤ inb), inaIso := false, inbIso := false,
                        holdMv := cap, pfail := false, fault := false },
    crt := { s.crt with fp := { s.crt.fp with fresh := true }, ext := { s.crt.ext with fresh := true } } }

/-- SUPPLY_REACHES_18V: T0 (R40, R454). -/
def execSupplyReaches18v (ina inb capMv : Nat) (s : State) : Res :=
  .next (if s.mode.phase = .off && s.pwr.inserted && (decide (18000 ≤ ina) || decide (18000 ≤ inb)) then s.stepOne ina inb capMv else s)

/-- RESET_RELEASE: steps 2 to 6 of Table 02-5 (R40, R41, R91, R112, R424, R431). -/
def execResetRelease (fuses : Fuses) (found : BootFind) (s : State) : Res :=
  .next (if s.mode.phase ≠ .charging then s else
    let s := s.lost
    let s : State := { s with pwr := { s.pwr with holdMv := max s.pwr.holdMv 38000, holdCap := found.holdCap, weak := decide (found.holdCap < 135) } }
    let s := s.fuseLoad fuses
    let s : State := { s with
      mer := { s.mer with pcyc := satInc 32 s.mer.pcyc },
      clk := { s.clk with xa := s.clk.xa.settled found.xa, xb := s.clk.xb.settled found.xb },
      mode := { s.mode with
        durations := found.durations.take 6,
        slotA := { s.mode.slotA with valid := s.mode.slotA.valid && found.slotA },
        slotB := { s.mode.slotB with valid := s.mode.slotB.valid && found.slotB } } }
    let s := if s.pwr.weak then s.fault 0 0xD024 0 15 [found.holdCap] else s
    let s := s.runBist found.bist
    if s.mem.bistPassed then s.bootSteps else s.holdReset)

/-- The mode of Table 02-6 is entered. -/
def State.restoreMode (s : State) (found : RestoreFind) : State :=
  if s.recovery then s.enterOff .service 0
  else if !s.mode.cfgHeld then
    let s := if s.mode.safeStored then s.ev 0x1014 [] else s
    s.enterOff .blank 0
  else if s.mode.safeStored then s.restoreSafe
  else if s.isWitness then s.enterWitness
  else match s.pairMember, found.partnerClaim with
    | true, some c =>
      let s : State := { s with red := { s.red with highest := c } }
      (s.enterOff .standby 0).notReady
    | _, _ =>
      let auto := decide (s.mode.lastReq = 2) && s.elB 0x10002 0 false
      let s := s.enterStop
      if !auto || s.mode.mode ≠ .stop then s
      else if s.syncCondition then s.runOrApply
      else { s with mode := { s.mode with autoWait := true } }

/-- MODE_RESTORE: steps 7 and 8 of Table 02-5 (R41, R42, R57, R259, R392, R398, R409). -/
def execModeRestore (found : RestoreFind) (s : State) : Res :=
  .next (if s.mode.phase ≠ .boot then s else
    let s := match found.torn with | some k => s.repairTorn k | none => s
    let s := if s.sur.forceCount = 0 then s
      else ({ s with sur := { s.sur with forceCount := 0 } } : State).ev 0xA823 [0xFFFFFFFF, s.sur.forceCount]
    let s := if s.mode.cfgHeld && !found.cfgOk then s.withoutConfig.ev 0x1005 [] else s
    let s := if s.crt.markState = 1 && s.crt.update.isNone then
        ({ s with crt := { s.crt with foundInterrupted := true, fp := { s.crt.fp with interrupted := s.crt.markPanel == 0 },
                                      ext := { s.crt.ext with interrupted := s.crt.markPanel == 1 } } } : State).evS 0xC001 0x0602
          [s.crt.markSeq, s.crt.markBand, s.crt.markKind]
      else s
    let s := s.settle
    let declared := bitOf s.crt.extCfg 0 || bitOf s.crt.extCfg 1
    let s : State := { s with crt := { s.crt with present := declared && found.panel } }
    let s := if declared && !found.panel then s.fault 0x0602 0xC004 0 2 [] else s
    let s := s.linksUp
    let s : State := { s with mode := { s.mode with phase := .up, durations := s.mode.durations.take 6 ++ found.durations.take 2 },
                              sys := { s.sys with armed := s.sealed_ },
                              leg := { s.leg with udpUp := true, canUp := true, lastBeat := s.mer.raw } }
    let s := s.restoreMode found
    let s := if found.partnerSetCrc.isSome then s.learnSet found.partnerSetCrc else s
    s.offer (s.stamp 0x1004 0 0 s.mode.durations))

/-- AUTOSTART_CONDITION_MET: the wait of R42 ends. -/
def execAutostartConditionMet (s : State) : Res :=
  whenUp s (fun s =>
    if s.mode.autoWait && decide (s.mode.mode = .stop) && s.syncCondition then
      ({ s with mode := { s.mode with autoWait := false } } : State).runOrApply
    else s)

/-! ## Requests -/

/-- MODE_REQUEST_BLANK (R35, R464). -/
def execModeRequestBlank (who : Who) (s : State) : Res := whenUp s (fun s => giveBoth (s.requestMode who .blank))

/-- MODE_REQUEST_STOP (R35, R36, R39). -/
def execModeRequestStop (who : Who) (s : State) : Res := whenUp s (fun s => giveBoth (s.requestMode who .stop))

/-- MODE_REQUEST_RUN (R35, R36, R465). -/
def execModeRequestRun (who : Who) (s : State) : Res := whenUp s (fun s => giveBoth (s.requestMode who .run))

/-- MODE_REQUEST_HOLD (R33, R35). -/
def execModeRequestHold (who : Who) (s : State) : Res := whenUp s (fun s => giveBoth (s.requestMode who .hold))

/-- MODE_REQUEST_RESUME (R35): a request to RUN, which in HOLD resumes. -/
def execModeRequestResume (who : Who) (s : State) : Res := whenUp s (fun s => giveBoth (s.requestMode who .run))

/-- MODE_REQUEST_SERVICE (R35, R36). -/
def execModeRequestService (who : Who) (s : State) : Res := whenUp s (fun s => giveBoth (s.requestMode who .service))

/-- MODE_REQUEST_WITNESS (R35). -/
def execModeRequestWitness (who : Who) (s : State) : Res := whenUp s (fun s => giveBoth (s.requestMode who .witness))

/-- SAFE_DEMAND (R38): the target code 6 of a mode request. -/
def execSafeDemand (who : Who) (s : State) : Res := whenUp s (fun s => giveBoth (s.requestMode who .safe))

/-- SAFE_TO_STOP_BOUNDARY: the acknowledge takes effect (R36). -/
def execSafeToStopBoundary (s : State) : Res :=
  whenUp s (fun s =>
    match s.mode.trans with
    | some t =>
      if t.frm = .safe && t.dest = .stop && (match t.until_ with | some i => decide (i ≤ s.now) | none => false) then
        ({ s with mode := { s.mode with trans := none } } : State).applyIdle
      else s
    | none => s)

/-- BREAKPOINT_HIT: a task that runs its cycle reaches an address of Legend 0x21210 to 0x21213 (R33, R145). Where HOLD is not
permitted, or the module is not in RUN, the program runs on. -/
def execBreakpointHit (task : Fin 16) (addr : Nat) (s : State) : Res :=
  whenUp s (fun s =>
    let set := [0x21210, 0x21211, 0x21212, 0x21213].any (fun e =>
      (Table.find s.elems (ea e 1)).isSome && s.el e 0 0 == task.val && s.el e 1 0 == addr)
    if s.mode.mode = .run && set && s.holdPermitted && (s.taskRun task).frozen then
      (s.setMode .hold 0).holdRun (some task)
    else s)

/-- HOLD_LIMIT_EXPIRED (R33). -/
def execHoldLimitExpired (s : State) : Res :=
  whenUp s (fun s =>
    let lim := s.el 0x10002 3 0
    if s.mode.mode = .hold && lim ≠ 0 && s.elapsed s.mode.holdSince (lim * 400000000) then
      ((s.setMode .run 0).resumeRun).ev 0x1006 []
    else s)

end Sys2Proof.Machine
end

