-- ==== Sys2Proof/Machine/Power.lean ====
section
/-!
DEFINITION. The supply inputs, the power-down sequence and the core set point (R428 to R433), insertion and removal (R454).
-/
namespace Sys2Proof.Machine

/-! ## Supply inputs (R428) -/

def PowerPart.raise (p : PowerPart) (b : Nat) : PowerPart := { p with pend := setBit p.pend b true }
def PowerPart.setInput (p : PowerPart) (input mv : Nat) (ok iso : Bool) : PowerPart :=
  if input = 0 then { p with ina := mv, inaOk := ok, inaIso := iso } else { p with inb := mv, inbOk := ok, inbIso := iso }
def PowerPart.ok (p : PowerPart) (input : Nat) : Bool := if input = 0 then p.inaOk else p.inbOk
def PowerPart.iso (p : PowerPart) (input : Nat) : Bool := if input = 0 then p.inaIso else p.inbIso

/-- A change of an input is pending for PWR_PEND, and recorded. -/
def State.inputChange (s : State) (p : PowerPart) (code input : Nat) : State := ({ s with pwr := p.raise 0 } : State).ev code [input]

/-- SUPPLY_INPUT_LOST: below 17.0 V for 1 ms. -/
def execSupplyInputLost (input : Fin 2) (mv : Nat) (s : State) : Res :=
  .next (if s.clocked && s.pwr.ok input.val && decide (mv < 17000) then
    s.inputChange (s.pwr.setInput input.val mv false (s.pwr.iso input.val)) 0xD021 input.val
  else s)

/-- SUPPLY_INPUT_RESTORED: at 18.0 V. -/
def execSupplyInputRestored (input : Fin 2) (mv : Nat) (s : State) : Res :=
  .next (if s.clocked && !s.pwr.ok input.val && decide (18000 ≤ mv) then
    s.inputChange (s.pwr.setInput input.val mv true (s.pwr.iso input.val)) 0xD022 input.val
  else s)

/-- SUPPLY_INPUT_OVERVOLTAGE: above 34 V for 100 µs the input is isolated. -/
def execSupplyInputOvervoltage (input : Fin 2) (mv : Nat) (s : State) : Res :=
  .next (if s.clocked && !s.pwr.iso input.val && decide (34000 < mv) then
    s.inputChange (s.pwr.setInput input.val mv (s.pwr.ok input.val) true) 0xD023 input.val
  else s)

/-- SUPPLY_INPUT_RECONNECT: an isolated input below 33 V. No event records it. -/
def execSupplyInputReconnect (input : Fin 2) (mv : Nat) (s : State) : Res :=
  .next (if s.clocked && s.pwr.iso input.val && decide (mv < 33000) then
    { s with pwr := (s.pwr.setInput input.val mv (s.pwr.ok input.val) false).raise 0 }
  else s)

/-! ## The power-down sequence (R432, Table 17-7) -/

/-- Steps 1 to 3: PFAIL stands, renewals stop, outputs go off, tasks, loops and services stop. A commit in progress still ends. -/
def State.powerDown (s : State) : State :=
  let s : State := { s with
    pwr := ({ s.pwr with pfail := true, pfails := satInc 32 s.pwr.pfails } : PowerPart).raise 1 }
  let s := s.ev 0xD020 [s.pwr.ina, s.pwr.inb]
  let s := s.stopRenewals.abortCyclic
  let s := s.setWatchdog none
  let s := s.each (upto 32) (fun s n => s.idleDio .blank n)
  let s := s.each (upto 8) (fun s n => s.idleAo .blank n)
  let s := s.each (upto 4) (fun s p => (s.updSafPair p (fun x => { x with permit := false })).drivePair p)
  { s with mode := { s.mode with phase := .pfail } }

/-- PFAIL: the combined input has fallen below 16.5 V for 20 µs. -/
def execPfail (s : State) : Res :=
  .next (match s.mode.phase with
    | .boot | .up => s.powerDown
    | .charging | .held => { s with mode := { s.mode with phase := .off } }
    | .off | .pfail => s)

/-- No part of the module has power: its output stages and its clocks stand still. -/
def State.unpowered (s : State) : State :=
  { s with
    mode := { s.mode with phase := .off },
    dio := { chans := s.dio.chans.map (fun x => (x.1, { raw := x.2.raw })) },
    aio := { z := s.aio.z, k := s.aio.k, ao := s.aio.ao.map (fun x => (x.1, { v := x.2.v })) },
    clk := { trimCode := s.clk.trimCode },
    pwr := { s.pwr with pfail := false, pcrq := false, fault := false, holdMv := 0 } }

/-- POWER_DOWN_RESET: operating seconds, staged events and outstanding merges are in MRAM by now (step 4), then reset is
asserted and the regulators switch off (step 5). -/
def execPowerDownReset (s : State) : Res :=
  .next (if s.mode.phase = .pfail then
    let s : State := { s with mer := { s.mer with opSecs := max s.mer.opSecs (s.mer.opMs / 1000) } }
    s.flushRecorder.lost.unpowered
  else s)

/-- SUPPLY_RETURN_RESTART: an input has been at 18 V or more for 10 ms after the sequence; start-up begins at step 1. -/
def execSupplyReturnRestart (ina inb : Nat) (s : State) : Res :=
  .next (if s.mode.phase = .off && s.pwr.inserted && (decide (18000 ≤ ina) || decide (18000 ≤ inb)) then s.stepOne ina inb s.pwr.holdMv
    else s)

/-! ## Insertion and removal (R454) -/

/-- MODULE_INSERTED: PRESENT low for 50 ms closes the input switches; start-up follows where an input stands at 18 V. -/
def execModuleInserted (s : State) : Res :=
  .next (if s.pwr.inserted then s else
    let s : State := { s with pwr := { s.pwr with inserted := true } }
    if s.mode.phase = .off && (decide (18000 ≤ s.pwr.ina) || decide (18000 ≤ s.pwr.inb)) then s.stepOne s.pwr.ina s.pwr.inb s.pwr.holdMv else s)

/-- MODULE_REMOVED: PRESENT opens, and the power-down sequence runs at once. -/
def execModuleRemoved (s : State) : Res :=
  .next (
    let s : State := { s with pwr := { s.pwr with inserted := false } }
    match s.mode.phase with
    | .boot | .up => s.powerDown
    | .charging | .held => { s with mode := { s.mode with phase := .off } }
    | .off | .pfail => s)

/-! ## Core supply (R430) -/

/-- A write of PWR_VCORE_SET: CODE 1 to 10 moves the core supply to 0.70 V + 10 mV × CODE; another value is ignored. -/
def State.setVcore (s : State) (v : Nat) : State :=
  let c := v % 16
  if 1 ≤ c && c ≤ 10 then { s with pwr := { s.pwr with code := c } } else s

/-- VCORE_SET_WRITE (R430). -/
def execVcoreSetWrite (agent : Agent) (code : Nat) (s : State) : Res :=
  whenUp s (fun s => match agent with | .triad | .cc0 | .cc1 => s.setVcore code)

end Sys2Proof.Machine
end

