-- ==== Sys2Proof/Machine/Cartouche.lean ====
section
/-!
DEFINITION. The Cartouche display (chapter 16): keys, updates of the panels, the reserve, temperature bands and pages.
-/
namespace Sys2Proof.Machine

/-! ## Frames (R400, R404) -/

/-- Bank 44. -/
def bank44 : Nat := 44 * 0x80000

/-- The external panel is a bistable one; an LCD (CRT_EXT_CFG.TYPE). -/
def State.extBistable (s : State) : Bool := s.crt.present && field s.crt.extCfg 1 0 == 1
def State.extLcd (s : State) : Bool := s.crt.present && field s.crt.extCfg 1 0 == 2

/-- Bytes of a row and rows of a panel: four pixels a byte on a bistable panel, one on an LCD. -/
def State.panelRow (s : State) (ext : Bool) : Nat :=
  if !ext then 100 else
    let w := field s.crt.extCfg 11 2
    if s.extLcd then w else ceilDiv w 4
def State.panelRows (s : State) (ext : Bool) : Nat := if ext then field s.crt.extCfg 21 12 else 300

/-- Bytes of a frame, at most what Table 16-2 gives it. -/
def State.frameSize (s : State) (ext : Bool) : Nat :=
  min (s.panelRow ext * s.panelRows ext) (if ext then (if s.extLcd then 130560 else 120000) else 30000)

/-- The memory from `base` up as a frame that starts at offset 0. -/
def Memory.cut (m : Memory) (base size : Nat) : Memory :=
  (m.filter (fun c => decide (base ≤ c.1) && decide (c.1 < base + size))).map (fun c => (c.1 - base, c.2))

/-- Offsets of Table 16-2. -/
def showAt (ext : Bool) : Nat := bank44 + if ext then 0x10000 else 0
def shownAt (ext : Bool) : Nat := bank44 + if ext then 0x30000 else 0x8000

/-- The frame to show, as it stands in bank 44. -/
def State.frameNow (s : State) (ext : Bool) : Memory := Memory.cut s.mem.data (showAt ext) (s.frameSize ext)

/-- Rows in which two frames differ. -/
def changedRows (row : Nat) (a b : Memory) : List Nat :=
  ((a ++ b).filter (fun c => Memory.read a c.1 != Memory.read b c.1)).map (fun c => c.1 / max row 1)

def minNat : List Nat → Nat
  | [] => 0
  | [x] => x
  | x :: l => min x (minNat l)
def maxNat (l : List Nat) : Nat := l.foldl max 0

/-- Write a frame into the memory at `base`. -/
def Memory.paste (m : Memory) (base size : Nat) (f : Memory) : Memory :=
  f.foldl (fun m c => Memory.write m (base + c.1) c.2) (m.wipe base (base + size))

/-! ## Updates (R401 to R404, R407 to R409) -/

def CartouchePart.panel (c : CartouchePart) (ext : Bool) : Panel := if ext then c.ext else c.fp
def CartouchePart.setPanel (c : CartouchePart) (ext : Bool) (p : Panel) : CartouchePart :=
  if ext then { c with ext := p } else { c with fp := p }
def CartouchePart.raise (c : CartouchePart) (b : Nat) : CartouchePart := { c with pend := setBit c.pend b true }

/-- The reserve stands at 4.2 V or more (R407). -/
def State.reserveOk (s : State) : Bool := decide (4200 ≤ s.crt.reserveMv)

/-- The module supply stands (R408). -/
def State.supplied (s : State) : Bool := decide (s.mode.phase ≠ .off) && decide (s.mode.phase ≠ .pfail) && !s.pwr.pfail

/-- An update of a bistable panel begins: the marker reads START, the band is latched, the controller takes bank 44 (R400 to
R402, R405, R409). -/
def State.startUpdate (s : State) (ext : Bool) : State :=
  let c := s.crt
  let p := c.panel ext
  let frame := s.frameNow ext
  let full := c.full || p.fresh || decide (20 ≤ p.changed) || decide (p.band ≠ c.band) || p.interrupted
  let rows := changedRows (s.panelRow ext) frame (if ext then c.shownExt else c.shownFp)
  let u : Update := {
    external := ext, full := full, band := c.band, at_ := s.mer.raw, frame := frame
    first := if full then 0 else minNat rows
    last := if full then s.panelRows ext - 1 else maxNat rows }
  let p : Panel := {
    changed := if full then 0 else p.changed + 1
    band := if full then c.band else p.band
    fresh := false, interrupted := false, held := false }
  let c : CartouchePart := { c with
    update := some u, full := false, banner := c.banner || (c.panel ext).interrupted,
    markSeq := (c.markSeq + 1) % 2 ^ 32, markState := 1, markPanel := ext.toNat, markBand := c.band, markKind := full.toNat,
    lastFp := if ext then c.lastFp else some s.mer.raw }
  { s with crt := c.setPanel ext p, mem := { s.mem with own0 := { owner := 4 } } }

/-- The update of an LCD: the rows that changed reach the scan memory, and the bank is back at once (R404). -/
def State.goLcd (s : State) : State :=
  let frame := s.frameNow true
  let rows := changedRows (s.panelRow true) frame s.crt.scan
  { s with crt := ({ s.crt with ext := { s.crt.ext with held := false }, scan := frame, lastFirst := minNat rows, lastLast := maxNat rows } : CartouchePart).raise 0 }

/-- Start the held update whose turn it is: the faceplate's first (R403, R407, R408). -/
def State.startHeld (s : State) : State :=
  if s.crt.update.isSome || !s.reserveOk || !s.supplied then s
  else if s.crt.fp.held then s.startUpdate false
  else if s.crt.ext.held && s.extBistable then s.startUpdate true
  else if s.crt.ext.held && s.extLcd then s.goLcd
  else s

/-- GO for a panel: an update starts or is held; a GO given while one is held merges into it (R403). -/
def State.goPanel (s : State) (ext : Bool) : State :=
  ({ s with crt := s.crt.setPanel ext { s.crt.panel ext with held := true } } : State).startHeld

/-- GO_EXT; without an external panel there is nothing to update. -/
def State.goExternal (s : State) : State :=
  if s.extLcd || s.extBistable then s.goPanel true else s

/-- GO_FP (R401, R403). -/
def execGoFp (_agent : Agent) (s : State) : Res := whenUp s (fun s => s.goPanel false)

/-- GO_EXT (R401, R403, R404). -/
def execGoExt (_agent : Agent) (s : State) : Res := whenUp s State.goExternal

/-! ## What keys do (R306, R399, R410) -/

/-- Give up the faceplate trim in progress. -/
def State.abandonTrim (s : State) : State :=
  match s.aio.plate with
  | none => s
  | some p =>
    let s : State := { s with aio := { s.aio with plate := none } }
    if p.channel < 8 then s
    else (s.updAo (p.channel - 8) (fun c => { c with test := 0, d4 := none, d20 := none })).driveAo (p.channel - 8) F64.zero

/-- SELECT in a faceplate trim (R306): choose a point, take its reading, apply. `point` is 0 with the channel chosen, 4 and 20
while a point is trimmed, 5 and 21 when it is done. -/
def State.trimSelect (s : State) (p : PlateTrim) : State :=
  let go (s : State) (pt entered : Nat) : State :=
    { s with aio := { s.aio with plate := some { p with point := pt, entered := entered, lastKey := s.mer.raw } } }
  let choose (pt : Nat) : State :=
    if p.channel < 8 then go s pt 0 else go (s.trimPoint p.channel pt none) pt (pt * 1000)
  let take (pt : Nat) : State := go (s.trimPoint p.channel pt (some (f64 p.entered 1000))) (pt + 1) p.entered
  if p.point = 0 then choose 4
  else if p.point = 4 then take 4
  else if p.point = 5 then choose 20
  else if p.point = 20 then take 20
  else
    let r := s.applyTrim p.channel 1
    if r.2 then { r.1 with aio := { r.1.aio with plate := none } } else s.abandonTrim

/-- Steps of one press of UP or DOWN: one, or, held, 20 a second for as long as it was held, which no command carries. -/
def State.keySteps (s : State) (long : Bool) : Nat × State :=
  if long then
    let d := s.draw
    (20 + (Config.random d.1).toNat % 65536, d.2)
  else (1, s)

/-- UP or DOWN in a faceplate trim set the entered meter reading of an output in 1 µA steps. -/
def State.trimStep (s : State) (p : PlateTrim) (up long : Bool) : State :=
  let k := s.keySteps long
  let e := if up then p.entered + k.1 else p.entered - k.1
  let e := if p.channel < 8 then p.entered else e
  { k.2 with aio := { k.2.aio with plate := some { p with entered := e, lastKey := s.mer.raw } } }

/-- Faceplate trimming is offered: SERVICE, and not SEALED (R306). -/
def State.plateAllowed (s : State) : Bool := decide (s.mode.mode = .service) && !s.sealed_

/-- What a key press does (R306, R409, R410). Pages are 0 STATUS, 1 EVENTS, 2 POINTS, 3 TRIM; on TRIM, UP and DOWN move along
the channels and a long SELECT takes the one shown (DESIGN CHOICE). -/
def State.actKey (s : State) (key : Nat) (long : Bool) : State :=
  let s : State := if key = 0 then { s with crt := { s.crt with banner := false } } else s
  match s.aio.plate with
  | some p =>
    if !s.plateAllowed then s.abandonTrim
    else if key = 0 then s.trimSelect p
    else s.trimStep p (key == 1) long
  | none =>
    let c := s.crt
    if key = 0 then
      if long then
        if c.page = 3 && s.plateAllowed then
          { s with aio := { s.aio with plate := some { channel := c.scroll % 16, lastKey := s.mer.raw } } }
        else s
      else
        let n := if s.mode.mode = .service then 4 else 3
        { s with crt := { c with page := (c.page + 1) % n, scroll := 0 } }
    else { s with crt := { c with scroll := if key = 1 then c.scroll - 1 else c.scroll + 1 } }

/-- Act on the presses read during an update, once it has ended (R399). -/
def State.actLate (s : State) : State :=
  s.crt.late.foldl (fun s k => s.actKey (k % 4) (bitOf k 2)) { s with crt := { s.crt with late := [] } }

/-- CARTOUCHE_UPDATE_END: the power-off phase ends; the shown frame equals the frame to show, DONE is written, the bank goes
back, and a held update starts (R400, R401, R403, R408, R409). The update runs on the reserve where the supply is lost. -/
def execCartoucheUpdateEnd (s : State) : Res :=
  .next (match s.crt.update with
    | none => s
    | some u =>
      let c := s.crt
      let c : CartouchePart := if u.external then { c with shownExt := u.frame } else { c with shownFp := u.frame }
      let c : CartouchePart := ({ c with update := none, markState := 2, lastFirst := u.first, lastLast := u.last } : CartouchePart).raise 0
      let data := if s.mode.phase = .off then s.mem.data
        else Memory.paste s.mem.data (shownAt u.external) (s.frameSize u.external) u.frame
      ({ s with crt := c, mem := { s.mem with data := data, own0 := { owner := 3 } } } : State).actLate.startHeld)

/-! ## The reserve (R406 to R408) -/

/-- RESERVE_READY: 4.2 V is reached, and a held update starts. In a module held in reset by a BIST failure the boot ROM draws
the failure display (R41, R410). -/
def execReserveReady (s : State) : Res :=
  .next (
    let s : State := { s with crt := { s.crt with reserveMv := max s.crt.reserveMv 4200 } }
    let s : State := if s.mode.phase = .held then { s with crt := { s.crt with fp := { s.crt.fp with held := true } } } else s
    s.startHeld)

/-- RESERVE_EXHAUSTED: at 3.0 V the waveform ends, phase 3 runs and no DONE is written (R408). -/
def execReserveExhausted (s : State) : Res :=
  .next (
    let s : State := { s with crt := { s.crt with reserveMv := min s.crt.reserveMv 3000 } }
    match s.crt.update with
    | none => s
    | some u =>
      let s : State := { s with
        crt := ({ s.crt with update := none } : CartouchePart).raise 2, mem := { s.mem with own0 := { owner := 3 } } }
      (s.evS 0xC003 0x0602 [u.external.toNat]).actLate)

/-- RESERVE_CAPACITY_TEST: below 0.38 F RES_WEAK is set and recorded (R406). The discharge of the test is one to 4.5 V. -/
def execReserveCapacityTest (mF : Nat) (s : State) : Res :=
  whenUp s (fun s =>
    let weak := decide (mF < 380)
    let s : State := { s with crt := { s.crt with capMf := mF % 65536, weak := weak } }
    if weak then s.evS 0xC002 0x0602 [mF] else s)

/-! ## Temperature (R405) -/

/-- Lower boundaries of bands 1 to 7, 0.1 °C (Table 16-3). -/
def bandBounds : List Int := [-250, -100, 0, 100, 250, 400, 600]

/-- The band at a temperature, from the band that stands: a boundary is passed upwards at its value and downwards 2 K below
it (DESIGN CHOICE: where the hysteresis lies). -/
def bandOf (band : Nat) (t : Int) : Nat :=
  let up := (bandBounds.filter (fun b => decide (b ≤ t))).length
  let down := (bandBounds.filter (fun b => decide (b - 20 ≤ t))).length
  if band < up then up else if down < band then down else band

/-- CARTOUCHE_TEMP_MEASURE. -/
def execCartoucheTempMeasure (temp : Int) (s : State) : Res :=
  whenUp s (fun s => { s with crt := { s.crt with temp := temp, band := bandOf s.crt.band temp } })

/-! ## Keys (R399, R410) -/

/-- KEY_PRESS: a press, reported at its release, enters the key queue; one that finds it full is dropped (R399). -/
def execKeyPress (key : Fin 3) (long : Bool) (s : State) : Res :=
  whenUp s (fun s =>
    if 8 ≤ s.crt.keys.length then s
    else { s with crt := ({ s.crt with keys := s.crt.keys ++ [key.val + bitAt long 2] } : CartouchePart).raise 1 })

/-- The pop of a read of CRT_KEY; CC1 acts on the press, during an update once that has ended (R399, Table 16-4). -/
def State.popKey (s : State) : State :=
  match s.crt.keys with
  | [] => s
  | k :: ks =>
    if s.crt.update.isSome then { s with crt := { s.crt with keys := ks, late := s.crt.late ++ [k] } }
    else ({ s with crt := { s.crt with keys := ks } } : State).actKey (k % 4) (bitOf k 2)

/-- CRT_KEY_READ: the read returns the oldest press, bit 31 valid, and pops it. -/
def execCrtKeyRead (agent : Agent) (s : State) : Res :=
  whenUp s (fun s => s.popKey.send (.busRead agent.code 0x4001101C (match s.crt.keys with | [] => 0 | k :: _ => k + 2 ^ 31)))

/-! ## Pages (R410, R412) -/

/-- PAGE_REFRESH: a shown item changed; the faceplate is updated at most once every 2 s. -/
def execPageRefresh (s : State) : Res :=
  whenUp s (fun s => if s.crt.lastFp.all (fun at_ => s.elapsed at_ (ticksMs 2000)) then s.goPanel false else s)

/-- Legend 0xC0003.0: both panels' next update is full, and each is updated. -/
def State.reqRedraw (who : Who) (s : State) : Act :=
  if who.level.val < operator then ({ status := .privilege, detail := operator }, s) else
  let s : State := { s with crt := { s.crt with fp := { s.crt.fp with fresh := true }, ext := { s.crt.ext with fresh := true } } }
  (ansOk, (s.goPanel false).goExternal)

/-- FULL_REDRAW (R412). -/
def execFullRedraw (who : Who) (s : State) : Res :=
  request s who operator (fun s => giveBoth (s.reqRedraw who))

end Sys2Proof.Machine
end

