-- ==== Sys2Proof/Machine/Claims.lean ====
section
/-!
DEFINITION. The claim unit, the output stages and the witness (R201 to R223, R465).
-/
namespace Sys2Proof.Machine

/-! ## Renewals (R203, R211, R213, R216) -/

/-- The permit is valid: refreshed within the last millisecond. -/
def State.permitted (s : State) : Bool := match s.red.permitAt with | some t => !s.elapsed t (ticksMs 1) | none => false

/-- A renewal goes out (R203): the claim is held, the permit valid, the claim not suspended, and the signature unit tags. -/
def State.renews (s : State) : Bool :=
  s.red.renewing && s.ownsClaim && s.permitted && !s.red.suspended && !s.mem.tamper

/-- The claim this module holds and its F: every RENEW carries the F of its CLAIM, as one tag serves both (R209). -/
def State.heldClaim (s : State) : Nat × MTime :=
  if s.red.cur.holder = s.modIndex then (s.red.cur.claim, s.red.heldF) else (s.red.highest, 0)

/-- The CLAIM a standalone module sends before its first renewal (R216). -/
def State.standaloneClaim (s : State) : State :=
  if s.pairMember || (s.red.cur.claim = 1 && s.red.cur.holder = s.modIndex) then s
  else
    let s : State := { s with red := { s.red with heldF := 0 } }
    let s := s.sendClaim 3 2 s.modIndex 1 0 0 0
    let s := if s.heads.isEmpty then s else s.sendClaim 0 2 s.modIndex 1 0 0 0
    s.stageClaim (s.ownClaimMsg 2 1 0)

/-- One renewal: to the own stages, the ring, the partner and the witness. -/
def State.renewOnce (s : State) : State :=
  let s := s.standaloneClaim
  let c := s.heldClaim
  let q := (s.red.seq + 1) % 2 ^ 32
  let s : State := { s with red := { s.red with seq := q, lastRenewM := s.now } }
  let s := s.sendClaim 3 1 s.modIndex c.1 c.2 q 0
  let s := if s.heads.isEmpty then s else s.sendClaim 0 1 s.modIndex c.1 c.2 q 0
  let s := if s.pairMember then (s.sendClaim 1 1 s.modIndex c.1 c.2 q 0).sendClaim 2 1 s.modIndex c.1 c.2 q 0 else s
  s.stageClaim (s.ownClaimMsg 1 c.1 c.2)

/-- CLAIM_RENEWAL_SEND (R203): every 2 µs. -/
def execClaimRenewalSend (s : State) : Res :=
  whenUp s (fun s =>
    let due := s.red.seq = 0 || decide (s.red.lastRenewM + 2000 ≤ s.now) || decide (s.now < s.red.lastRenewM)
    if s.renews && due then s.renewOnce else s)

/-- RED_PERMIT_REFRESH (R203, Table 18-13): other values have no effect. -/
def execRedPermitRefresh (agent : Agent) (value : Nat) (s : State) : Res :=
  whenUp s (fun s =>
    match agent with
    | .triad | .cc0 | .cc1 => if value = 0xC1A1 then { s with red := { s.red with permitAt := some s.mer.raw } } else s)

/-- RENEWAL_PERMIT_LAPSE (R203). -/
def execRenewalPermitLapse (s : State) : Res :=
  whenUp s (fun s => if s.red.permitAt.isSome && !s.permitted then { s with red := { s.red with permitAt := none } } else s)

/-- STAGE_CLAIM_RECEIVED (R210, Table 08-3). -/
def execStageClaimReceived (m : ClaimMsg) (s : State) : Res :=
  whenUp s (fun s => if (m.kind = 1 || m.kind = 2) && !s.isWitness then s.stageClaim m else s)

/-- STAGE_OUTPUT_VALUE_RECEIVED (R210, Table 08-3): what is accepted waits for its release instant. -/
def execStageOutputValueReceived (claim : Nat) (latch release : MTime) (outs : List OutVal) (s : State) : Res :=
  whenUp s (fun s =>
    let r := s.red
    let ok := (claim == r.cur.claim && decide (r.cur.f ≤ latch)) || (claim == r.prev.claim && decide (latch < r.cur.f))
    if ok then
      let l := outs.map (fun o => ({ chan := o.chan, value := o.value, ma := false, latch := latch, release := release } : StagedPreset))
      ({ s with red := { s.red with staged := s.red.staged ++ l } } : State).applyPresets
    else
      (({ s with red := { r with rejValue := satInc 32 r.rejValue } } : State)).rejectClaim false)

/-- OWN_RENEWAL_TIMEOUT (R211): a member's channels go off. -/
def execOwnRenewalTimeout (s : State) : Res :=
  whenUp s (fun s =>
    match s.red.ownRenew with
    | some t => if s.pairMember && s.elapsed t (ticksUs 4) then s.setWatchdog none else s
    | none => s)

/-! ## The partner's and the duty's side (R213, R214, R221, R224, R465) -/

/-- PARTNER_RENEW_RECEIVED (R213): answered with an ACK that carries the claim and says whether a request is outstanding. -/
def execPartnerRenewReceived (m : ClaimMsg) (s : State) : Res :=
  whenUp s (fun s =>
    if s.pairMember && m.kind = 1 && m.station = s.station && m.holder = s.partner then
      let s := s.sendClaim 1 4 m.holder m.claim m.f 0 s.red.request.isSome.toNat
      { s with red := { s.red with peerRenew := some s.mer.raw, lapse := false, seq := m.seq, lastRenewM := s.now,
                                   request := if s.red.lapse then none else s.red.request } }
    else s)

/-- CLAIM_SUSPENSION (R213): neither ECHO nor ACK for 4 µs. -/
def execClaimSuspension (s : State) : Res :=
  whenUp s (fun s =>
    let old (t : Option Nat) : Bool := match t with | some t => s.elapsed t (ticksUs 4) | none => true
    if s.pairMember && s.red.holds && s.red.renewing && !s.red.suspended && s.red.seq ≠ 0 && old s.red.lastEcho && old s.red.lastAck then
      (({ s with red := { s.red with suspended := true } } : State).redPend 1).fault 0 0x5004 0 1 []
    else s)

/-- A suspended duty renews the same claim again (R213). -/
def State.resumeClaim (s : State) : State :=
  (({ s with red := { s.red with suspended := false } } : State).closeFault 0 0x5004 0).ev 0x5005 []

/-- ECHO_RECEIVED (R213). -/
def execEchoReceived (m : ClaimMsg) (s : State) : Res :=
  whenUp s (fun s =>
    if s.pairMember && m.kind = 3 && m.station = s.station && m.holder = s.modIndex then
      let s : State := { s with red := { s.red with lastEcho := some s.mer.raw, witnessLost := false } }
      if s.red.suspended && bitOf m.info 0 then s.resumeClaim else s
    else s)

/-- ACK_RECEIVED (R213). -/
def execAckReceived (m : ClaimMsg) (s : State) : Res :=
  whenUp s (fun s =>
    if s.pairMember && m.kind = 4 && m.station = s.station then
      let s : State := { s with red := { s.red with lastAck := some s.mer.raw } }
      if s.red.suspended && m.claim = s.heldClaim.1 && !bitOf m.info 0 then s.resumeClaim else s
    else s)

/-- HIGHER_CLAIM_OBSERVED (R35, R213, R224, R465): a valid claim of the partner above every one this member has seen. A CLAIM
whose F is still to come acts at F. -/
def execHigherClaimObserved (m : ClaimMsg) (s : State) : Res :=
  whenUp s (fun s =>
    let own := if s.red.holds then s.heldClaim.1 else s.red.highest
    if !s.pairMember || !(m.kind == 1 || m.kind == 2) || m.station != s.station || m.holder != s.partner || !s.tagOk m || m.claim ≤ own then s
    else if m.f ≠ 0 && s.now < m.f then s
    else
      let s : State := { s with red := { s.red with highest := m.claim } }
      match s.mode.mode with
      | .run | .hold | .stop | .safe =>
        let s := if s.mode.applying then s.endApplication else s
        (s.ev 0x5003 []).enterStandby 0x5003
      | _ => { s with red := { s.red with holds := false, request := none } })

/-- STANDBY_SILENCE_DETECTED (R214): no renewal for 6 µs. A standby that is not ready only records the lapse. -/
def execStandbySilenceDetected (s : State) : Res :=
  whenUp s (fun s =>
    let silent := match s.red.peerRenew with | some t => s.elapsed t (ticksUs 6) | none => true
    if s.mode.mode = .standby && silent && !s.red.lapse then
      let s : State := { s with red := { s.red with lapse := true } }
      if s.red.ready then s.sendRequest (s.known + 1) 0 true else s
    else s)

/-- CLAIM_REQUEST_REPEAT (R214): every 10 µs while the lapse or the application lasts. -/
def execClaimRequestRepeat (s : State) : Res :=
  whenUp s (fun s =>
    match s.red.request with
    | some (c, f, t) =>
      if s.elapsed t (ticksUs 10) && (s.red.lapse || s.mode.applying || f ≠ 0) then
        s.sendRequest (if f = 0 then s.known + 1 else c) f (s.red.ready || s.mode.applying)
      else s
    | none => s)

/-- ENDORSE_RECEIVED (R221, R222, R465): of the request outstanding. -/
def execEndorseReceived (m : ClaimMsg) (s : State) : Res :=
  whenUp s (fun s =>
    match s.red.request with
    | some (c, f, _) =>
      if m.kind ≠ 6 || m.station ≠ s.station || m.holder ≠ s.modIndex || m.claim ≠ c || !s.tagOk m then s
      else if s.mode.applying then
        let s := s.endApplication
        let s := (s.holdClaim c 0)
        (s.setMode .run 0).startRun
      else if f ≠ 0 then
        if s.now ≤ f - 1000000 then
          let s : State := { s with red := { s.red with request := none, heldF := f, transfer := some { f := f, swap := decide (2 ≤ s.red.swap) } } }
          let s := s.sendClaim 3 2 s.modIndex c f 0 0
          let s := s.sendClaim 0 2 s.modIndex c f 0 0
          let s := s.sendClaim 1 2 s.modIndex c f 0 0
          s.stageClaim (s.ownClaimMsg 2 c f)
        else { s with red := { s.red with request := none } }
      else if s.mode.mode = .standby then s.takeDuty c s.now false
      else s
    | none => s)

/-- REFUSE_RECEIVED (R214, R465): the reasons of Table 08-6. A REFUSE carries E, so the member learns it (log entry 21). -/
def execRefuseReceived (m : ClaimMsg) (s : State) : Res :=
  whenUp s (fun s =>
    if m.kind ≠ 7 || m.station ≠ s.station || s.red.request.isNone then s
    else
      let s := s.evRep 0x5007 0 [m.info]
      if s.mode.applying && m.info = 1 then
        ({ s with red := { s.red with highest := max s.red.highest m.claim } } : State).applicationLost 0x5007
      else { s with red := { s.red with highest := max s.red.highest m.claim } })

/-- WITNESS_LOST (R218): no ECHO, but ACKs, for 4 µs. -/
def execWitnessLost (s : State) : Res :=
  whenUp s (fun s =>
    let old (t : Option Nat) : Bool := match t with | some t => s.elapsed t (ticksUs 4) | none => true
    if s.pairMember && s.red.holds && old s.red.lastEcho && !old s.red.lastAck && !s.red.witnessLost then
      ({ s with red := { s.red with witnessLost := true } } : State).ev 0x5006 []
    else s)

/-! ## The witness (R213 to R218) -/

def State.witStation (s : State) (i : Nat) : WitnessStation := Table.get s.wit.stations {} i
def State.updWit (s : State) (i : Nat) (f : WitnessStation → WitnessStation) : State :=
  { s with wit := { s.wit with stations := Table.upd s.wit.stations {} i f } }

/-- The record of the witness that serves a station. -/
def State.witIndex (s : State) (station : Nat) : Option Nat :=
  if s.mode.mode = .witness && station ≠ 0 then (upto 16).find? (fun i => s.el (0x50030 + i) 0 0 == station) else none

/-- A member of the station a record serves. -/
def State.witMember (s : State) (i idx : Nat) : Bool :=
  idx ≠ 0xFF && (s.el (0x50030 + i) 1 0xFF == idx || s.el (0x50030 + i) 2 0xFF == idx)

/-- The witness sends to a member, with a tag of the station's key where the kind carries one. -/
def State.witSend (s : State) (i dest kind station holder claim : Nat) (f : MTime) (seq info : Nat) : State :=
  let tag := if kind = 6 then claimTag (Table.get s.wit.keys 0 i) station holder claim f else 0
  if kind = 6 && s.mem.tamper then s else s.send (.claim (toMember dest) kind station holder claim f seq tag info)

/-- WITNESS_RENEW_RECEIVED (R213): an ECHO, with INFO 1 where the HOLDER holds the highest endorsed claim. -/
def execWitnessRenewReceived (m : ClaimMsg) (s : State) : Res :=
  whenUp s (fun s =>
    match s.witIndex m.station with
    | none => s
    | some i =>
      let w := s.witStation i
      let held := w.holder == m.holder && w.e != 0
      let s := s.updWit i (fun w =>
        { w with lastAny := some s.mer.raw, lastRenew := if held && m.claim == w.e then some s.mer.raw else w.lastRenew,
                 silent := if held && m.claim == w.e then false else w.silent })
      s.witSend i m.holder 3 m.station m.holder m.claim m.f m.seq held.toNat)

/-- The standby takes in the duty's YIELD and requests with its F (R222, R228): not for a swap while its swap state is not
SHADOW. -/
def State.yieldAtStandby (s : State) (m : ClaimMsg) : State :=
  let swap := bitOf m.info 0
  if s.mode.mode ≠ .standby || m.kind ≠ 8 || m.station ≠ s.station || m.holder ≠ s.partner || !s.red.ready then s
  else if swap && s.red.swap ≠ 2 then s
  else
    let s : State := if swap then { s with red := { s.red with swap := 3 } } else s
    s.sendRequest (s.known + 1) m.f true

/-- WITNESS_YIELD_RECEIVED (R214, R222): a YIELD of E by its holder is held with its F; at the standby it leads to the request. -/
def execWitnessYieldReceived (m : ClaimMsg) (s : State) : Res :=
  whenUp s (fun s =>
    match s.witIndex m.station with
    | none => s.yieldAtStandby m
    | some i =>
      let w := s.witStation i
      if m.kind = 8 && m.claim = w.e && m.holder = w.holder then s.updWit i (fun w => { w with yield_ := some m.f }) else s)

/-- Why the witness refuses a REQUEST (Table 08-6), if it does. STARTING and EXHAUSTED come before the conditions of R214. -/
def State.witRefusal (s : State) (i : Nat) (m : ClaimMsg) : Option Nat :=
  let w := s.witStation i
  if !w.watched then some 5
  else if w.e = 0xFFFFFFFF then some 6
  else if !s.witMember i m.holder || (w.holder = m.holder && w.e ≠ 0) then some 3
  else if m.claim ≠ w.e + 1 then some 4
  else if !bitOf m.info 0 then some 2
  else if w.e = 0 then none
  else if m.f = 0 then
    (match w.lastRenew with | some t => if s.elapsed t (ticksUs 5) then none else some 1 | none => none)
  else if w.yield_ = some m.f && decide (s.now + 1000000 ≤ m.f) then none else some 7

/-- Event 0x5013 (R217): as E first reaches 0xFFFF_0000, and at every further 4096 endorsements. -/
def nearExhaustion (e : Nat) : Bool := decide (0xFFFF0000 ≤ e) && (e - 0xFFFF0000) % 4096 == 0

/-- WITNESS_REQUEST_RECEIVED (R214, R215, R217): E is written to MRAM before the ENDORSE leaves. -/
def execWitnessRequestReceived (m : ClaimMsg) (s : State) : Res :=
  whenUp s (fun s =>
    if m.kind ≠ 5 || s.mode.mode ≠ .witness then s else
    let refuse (s : State) (i why e : Nat) : State :=
      let s := s.evRep 0x5007 0 [m.station, why]
      s.witSend i m.holder 7 m.station m.holder e 0 0 why
    match s.witIndex m.station with
    | none => refuse s 0 3 0
    | some i =>
      let w := s.witStation i
      match s.witRefusal i m with
      | some why => refuse (s.updWit i (fun w => { w with refusals := satInc 32 w.refusals })) i why w.e
      | none =>
        let s := s.updWit i (fun w =>
          { w with e := m.claim, holder := m.holder, lastEndorse := s.now, yield_ := none, lastRenew := none, silent := false })
        let s := if nearExhaustion m.claim then s.ev 0x5013 [m.station, m.claim] else s
        let s := s.witSend i m.holder 6 m.station m.holder m.claim m.f 0 0
        if w.e ≠ 0 && w.holder ≠ 0xFF then s.witSend i w.holder 3 m.station w.holder w.e 0 0 0 else s)

/-- WITNESS_STARTING_WATCH_END (R215): 10 µs after WITNESS was entered. -/
def execWitnessStartingWatchEnd (i : Fin 16) (s : State) : Res :=
  whenUp s (fun s =>
    if s.mode.mode = .witness && s.elapsed s.wit.since (ticksUs 10) then s.updWit i (fun w => { w with watched := true }) else s)

/-- WITNESS_SILENCE_NO_REQUEST (R218): the holder of E has fallen silent for 5 µs and nobody requests. -/
def execWitnessSilenceNoRequest (i : Fin 16) (s : State) : Res :=
  whenUp s (fun s =>
    let w := s.witStation i
    let quiet := match w.lastRenew with | some t => s.elapsed t (ticksUs 5) | none => false
    if s.mode.mode = .witness && s.el (0x50030 + i.val) 0 0 ≠ 0 && quiet && !w.silent then
      (s.updWit i (fun w => { w with silent := true })).evRep 0x5011 0 [s.el (0x50030 + i.val) 0 0]
    else s)

/-- Reset the claim numbers of a station (R217, Legend 0x50030 + i .9). -/
def State.resetClaims (s : State) (who : Who) (i : Nat) : Act :=
  if s.mode.lifeCycle = .retired then (s.ansState, s)
  else if who.level.val < engineer then ({ status := .privilege, detail := engineer }, s)
  else
    let recent := match (s.witStation i).lastAny with | some t => !s.elapsed t (ticksMs 1000) | none => false
    if !s.isWitness || recent then (s.ansState, s)
    else s.withToken who s.sealed_ (ea (0x50030 + i) 9) (fun s =>
      (ansOk, (s.updWit i (fun w => { w with e := 0, holder := 0xFF, yield_ := none })).ev 0x5014 [s.el (0x50030 + i) 0 0]))

/-- CLAIM_NUMBER_RESET (R217). -/
def execClaimNumberReset (who : Who) (i : Fin 16) (s : State) : Res := whenUp s (fun s => giveBoth (s.resetClaims who i))

end Sys2Proof.Machine
end

