-- ==== Sys2Proof/Machine/RegMap.lean ====
section
/-!
DEFINITION. The register map: which locations are implemented, and the access codes of their fields (Table 00-4, R436 to R448,
and the block map of each chapter).
-/
namespace Sys2Proof.Machine

/-- A register location as its block map describes it: masks of its fields by access code, the part marked LCK, whether it is
WOO, its half of a 64-bit pair (0 none, 1 low, 2 high), and whether its value depends on a selector (R443). -/
structure RegDesc where
  rw : Nat := 0
  w1c : Nat := 0
  w1s : Nat := 0
  wo : Nat := 0
  lck : Nat := 0
  woo : Bool := false
  pair : Nat := 0
  sel : Bool := false
deriving DecidableEq, Repr

def all32 : Nat := 0xFFFFFFFF
def regRo : RegDesc := {}
def regLo : RegDesc := { pair := 1 }
def regHi : RegDesc := { pair := 2 }
def regRw (m : Nat) : RegDesc := { rw := m }
def regLck (m : Nat) : RegDesc := { rw := m, lck := m }
def regW1c (m : Nat) : RegDesc := { w1c := m }
def regWo (m : Nat) : RegDesc := { wo := m }
def RegDesc.selected (d : RegDesc) : RegDesc := { d with sel := true }
def RegDesc.half (d : RegDesc) (n : Nat) : RegDesc := { d with pair := n }

/-- Every field is RO. -/
def RegDesc.readOnly (d : RegDesc) : Bool := d.rw == 0 && d.w1c == 0 && d.w1s == 0 && d.wo == 0 && !d.woo

/-- The index of `o` in an array of `n` registers at `base`, `stride` bytes apart. -/
def regIdx (o base stride n : Nat) : Option Nat :=
  if base ≤ o && o < base + stride * n && (o - base) % stride == 0 then some ((o - base) / stride) else none

/-- One of the arrays holds the offset. -/
def inArrays (o : Nat) : List (Nat × Nat × Nat × RegDesc) → Option RegDesc
  | [] => none
  | a :: l => if (regIdx o a.1 a.2.1 a.2.2.1).isSome then some a.2.2.2 else inArrays o l

/-- A map: single registers by offset, then arrays (base, stride, count). -/
def inMap (o : Nat) (one : List (Nat × RegDesc)) (arr : List (Nat × Nat × Nat × RegDesc)) : Option RegDesc :=
  match one.find? (fun x => x.1 == o) with
  | some x => some x.2
  | none => inArrays o arr

/-- SYS_ (Tables 18-5, 18-6). -/
def sysMap (o : Nat) : Option RegDesc :=
  inMap o [(0x000, regLo), (0x004, regHi), (0x008, regRo), (0x00C, regRw 0x3F), (0x010, regRw 2), (0x014, regRo), (0x018, regRo), (0x01C, regRo),
    (0x020, { woo := true, pair := 1 }), (0x024, { woo := true, pair := 2 }), (0x028, regRo), (0x02C, regRo), (0x030, { w1s := 1, rw := 2 }),
    (0x034, regRo), (0x038, (regRw all32).half 1), (0x03C, (regRw all32).half 2), (0x040, regLo), (0x044, regHi)]
    [(0x080, 4, 21, regRo)]

/-- TRI_ (Tables 18-7, 18-8). -/
def triMap (o : Nat) : Option RegDesc :=
  inMap o [(0x000, regRo), (0x004, regRw 3), (0x008, regW1c 7), (0x00C, regRw 0x7FF), (0x010, regRw all32), (0x018, regLo), (0x01C, regHi),
    (0x020, regRo), (0x030, regRo), (0x034, regRo), (0x038, regRo), (0x058, regWo 3)]
    [(0x024, 4, 3, regRo), (0x040, 8, 3, regLo), (0x044, 8, 3, regHi)]

/-- TSK_ (Tables 18-9, 18-10). -/
def tskMap (o : Nat) : Option RegDesc :=
  inMap o [(0x000, regRo), (0x004, regRw 3), (0x008, regW1c all32), (0x00C, regRo)]
    [(0x100, 0x10, 16, regLo), (0x104, 0x10, 16, regHi), (0x108, 0x10, 16, regRo), (0x10C, 0x10, 16, regRo), (0x200, 4, 16, regRo)]

/-- CEN_ (Tables 06-11 to 06-13). -/
def cenMap (o : Nat) : Option RegDesc :=
  inMap o [(0x000, regW1c 0x1800), (0x004, { rw := 3, w1s := 4 }), (0x008, regRo), (0x00C, regRo), (0x010, regLo), (0x014, regHi), (0x018, regRo),
    (0x01C, regRo), (0x020, regRo), (0x024, regRo), (0x028, regRo), (0x02C, regRo), (0x030, regRw 0xFF), (0x034, regRo.selected),
    (0x038, regRo.selected)] []

/-- MER_ (Tables 04-8 to 04-10). -/
def merMap (o : Nat) : Option RegDesc :=
  inMap o [(0x000, regRo), (0x004, { w1s := 3 }), (0x008, regLo), (0x00C, regHi), (0x010, regLo), (0x014, regHi), (0x018, regLo), (0x01C, regHi),
    (0x020, regRo), (0x024, regRw all32), (0x028, (regRw all32).half 1), (0x02C, (regRw all32).half 2), (0x030, regLo), (0x034, regHi),
    (0x038, regLo), (0x03C, regHi), (0x0A0, regLo), (0x0A4, regHi), (0x0A8, regRo), (0x0AC, regRo), (0x0B0, regRo)]
    [(0x040, 0x10, 4, regLck all32), (0x044, 0x10, 4, regLck all32), (0x048, 0x10, 4, regLck all32), (0x080, 8, 4, regLck all32),
     (0x084, 8, 4, regLck all32)]

/-- WPT_ (Tables 18-11, 18-12). -/
def wptMap (o : Nat) : Option RegDesc :=
  inMap o [(0x000, regRo), (0x004, regRw 3), (0x008, regW1c 3), (0x00C, regRo), (0x010, regRw 0x3FF), (0x014, regWo 3), (0x018, regRo.selected)]
    [(0x020, 4, 8, (regRw all32).selected)]

/-- RED_ (Table 18-13). -/
def redMap (o : Nat) : Option RegDesc :=
  inMap o [(0x000, regRo), (0x004, regRw 3), (0x008, regW1c 7), (0x00C, regRo), (0x010, regRo), (0x014, regRo), (0x018, regLo), (0x01C, regHi),
    (0x020, regWo all32), (0x024, regRo), (0x038, regLo), (0x03C, regHi), (0x040, regRo), (0x044, regRo)] [(0x028, 4, 4, regRo)]

/-- DIO_ (Tables 10-5 to 10-9). -/
def dioMap (o : Nat) : Option RegDesc :=
  inMap o [(0x000, regRo), (0x004, regRw 3), (0x008, regRo), (0x00C, regRo), (0x010, regRo), (0x014, regRo), (0x018, regRo), (0x01C, regWo all32),
    (0x020, regRo), (0x024, regRo), (0x028, regW1c all32)]
    [(0x030, 4, 4, regRo), (0x100, 0x10, 32, regLck 0x3FFF), (0x104, 0x10, 32, regLck 0xFFFF), (0x108, 0x10, 32, regLck all32),
     (0x10C, 0x10, 32, regRo), (0x300, 4, 32, regRo), (0x380, 4, 32, regRo)]

/-- AIO_ (Tables 11-5 to 11-9). -/
def aioMap (o : Nat) : Option RegDesc :=
  inMap o [(0x000, regRo), (0x004, regRw 1), (0x008, regW1c 0xFFFF)]
    [(0x100, 0x20, 8, regLck 0x1FF), (0x104, 0x20, 8, regRo), (0x108, 0x20, 8, regRo), (0x10C, 0x20, 8, regRw all32), (0x110, 0x20, 8, regRw all32),
     (0x200, 0x20, 8, regLck 0x7FFF), (0x204, 0x20, 8, regRo), (0x208, 0x20, 8, regRo), (0x20C, 0x20, 8, regRo), (0x210, 0x20, 8, regRo),
     (0x214, 0x20, 8, regRw all32), (0x218, 0x20, 8, regRw all32), (0x21C, 0x20, 8, regLck all32)]

/-- SAF_ (Tables 12-8, 12-9). -/
def safMap (o : Nat) : Option RegDesc :=
  inMap o [(0x000, regRo), (0x004, regRw 3), (0x008, regRo), (0x00C, regRo), (0x010, regRo), (0x014, regRo), (0x018, regW1c 0xF), (0x01C, regRo),
    (0x020, regRo), (0x024, regRo)]
    [(0x040, 4, 8, regRo), (0x060, 4, 4, regRo), (0x070, 4, 2, regRo), (0x078, 4, 2, regRo), (0x080, 4, 12, regLck 7)]

/-- CANc_ (Tables 13-10 to 13-13). -/
def canMap (o : Nat) : Option RegDesc :=
  inMap o [(0x000, regRo), (0x004, regLck 0x1F), (0x008, regLck 0x7FFFFFF), (0x00C, regLck 0x3FFFF), (0x010, regLck 0xFF), (0x014, regRo),
    (0x018, regW1c 0x3F), (0x01C, regRw 0x3F), (0x030, regRo), (0x034, regRo), (0x038, regRo), (0x03C, regRo), (0x040, regRo)]
    [(0x020, 4, 4, regRo), (0x100, 8, 32, regLck 0x7FFFFFFF), (0x104, 8, 32, regLck 0x7FFFFFFF), (0x800, 4, 128, regRo)]

/-- NET_ (Tables 14-8, 14-9). -/
def netMap (o : Nat) : Option RegDesc :=
  inMap o [(0x000, regRo), (0x004, regRw 3), (0x008, regW1c 3), (0x00C, regRo), (0x010, regLo), (0x014, regHi)]
    ([(0x100, 0x40, 4, regRo), (0x104, 0x40, 4, regRo), (0x108, 0x40, 4, regRo), (0x10C, 0x40, 4, regRo), (0x110, 0x40, 4, regRo),
      (0x114, 0x40, 4, regRo), (0x118, 0x40, 4, regRo), (0x11C, 0x40, 4, regRo)]
      ++ [(0x200, 0x10, 2, regRo), (0x204, 0x10, 2, regRo), (0x208, 0x10, 2, regRo), (0x20C, 0x10, 2, regRo)])

/-- LEG_ (Table 18-14). -/
def legMap (o : Nat) : Option RegDesc :=
  inMap o [(0x000, regRo), (0x004, regRw 3), (0x008, regW1c 3), (0x00C, regRw 0xFF), (0x010, regRo.selected), (0x014, regRo.selected),
    (0x018, regRo.selected), (0x01C, regRo.selected), (0x020, regRo), (0x024, regRo), (0x028, regLo), (0x02C, regHi)] []

/-- EVR_ (Tables 15-3, 15-4). -/
def evrMap (o : Nat) : Option RegDesc :=
  inMap o [(0x000, regRo), (0x004, regRw 7), (0x008, regW1c 7), (0x010, regLo), (0x014, regHi), (0x018, regLo), (0x01C, regHi), (0x020, regRo),
    (0x024, regRo), (0x028, regRo), (0x02C, regRo), (0x030, regRo)] []

/-- CRT_ (Tables 16-4, 16-5). A read of CRT_KEY has a side effect, so a snapshot does not hold it. -/
def crtMap (o : Nat) : Option RegDesc :=
  inMap o [(0x000, regRo), (0x004, { w1s := 3, rw := 0xC }), (0x008, regW1c 7), (0x00C, regRw 7), (0x010, regLck 0x0FFFFFFF), (0x014, regRo),
    (0x018, regRo), (0x01C, regRo), (0x020, regRo), (0x024, regRo)] []

/-- CLK_ (Tables 17-8, 17-9). -/
def clkMap (o : Nat) : Option RegDesc :=
  inMap o [(0x000, regRo), (0x004, { rw := 0x7F, lck := 0x7C }), (0x008, regW1c 7), (0x00C, regRo), (0x024, regRo), (0x028, regRo), (0x02C, regRo),
    (0x030, regRo), (0x034, regRo)] [(0x010, 4, 5, regRo)]

/-- MEM_ (Tables 17-10, 17-11). -/
def memMap (o : Nat) : Option RegDesc :=
  inMap o [(0x000, regRo), (0x004, regRw 3), (0x008, regW1c 7), (0x00C, regRo), (0x010, regRo), (0x014, regRo), (0x018, regRo), (0x01C, regRo),
    (0x020, regRw 7), (0x024, regRo), (0x028, regRw 7), (0x02C, regRw 7)] [(0x100, 4, 49, regRo)]

/-- PWR_ (Tables 17-12, 17-13). -/
def pwrMap (o : Nat) : Option RegDesc :=
  inMap o [(0x000, regRo), (0x004, { rw := 3, w1s := 4 }), (0x008, regW1c 3), (0x00C, regRo), (0x010, regRo), (0x014, regRo), (0x018, regRo),
    (0x01C, regRo), (0x020, regRw 0xF), (0x024, regRo), (0x028, regRo)] []

/-- The register at an offset of a frame, if it is implemented (Table 18-1). -/
def regDesc (f o : Nat) : Option RegDesc :=
  match f with
  | 0x00 => sysMap o | 0x01 => triMap o | 0x02 => tskMap o | 0x03 => cenMap o | 0x04 => merMap o | 0x05 => wptMap o | 0x06 => redMap o
  | 0x07 => dioMap o | 0x08 => aioMap o | 0x09 => safMap o | 0x0A | 0x0B | 0x0C | 0x0D => canMap o | 0x0E => netMap o | 0x0F => legMap o
  | 0x10 => evrMap o | 0x11 => crtMap o | 0x12 => clkMap o | 0x13 => memMap o | 0x14 => pwrMap o
  | _ => none

/-- A snapshot holds it: every field is RO, no selector, and not CRT_KEY (R444). -/
def regHeld (f o : Nat) : Bool :=
  match regDesc f o with
  | some d => d.readOnly && !d.sel && !(f == 0x11 && o == 0x01C)
  | none => false

/-- The registers a snapshot holds, as offsets from 0x4000_0000. -/
def heldRegs : List Nat :=
  (List.range 21).flatMap (fun f => ((List.range 1024).filter (fun k => regHeld f (4 * k))).map (fun k => f * 0x1000 + 4 * k))

end Sys2Proof.Machine
end

