-- ==== Sys2Proof/Machine/Shadow.lean ====
section
/-!
DEFINITION. The standby's copies and shadow, resynchronisation, planned transfer and swap (R204 to R208, R222 to R230).
-/
namespace Sys2Proof.Machine

/-! ## Copies received -/

/-- The module shadows the duty: it is in STANDBY. -/
def State.shadows (s : State) : Bool := s.pairMember && decide (s.mode.mode = .standby)

/-- Count copy bytes; the largest count of a millisecond is kept (Legend 0x50020.1). -/
def State.noteCopy (s : State) (n : Nat) : State :=
  let r := s.red
  let r := if s.elapsed r.copyAt (ticksMs 1) then { r with copyAt := s.mer.raw, copyBytes := n } else { r with copyBytes := r.copyBytes + n }
  { s with red := { r with copyMax := max r.copyMax r.copyBytes } }

/-- The bytes of a write-set entry in the signature of R207: address, byte mask, data. -/
def entryBytes (e : WEntry) : List Byte := leBytes 8 e.addr ++ leBytes 8 e.mask ++ leBytes 8 e.data

/-- SIG of a write-set (R207). -/
def setSig (l : List WEntry) : Nat := crc64 (l.flatMap entryBytes)

/-- Write an entry to memory under its byte mask. -/
def State.putEntry (s : State) (e : WEntry) : State :=
  { s with mem := { s.mem with data := s.mem.data.writeMasked e.addr e.mask (leBytes 8 e.data) } }

/-- Put Survey records as the duty had them. -/
def State.putRecords (s : State) (l : List (Nat × SurveyRec)) : State :=
  { s with sur := { s.sur with image := l.foldl (fun t x => if s.configured x.1 then Table.set t {} x.1 x.2 else t) s.sur.image } }

/-- Bytes of the program data region go to the private banks of the three cores, others to their address. -/
def State.putBytes (s : State) (addr : Nat) (b : List Byte) : State :=
  if addr < 0x20000000 then s.loadImage [(addr, b)] else { s with mem := { s.mem with data := s.mem.data.writeN addr b } }

/-- Where a constant as a task reads it is kept among the changes to come: above every element address. -/
def constKey (task idx : Nat) : Nat := 2 ^ 32 + 64 * task + idx

/-- Write an element with the register that mirrors it, or a single value, or a constant of a task. -/
def State.putElement (s : State) (a v : Nat) : State :=
  let e := a / 256
  if 2 ^ 32 ≤ a then { s with tsk := { s.tsk with consts := Table.put s.tsk.consts (a - 2 ^ 32) v } }
  else if 0x28000 ≤ e && e ≤ 0x2FFFF then { s with tsk := { s.tsk with values := Table.put s.tsk.values a v } }
  else
    let s := (s.setEl e (a % 256) v).mirror e (a % 256)
    if 0xA8300 ≤ e && e ≤ 0xA83FF then { s with sur := { s.sur with forceCount := s.forces.length } } else s

/-- Pages of the regions of Table 08-7 take the duty's contents. -/
def State.putPages (s : State) (p : PageSet) : State :=
  let s := s.each p.bytes (fun s x => s.putBytes x.1 x.2)
  let s := s.putRecords p.records
  let s := s.each p.elems (fun s x => s.putElement x.1 x.2)
  let s := s.each p.slots (fun s x =>
    let s := s.setSlot x.1 x.2
    let begun := x.2.period == 0 || x.2.fired != 0
    { s with wpt := { s.wpt with bases := if begun then Table.erase s.wpt.bases x.1 else Table.put s.wpt.bases x.1 x.2.instant } })
  { s with
    tsk := { s.tsk with insts := p.insts.foldl (fun t x => Table.set t {} x.1 x.2) s.tsk.insts },
    cen := { s.cen with loops := p.loops.foldl (fun t x => Table.set t {} x.1 x.2) s.cen.loops,
                        tables := p.tables.foldl (fun t x => Table.set t {} x.1 x.2) s.cen.tables } }

/-- A copy fails its check or its order (R205, event 0x5009). -/
def State.discardCopy (s : State) (seq : Nat) : State :=
  let s : State := { s with red := { s.red with copyDisc := satInc 32 s.red.copyDisc, copies := Table.erase s.red.copies seq } }
  (s.evRep 0x5009 0 []).notReady

/-- SHADOW-DIVERGENCE of a task or of 0x100 + group (R208): rung 1, and a resynchronisation of the standby's own. -/
def State.diverge (s : State) (obj : Nat) : State :=
  let s : State := { s with red := { s.red with divergences := satInc 32 s.red.divergences } }
  ((s.fault 0 0x500A obj 1 [obj]).notReady).ev 0x500B [1]

/-- Everything that shadows: the tasks, and 16 + the groups with loops. -/
def State.owners (s : State) : List Nat := s.tasks ++ s.liveGroups.map (16 + ·)

/-- One more matching shadow; with 16 of every owner the standby is ready (R227). -/
def State.matches_ (s : State) (owner : Nat) : State :=
  let s : State := { s with red := { s.red with matched := Table.upd s.red.matched 0 owner (· + 1) } }
  if !s.red.ready && !s.setDiffers && s.owners.all (fun o => 16 ≤ Table.get s.red.matched 0 o) then
    let open_ := s.mode.faults.filter (fun f => f.code == 0x500A)
    let s := s.each open_ (fun s f => s.closeFault f.fn f.code f.obj)
    ({ s with red := { s.red with ready := true } } : State).ev 0x500C []
  else s

/-- The CHANGE units that are due for a copy take effect; a single value goes to its owner's cycle (R147). -/
def State.takeStandbyChanges (s : State) (task : Option Nat) (t : MTime) : State :=
  let mine (x : Nat × Nat × MTime) : Bool := decide (x.2.2 ≤ t) &&
    (if 2 ^ 32 ≤ x.1 then task == some ((x.1 - 2 ^ 32) / 64)
      else match s.single? (x.1 / 256) (x.1 % 256) with | some d => task == some d.task | none => true)
  let due := s.red.changes.filter mine
  let s : State := { s with red := { s.red with changes := s.red.changes.filter (fun x => !mine x) } }
  s.each due (fun s x => s.putElement x.1 x.2.1)

/-- The end of a shadow cycle: its lag (R208), and its count. -/
def State.endShadow (s : State) (t : Nat) (c : MTime) : State :=
  let lag := (s.now - (c + taskTNs (s.taskRec t))).toNat
  let s := s.updTask t (fun x => { x with c := c, cycles := x.cycles + 1, first := false, firstNext := false })
  { s with red := { s.red with lagMax := max s.red.lagMax (min lag (2 ^ 32 - 1)),
                               swapCycles := if s.red.swap = 2 then Table.upd s.red.swapCycles 0 t (· + 1) else s.red.swapCycles } }

/-- Output values of the new program that differ from the duty's (Table 08-8, step 5). A paralleled channel is compared with
the value of its STAGE unit of that cycle. -/
def State.swapDiffers (s : State) (c : MTime) (own duty : List OutVal) : Nat :=
  (own.filter (fun o =>
    match duty.find? (fun d => sameChan d.chan o.chan) with
    | some d => d.value != o.value
    | none =>
      match Table.find s.red.lastStage (chanNo o.chan) with
      | some (v, t) => t == c && v != (match o.chan with
          | .ao n => real32 (s.aoCommand n (F32.widen (BitVec.ofNat 32 o.value))) | _ => o.value)
      | none => false)).length

/-- Shadow cycle k of a task on its copy (R207): the image, the task's own run, the duty's retentive writes and outputs. -/
def State.shadowTask (s : State) (t : Nat) (c : MTime) (image : List (Nat × SurveyRec)) (retentive : List WEntry) (outs : List OutVal)
    (sig : Nat) (set : List WEntry) (own : List OutVal) (evals : List Eval) : State :=
  let s := (s.takeStandbyChanges (some t) c).putRecords image
  let runs := s.red.shadowing.contains t
  let s := if runs then s.applyEvals c evals else s
  let s := s.each retentive State.putEntry
  let diffs := s.swapDiffers c own outs
  let s := s.each (outs.filter (fun o => !s.paralleled o.chan)) State.releaseOut
  if !runs then s
  else
    let s := s.endShadow t c
    if s.red.swap = 2 then { s with red := { s.red with swapDiffs := satAdd 32 s.red.swapDiffs diffs } }
    else if setSig set = sig then s.matches_ t
    else s.diverge t

/-- Shadow a sample of a loop group on its copy, and compare each staged value with the duty's U_PREV, bit for bit (R207). -/
def State.shadowLoops (s : State) (g : Nat) (S : MTime) (records : List (Nat × SurveyRec)) (loops : List (Nat × F64 × Nat × Nat)) : State :=
  let s := (s.takeStandbyChanges none S).putRecords records
  if !s.red.shadowing.contains (16 + g) then s
  else
    let l := s.groupSlots g
    let s := s.updGroup g (fun x => { x with s := S, latched := false, queued := true, todo := l, done := [], staged := false, missedNow := false })
    let s := s.each l (fun s i => s.runLoop i 0 false)
    let done := (s.group g).done
    let same := loops.all (fun x => (Table.get done {} x.1).uPrev == x.2.1) && loops.length == l.length
    let s := s.each done (fun s d => s.updLoop d.1 (fun _ => d.2))
    let s := s.each loops (fun s x => s.updLoop x.1 (fun y => { y with flags := x.2.2.1, activeSet := x.2.2.2 }))
    let s := s.updGroup g (fun x => { x with queued := false, done := [], todo := [], samples := x.samples + 1 })
    if same then s.matches_ (16 + g) else s.diverge (0x100 + g)

/-- Apply one unit of a complete copy. -/
def State.applyUnit (s : State) (set : List WEntry) (own : List OutVal) (evals : List Eval) (u : CopyUnit) : State :=
  match u with
  | .task t c image retentive outs sig => s.shadowTask t c image retentive outs sig set own evals
  | .loop g S records loops => s.shadowLoops g S records loops
  | .pages owner p =>
    let s := s.putPages p
    { s with red := { s.red with shadowing := if s.red.shadowing.contains owner then s.red.shadowing else s.red.shadowing ++ [owner] } }

/-- The pages of a copy come after its shadow. -/
def unitRank : CopyUnit → Nat
  | .pages _ _ => 1
  | _ => 0

/-- COPY_UNIT_RECEIVED (R204, R205, R225): held until its END; the pages of a pass of their own are written at once. -/
def execCopyUnitReceived (seq : Nat) (unit : CopyUnit) (bytes : List Byte) (s : State) : Res :=
  whenUp s (fun s =>
    if !s.shadows then s else
    let s := s.noteCopy bytes.length
    match unit with
    | .pages 0xFFFF p => s.putPages p
    | u => { s with red := { s.red with copies := Table.upd s.red.copies {} seq (fun x => { units := x.units ++ [u], bytes := x.bytes ++ bytes }) } })

/-- COPY_END_RECEIVED (R205, R207, R208, R227): `set`, `outs` and `evals` are what the standby's own run of the cycle commits. -/
def execCopyEndReceived (seq count crc : Nat) (set : List WEntry) (outs : List OutVal) (evals : List Eval) (s : State) : Res :=
  whenUp s (fun s =>
    if !s.shadows then s else
    let x := Table.get s.red.copies {} seq
    let inOrder := s.red.nextUnit = 0 || s.red.nextUnit = seq + 1
    if x.bytes.length ≠ count || crc64 x.bytes ≠ crc || !inOrder then s.discardCopy seq
    else
      let s : State := { s with red := { s.red with copies := Table.erase s.red.copies seq, nextUnit := seq + 2 } }
      s.each ((x.units.filter (fun u => unitRank u = 0)) ++ (x.units.filter (fun u => unitRank u = 1))) (fun s u => s.applyUnit set outs evals u))

/-- STAGE_UNIT_RECEIVED (R205, R212, R301, R335): staged for the same release instant into the channel's preset. -/
def execStageUnitReceived (chan : Chan) (value : Nat) (latch release : MTime) (s : State) : Res :=
  whenUp s (fun s =>
    if !s.pairMember then s else
    match chan with
    | .saf p => (s.updSafPair p (fun x => { x with stagedEnable := value != 0 })).noteMismatch
    | _ =>
      let p : StagedPreset := { chan := chan, value := value, latch := latch, release := release }
      if s.paralleled chan then
        ({ s with red := { s.red with staged := s.red.staged ++ [p],
                                      lastStage := Table.put s.red.lastStage (chanNo chan) (value, latch) } } : State).applyPresets
      else s)

/-- An on-line change on the standby: loop elements and acknowledgements at their sample, a table commit at its instant, other
values with the copy of the first cycle at or after theirs (R147, R175, R191, R198, R259). -/
def State.standbyChange (s : State) (a v : Nat) (t : MTime) : State :=
  let e := a / 256
  let n := a % 256
  if 0x31000 ≤ e && e ≤ 0x31FFF then
    { s with cen := { s.cen with changes := s.cen.changes ++ [{ slot := e - 0x31000, elem := n, value := v, at_ := t }] } }
  else if 0x33000 ≤ e && e ≤ 0x33FFF then { s with cen := { s.cen with acks := s.cen.acks ++ [(e - 0x33000, t)] } }
  else if 0x34000 ≤ e && e ≤ 0x341FF then
    if n = 7 then
      let c : TableCommit := { table := e - 0x34000, accepted := s.now, at_ := some t, copy := s.stagedTable (e - 0x34000) }
      { s with cen := { s.cen with commits := s.cen.commits ++ [c] } }
    else s.setEl e n v
  else if e = 0x22011 then
    let ts := match s.const? n with | some d => d.tasks | none => []
    { s with red := { s.red with changes := s.red.changes ++ ts.map (fun k => (constKey k n, v, t)) } }
  else if t ≤ s.now && !(0x28000 ≤ e && e ≤ 0x2FFFF) then s.putElement a v
  else { s with red := { s.red with changes := s.red.changes ++ [(a, v, t)] } }

/-- CHANGE_UNIT_RECEIVED (R204, R205). -/
def execChangeUnitReceived (ea : Nat) (value : Nat) (_at : MTime) (s : State) : Res :=
  whenUp s (fun s => if s.shadows then s.standbyChange ea value _at else s)

/-- MODE_UNIT_RECEIVED (R204, R205). -/
def execModeUnitReceived (mode : Mode) (_at : MTime) (s : State) : Res :=
  whenUp s (fun s => if s.pairMember && !s.red.holds then { s with red := { s.red with dutyMode := mode.code } } else s)

/-! ## Planned transfer (R222, R223) -/

/-- The partner is ready; the partner is synchronised (R103). -/
def State.peerReady (s : State) : Bool := (s.peer).ready == 1
def State.peerSynced (s : State) : Bool := let m := (s.peer).mq % 8; m == 3 || m == 4

/-- The transfer begins: F, and a YIELD to the witness and the partner. -/
def State.startTransfer (s : State) (swap : Bool) : State :=
  let f : MTime := -(Int.fdiv (-(s.now + 2000000)) 1000000) * 1000000
  let s : State := { s with red := { s.red with transfer := some { f := f, swap := swap }, swap := if swap then 3 else s.red.swap } }
  (s.sendClaim 2 8 s.modIndex s.heldClaim.1 f 0 swap.toNat).sendClaim 1 8 s.modIndex s.heldClaim.1 f 0 swap.toNat

/-- The conditions of R222. -/
def State.mayTransfer (s : State) : Bool :=
  (match s.mode.mode with | .run | .hold | .stop => true | _ => false)
    && s.pairMember && s.red.holds && s.peerReady && s.synced && s.peerSynced && s.red.swap == 0 && s.red.transfer.isNone

/-- Legend 0x50010.0. -/
def State.reqTransfer (s : State) (who : Who) : Act :=
  s.engineerAct who (fun s => if s.mayTransfer then (ansOk, s.startTransfer false) else (s.ansState, s))

/-- PLANNED_TRANSFER (R222). -/
def execPlannedTransfer (who : Who) (s : State) : Res := whenUp s (fun s => giveBoth (s.reqTransfer who))

/-- TRANSFER_ENDORSE_DEADLINE (R222): at F − 1 ms no CLAIM with F has come. At the standby the request ends. -/
def execTransferEndorseDeadline (s : State) : Res :=
  whenUp s (fun s =>
    let claimed (f : MTime) : Bool := match s.red.next_ with | some c => c.f == f | none => false
    match s.red.transfer, s.red.request with
    | some t, _ =>
      if t.f - 1000000 ≤ s.now && !claimed t.f && s.red.holds then
        ({ s with red := { s.red with transfer := none, swap := if t.swap then 0 else s.red.swap } } : State).ev 0x5012 []
      else s
    | none, some (_, f, _) =>
      if f ≠ 0 && f - 1000000 < s.now then
        { s with red := { s.red with request := none, swap := if s.red.swap = 3 then 2 else s.red.swap } }
      else s
    | none, none => s)

/-- The old duty at F (R223): STANDBY, with the cycles and samples latched before F still to be completed. -/
def State.yieldDuty (s : State) : State :=
  let swap := match s.red.transfer with | some t => t.swap | none => false
  let frm := s.mode.mode
  let busyT := s.tasks.filter (fun t => (s.taskRun t).busy)
  let busyG := s.liveGroups.filter (fun g => let x := s.group g; x.latched || x.queued || !x.due.isEmpty)
  let s := if frm = .stop then s.activate else s
  let s : State := { s with red := { s.red with
    holds := false, suspended := false, transfer := none, ready := false, matched := [], copies := [], nextUnit := 0,
    swap := 0, shadowing := s.owners, dutyMode := frm.code } }
  let s := s.setMode .standby 0
  let s : State := { s with mode := { s.mode with
    trans := if busyT.isEmpty && busyG.isEmpty then none else some { frm := frm, dest := .standby, tasks := busyT, groups := busyG } } }
  if swap then s.notReady else s

/-- CLAIM_EFFECTIVE_INSTANT (R223): at F every stage takes the new claim. -/
def execClaimEffectiveInstant (s : State) : Res :=
  whenUp s (fun s =>
    match s.red.next_ with
    | some c =>
      if c.f ≤ s.now then
        let s := s.takeClaim c
        let s : State := { s with red := { s.red with highest := max s.red.highest c.claim } }
        if c.holder = s.modIndex then
          let s : State := { s with red := { s.red with
            holds := true, request := none, lapse := false, suspended := false, lastEcho := some s.mer.raw, lastAck := some s.mer.raw } }
          s.takeDuty c.claim c.f true
        else if s.red.holds then s.yieldDuty
        else s
      else s
    | none => s)

/-! ## Resynchronisation (R225, R226) -/

/-- The regions of Table 08-7 that are in use, in pages. -/
def State.regionPages (s : State) : Nat :=
  let pages (n : Nat) := ceilDiv n 4096
  pages (16 * s.sur.points.length) + pages (512 * s.slots.length + 4096 * s.cen.tables.length) + 128
    + pages ((match s.tsk.active with | some p => (p.retentive.map (fun x => x.2)).sum | none => 0))
    + 5 + pages (8 * (s.elems.length + s.tsk.values.length + s.tsk.consts.length))

/-- The capacity that the cyclic copy leaves free, B per ms (R226). -/
def State.freeCopy (s : State) : Nat := 2097152 - s.red.copyAdmitted

/-- A tie lane carries the copies. -/
def State.tieUp (s : State) : Bool := s.net.tl0.up || s.net.tl1.up

/-- A resynchronisation is called for: the duty's partner stands in STANDBY, not ready. -/
def State.resyncDue (s : State) : Bool :=
  s.pairMember && s.red.holds && s.tieUp && (s.peer).state != 0 && (s.peer).container == (s.tsk.active.map (·.ident)).getD 0 && (s.peer).mode == Mode.standby.code && !s.peerReady
    && s.red.restartAt.isNone

/-- RESYNC_PASS (R225, R226): `written` are the pages written since they were last sent. -/
def execResyncPass (written : List Nat) (s : State) : Res :=
  whenUp s (fun s =>
    if !s.resyncDue || !s.red.finishing.isEmpty then s
    else if !s.red.resync then
      let n := s.regionPages * 4096
      let s : State := { s with red := { s.red with resync := true, pass := 1, pages := [], remaining := n, passAt := s.mer.raw, outrunSince := none } }
      (s.ev 0x500B [1]).send (.copy 3 0xFFFF s.now [1, n])
    else
      let n := written.length * 4096
      let room := s.freeCopy * (s.mer.raw - s.red.passAt) / 400000
      let out := if room < n then (match s.red.outrunSince with | some t => some t | none => some s.mer.raw) else none
      let s : State := { s with red := { s.red with pass := s.red.pass + 1, remaining := n, passAt := s.mer.raw, outrunSince := out, pages := written } }
      if n ≤ 262144 then { s with red := { s.red with finishing := s.owners, outrunSince := none } }
      else s.send (.copy 3 0xFFFF s.now (s.red.pass :: written)))

/-- RESYNC_NO_CONVERGENCE (R226). -/
def execResyncNoConvergence (s : State) : Res :=
  whenUp s (fun s =>
    match s.red.outrunSince with
    | some t =>
      if s.red.resync && s.elapsed t (ticksMs 10000) then
        ({ s with red := { s.red with resync := false, pages := [], pass := 0, remaining := 0, outrunSince := none, restartAt := some (s.mer.raw + ticksMs 10000) } } : State).ev 0x500B [2]
      else s
    | none => s)

/-- RESYNC_RESTART (R226). -/
def execResyncRestart (s : State) : Res :=
  whenUp s (fun s =>
    match s.red.restartAt with
    | some t => if t ≤ s.mer.raw then { s with red := { s.red with restartAt := none, resync := false } } else s
    | none => s)

/-! ## Swap (R228 to R230) -/

/-- Union of two programs' input sets, by task. -/
def unionInputs (a b : Program) : List (Nat × List Nat) :=
  (upto 16).map (fun t => (t, (forTask a.inputs t ++ forTask b.inputs t).eraseDups))

/-- Check 7: the copy load of the union. -/
def State.swapCopyFault (s : State) (prog : Program) : Option Ans :=
  let p := match s.tsk.active with | some a => { prog with inputs := unionInputs a prog } | none => prog
  (s.copyAdmission prog.tasks (some p)).map (ansCheck 7)

/-- A Custodian token in Legend 0x50011.1 when SEALED, at Engineer privilege. -/
def State.swapAct (s : State) (who : Who) (ok : Bool) (f : State → Act) : Act :=
  s.engineerAct who (fun s => if !ok then (s.ansState, s) else s.withToken who s.sealed_ (ea 0x50011 0) f)

/-- Legend 0x50011.0 = 1 at the standby. -/
def State.reqShadow (s : State) (who : Who) (prog : Program) : Act :=
  let ok := s.shadows && s.red.dutyMode == Mode.run.code && s.red.ready && s.synced && s.peerSynced && s.red.swap == 0
  s.swapAct who ok (fun s =>
    match s.loadFault prog with
    | some a => (a, s)
    | none =>
      match s.swapCopyFault prog with
      | some a => (a, s)
      | none => (ansOk, { s with red := { s.red with swap := 1, newProgram := some prog } }))

/-- SWAP_START_SHADOW (R228). -/
def execSwapStartShadow (who : Who) (prog : Program) (s : State) : Res := whenUp s (fun s => giveBoth (s.reqShadow who prog))

/-- The old instance that a new one continues (Table 08-9): same path, same type identity. -/
def oldInst (old : Program) (d : InstDecl) : Option (Nat × InstDecl) :=
  (old.insts.zipIdx.find? (fun x => x.1.path == d.path && x.1.type == d.type && decide (x.1.cls = d.cls))).map (fun x => (x.2, x.1))

/-- State carried into a new instance; a fresh one has none. -/
def carried (d : InstDecl) (x : InstState) : InstState :=
  match d.cls with
  | .timer => { start := x.start, running := x.running, q := x.q, et := x.et, prev := x.prev, prevValid := x.prevValid }
  | .counter => { x with value := clampI x.value d.lo d.hi }
  | .edge => { prev := x.prev, prevValid := x.prevValid }
  | .other => x

/-- The bytes of an instance's state, at its offset in the program data region (Table 03-2), move to their new place in each bank. -/
def carryBytes (old new : Memory) (a d : InstDecl) : Memory :=
  [0, 1, 2].foldl (fun m c => m.writeN (privBase c + 0x180000 + d.offset) (old.readN (privBase c + 0x180000 + a.offset) (min a.size d.size))) new

/-- Map the shadow's state into the new program (R229). -/
def State.mapSwap (s : State) (new : Program) : State :=
  let old : Program := s.tsk.active.getD { ident := 0, tasks := [] }
  let pairs := new.insts.zipIdx.map (fun x => (x.2, x.1, oldInst old x.1))
  let insts := pairs.foldl (fun t x => match x.2.2 with
    | some (i, _) => Table.set t {} x.1 (carried x.2.1 (Table.get s.tsk.insts {} i))
    | none => t) ([] : Table InstState)
  let sameS (d : SingleDecl) : Bool := old.singles.any (fun o => o.ea == d.ea && o.type == d.type)
  let sameC (d : ConstDecl) : Bool := old.consts.any (fun o => o.idx == d.idx && o.type == d.type)
  let values := new.singles.foldl (fun t d => Table.put t d.ea (if sameS d then Table.get s.tsk.values d.init d.ea else d.init)) ([] : Table Nat)
  let consts := new.consts.foldl (fun t d => d.tasks.foldl (fun t k =>
    Table.put t (64 * k + d.idx) (if sameC d then Table.get s.tsk.consts d.init (64 * k + d.idx) else d.init)) t) ([] : Table Nat)
  let mem := s.mem.data
  let s := s.loadImage new.image
  let data := pairs.foldl (fun m x => match x.2.2 with
    | some (_, a) => if x.2.1.cls = .other then carryBytes mem m a x.2.1 else m
    | none => m) s.mem.data
  let s : State := { s with mem := { s.mem with data := data },
                            tsk := { s.tsk with active := some new, insts := insts, values := values, consts := consts } }
  let fresh := pairs.filter (fun x => x.2.2.isNone)
  let s := s.each fresh (fun s x => s.ev 0x500F [x.1])
  let s := s.setTasks new.tasks
  { s with red := { s.red with swap := 2, oldProgram := some old, newProgram := none, swapCycles := [], swapDiffs := 0, fresh := fresh.length } }

/-- SWAP_MAPPING (R228, R229): the shadow runs a copy's cycle whole, so it stands between cycles of every task. -/
def execSwapMapping (s : State) : Res :=
  whenUp s (fun s =>
    match s.red.newProgram with
    | some p => if s.shadows && s.red.swap = 1 then s.mapSwap p else s
    | none => s)

/-- Legend 0x50011.0 = 2 at the duty. -/
def State.reqSwap (s : State) (who : Who) : Act :=
  s.swapAct who (s.mayTransfer && decide (s.mode.mode = .run)) (fun s => (ansOk, s.startTransfer true))

/-- SWAP_EXECUTE (R228). -/
def execSwapExecute (who : Who) (s : State) : Res := whenUp s (fun s => giveBoth (s.reqSwap who))

/-- Legend 0x50011.0 = 3 at the standby, before the claim with F is sent. -/
def State.reqAbort (s : State) (who : Who) : Act :=
  s.swapAct who (s.shadows && s.red.swap != 0 && s.red.transfer.isNone) (fun s =>
    let s := match s.red.oldProgram with
      | some p => if s.red.swap = 1 then s else ({ s with tsk := { s.tsk with active := some p } } : State).setTasks p.tasks
      | none => s
    let s : State := { s with red := { s.red with swap := 0, newProgram := none, oldProgram := none, request := none } }
    (ansOk, ((s.ev 0x5010 []).notReady).ev 0x500B [1]))

/-- SWAP_ABORT (R230). -/
def execSwapAbort (who : Who) (s : State) : Res := whenUp s (fun s => giveBoth (s.reqAbort who))

end Sys2Proof.Machine
end

