-- ==== Sys2Proof/Machine/RegRead.lean ====
section
/-!
DEFINITION. What a read of each register returns (the field tables of the block maps).
-/
namespace Sys2Proof.Machine

/-- Low and high word of a pair. -/
def lo32 (v : Nat) : Nat := v % 2 ^ 32
def hi32 (v : Nat) : Nat := v / 2 ^ 32 % 2 ^ 32
/-- Half `h` (0 low, 1 high) of a 64-bit value. -/
def half32 (h v : Nat) : Nat := if h = 0 then lo32 v else hi32 v
/-- A count limited to a width. -/
def sat (w n : Nat) : Nat := min n (2 ^ w - 1)
/-- A word whose bit `i` says whether `p i`. -/
def maskOf (n : Nat) (p : Nat → Bool) : Nat := packBits ((upto n).map p)

/-- The bank of an agent (R443). -/
def RegPart.bank (r : RegPart) : Agent → Bank
  | .triad => r.triad | .cc0 => r.cc0 | .cc1 => r.cc1
def RegPart.setBank (r : RegPart) (a : Agent) (b : Bank) : RegPart :=
  match a with | .triad => { r with triad := b } | .cc0 => { r with cc0 := b } | .cc1 => { r with cc1 := b }

/-- SYS_SNAP_STAT bits 19 to 16. -/
def RegPart.snapFlags (r : RegPart) : Nat := packBits [r.snapArmed, r.snapBusy, r.snapRefused, r.snapOverrun]

def State.readSys (s : State) (o : Nat) : Nat :=
  let r := s.sys
  match o with
  | 0x000 => lo32 r.ident | 0x004 => hi32 r.ident
  | 0x008 => r.build % 512 + r.fw % 65536 * 65536
  | 0x00C => s.mode.mode.code + 8 * s.mode.prev.code
  | 0x010 => packBits [r.armed, r.window]
  | 0x014 => r.errCause + 16 * r.errAgent + bitAt r.errWrite 6 + bitAt r.errAlias 7
  | 0x018 => lo32 r.errAddr | 0x01C => r.errCnt
  | 0x020 => lo32 r.asset | 0x024 => hi32 r.asset
  | 0x028 => r.tmrCorr | 0x02C => r.tmrFail
  | 0x030 => bitAt r.snapDoneIe 1
  | 0x034 => r.snapSeq % 65536 + 65536 * r.snapFlags
  | 0x038 => lo32 r.snapAt | 0x03C => hi32 r.snapAt
  | 0x040 => lo32 r.snapTime | 0x044 => hi32 r.snapTime
  | _ => Table.get r.wpCnt 0 ((o - 0x080) / 4)

def TriadPart.core (t : TriadPart) : Nat → Core
  | 0 => t.c0 | 1 => t.c1 | _ => t.c2
def TriadPart.setCore (t : TriadPart) (c : Nat) (x : Core) : TriadPart :=
  match c with | 0 => { t with c0 := x } | 1 => { t with c1 := x } | _ => { t with c2 := x }
/-- Cores that take part in votes. -/
def TriadPart.actives (t : TriadPart) : List Nat := (upto 3).filter (fun c => decide ((t.core c).state = .active))
/-- The triad runs in duplex. -/
def TriadPart.duplex (t : TriadPart) : Bool := decide (t.actives.length < 3)

def State.readTri (s : State) (o : Nat) : Nat :=
  let t := s.tri
  match o with
  | 0x000 => t.c0.state.code + 4 * t.c1.state.code + 16 * t.c2.state.code + bitAt t.duplex 6
  | 0x004 => t.ctrl | 0x008 => t.pend | 0x00C => t.skewK | 0x010 => t.ckint
  | 0x018 => lo32 t.ckpts | 0x01C => hi32 t.ckpts
  | 0x020 => t.skewMax
  | 0x024 => t.c0.quarantines | 0x028 => t.c1.quarantines | 0x02C => t.c2.quarantines
  | 0x030 => t.wrViol
  | 0x034 => sat 16 t.discCrc + 65536 * sat 16 t.discSeq
  | 0x038 => t.disCore + 4 * t.disCause
  | 0x040 => lo32 t.disSig0 | 0x044 => hi32 t.disSig0 | 0x048 => lo32 t.disSig1 | 0x04C => hi32 t.disSig1
  | 0x050 => lo32 t.disSig2 | 0x054 => hi32 t.disSig2
  | _ => 0

def State.readTsk (s : State) (o : Nat) : Nat :=
  let r (t : Nat) := s.taskRun t
  match o with
  | 0x000 => maskOf 16 s.taskOn + 65536 * maskOf 16 (fun t => decide ((r t).state = .late))
  | 0x004 => s.tsk.ctrl | 0x008 => s.tsk.pend
  | 0x00C => maskOf 16 (fun t => (r t).first)
  | _ =>
    if o < 0x200 then
      let x := r ((o - 0x100) / 0x10)
      match o % 0x10 with | 0 => lo32 x.cycles | 4 => hi32 x.cycles | 8 => x.last | _ => x.max
    else
      let x := r ((o - 0x200) / 4)
      sat 16 x.skipped + 65536 * sat 8 x.consec + 16777216 * x.state.code

/-- Enabled loops that stand in HELD or FAIL. -/
def State.loopsHeld (s : State) : Nat := (s.slots.filter (fun i => let m := (s.loop i).modeAct; m == 6 || m == 7)).length

def State.cenStatus (s : State) : Nat :=
  (2 ^ min 8 s.cen.backlog - 1) + bitAt (s.loopsRun && !s.slots.isEmpty) 8 + bitAt (s.shadows && !s.slots.isEmpty) 9
    + bitAt s.cen.admitted 10 + bitAt s.cen.missSeen 11 + bitAt s.cen.numSeen 12

def State.readCen (s : State) (b : Bank) (o : Nat) : Nat :=
  let c := s.cen
  match o with
  | 0x000 => s.cenStatus | 0x004 => c.ctrl | 0x008 => c.rate | 0x00C => s.slots.length
  | 0x010 => lo32 c.evals | 0x014 => hi32 c.evals | 0x018 => c.missed | 0x01C => c.numeric | 0x020 => s.loopsHeld
  | 0x024 => c.backlogMax | 0x028 => c.laneMax | 0x02C => c.lastMiss | 0x030 => b.cenGrpSel
  | 0x034 => let g := b.cenGrpSel
    bitAt (s.groupOn g) 0 + bitAt (s.group g).missedNow 1 + 65536 * sat 16 (s.group g).missed
  | _ => (s.group b.cenGrpSel).finish

/-- MER_STATE (Table 04-9). -/
def State.merState (s : State) : Nat := s.mq + bitAt s.mer.plan.isSome 8 + bitAt s.mer.capDone 9

def State.readMer (s : State) (o : Nat) : Nat :=
  let m := s.mer
  let now := i64 s.now
  let off := i64 (Int.fdiv m.offset 4294967296)
  match o with
  | 0x000 => s.merState | 0x004 => bitAt m.stepGo 0
  | 0x008 => lo32 now | 0x00C => hi32 now | 0x010 => lo32 m.raw | 0x014 => hi32 m.raw
  | 0x018 => lo32 off | 0x01C => hi32 off | 0x020 => (m.offset % 4294967296).toNat | 0x024 => ofSigned 32 m.rho
  | 0x028 => lo32 (i64 m.stepReg) | 0x02C => hi32 (i64 m.stepReg)
  | 0x030 => lo32 m.capRaw | 0x034 => hi32 m.capRaw | 0x038 => lo32 (i64 m.capNow) | 0x03C => hi32 (i64 m.capNow)
  | 0x0A0 => lo32 m.opMs | 0x0A4 => hi32 m.opMs | 0x0A8 => m.pcyc | 0x0AC => m.steps | 0x0B0 => m.breaks
  | _ =>
    if o < 0x080 then
      let p := m.port ((o - 0x040) / 0x10)
      ofSigned 32 (match o % 0x10 with | 0 => p.inLat | 4 => p.egLat | _ => p.asym)
    else ofSigned 32 (m.canLat.getD ((o - 0x080) / 8 + (if o % 8 = 0 then 0 else 4)) 0)

def State.readWpt (s : State) (b : Bank) (o : Nat) : Nat :=
  match o with
  | 0x000 => (s.wpt.slots.filter (fun x => x.2.enable)).length % 2048 + bitAt (!s.wpt.staged.isEmpty) 16
  | 0x004 => s.wpt.ctrl | 0x008 => s.wpt.pend | 0x00C => s.wpt.last | 0x010 => b.wptSel | 0x014 => 0 | 0x018 => b.wptResult
  | _ => b.wptRec.getD ((o - 0x020) / 4) 0

/-- Role state of Legend 0x50000.0. -/
def State.roleState (s : State) : Nat :=
  if s.role = 2 then 4 else if !s.pairMember then 0 else if s.red.suspended then 3 else if s.red.holds then 1 else 2

def State.readRed (s : State) (o : Nat) : Nat :=
  let r := s.red
  match o with
  | 0x000 => s.roleState + bitAt s.ownsClaim 3 + bitAt s.permitted 4 + bitAt r.ready 5
  | 0x004 => r.ctrl | 0x008 => r.pend | 0x00C => r.cur.claim | 0x010 => r.cur.holder % 256 + 256 * (r.prev.holder % 256) | 0x014 => r.prev.claim
  | 0x018 => lo32 (i64 r.cur.f) | 0x01C => hi32 (i64 r.cur.f) | 0x024 => lo32 r.seq
  | 0x028 => r.rejLower | 0x02C => r.rejHolder | 0x030 => r.rejTag | 0x034 => r.rejValue
  | 0x038 => lo32 (i64 r.lastRenewM) | 0x03C => hi32 (i64 r.lastRenewM) | 0x040 => r.copyMax | 0x044 => r.copyDisc
  | _ => 0

/-- DIO_CHn_STAT (Table 10-9). -/
def State.dioStat (s : State) (n : Nat) : Nat :=
  let c := s.dioCh n
  let l := s.dioConds n
  (maskOf 9 (fun i => l.contains (i + 1)) + bitAt (l.contains 10) 9 + bitAt (l.contains 11) 10) + bitAt c.latched 11
    + 4096 * sat 4 ((c.tries.filter (fun t => decide (s.mer.raw < t + s.retryW))).length)

def State.readDio (s : State) (o : Nat) : Nat :=
  match o with
  | 0x000 => maskOf 4 (fun g => (s.dioGrp g).link) + 16 * maskOf 4 (fun g => (s.dioGrp g).low) + 256 * maskOf 4 (fun g => (s.dioGrp g).missing)
      + bitAt s.dio.ready 12
  | 0x004 => s.dio.ctrl
  | 0x008 => maskOf 32 (fun n => (s.dioCh n).state) | 0x00C => maskOf 32 (fun n => (s.dioCh n).raw)
  | 0x010 => maskOf 32 (fun n => (s.dioCh n).cmd) | 0x014 => maskOf 32 (fun n => (s.dioCh n).rb)
  | 0x018 => maskOf 32 (fun n => (s.dioCh n).latched) | 0x01C => 0
  | 0x020 => maskOf 32 (fun n => (s.dioConds n).contains 9) | 0x024 => maskOf 32 (fun n => (s.dioConds n).contains 10)
  | 0x028 => s.dio.cosPend
  | _ =>
    if o < 0x100 then let g := s.dioGrp ((o - 0x030) / 4); g.mv % 65536 + bitAt g.low 16 + bitAt g.missing 17
    else if o < 0x300 then
      let n := (o - 0x100) / 0x10
      match o % 0x10 with | 0 => s.dioCfg n | 4 => s.dioDeb n | 8 => s.dioMaxact n | _ => s.dioStat n
    else if o < 0x380 then (s.dioCh ((o - 0x300) / 4)).counter
    else sat 16 (s.dioCh ((o - 0x380) / 4)).current

/-- AIO_AIn_STAT and AIO_AOn_STAT (Table 11-9). -/
def State.aiStat (s : State) (n : Nat) : Nat :=
  s.aiDetail n % 16 + bitAt (s.aiCh n).limiterOpen 4 + 32 * s.hartShown (2 * n)
def State.aoStat (s : State) (n : Nat) : Nat :=
  s.aoDetail n % 16 + bitAt (s.aoCh n).lowHead 4 + bitAt (s.aoCh n).highZ 5 + 64 * s.hartShown (2 * n + 1) + 256 * ((s.aoCh n).ds % 4)

/-- A trim register: REAL32 bits of Z or K of channel `c`. -/
def State.trimReg (s : State) (c : Nat) (k : Bool) : Nat := (F64.narrow (if k then s.trimK c else s.trimZ c)).toNat

def State.readAio (s : State) (o : Nat) : Nat :=
  match o with
  | 0x000 => bitAt s.aio.link 0 + bitAt s.aio.ready 1
      + 4 * maskOf 8 (fun n => s.hartShown (2 * n) != 3 && s.hartShown (2 * n + 1) != 3)
  | 0x004 => s.aio.ctrl | 0x008 => s.aio.pend
  | _ =>
    if o < 0x200 then
      let n := (o - 0x100) / 0x20
      match o % 0x20 with
      | 0x00 => s.aiCfg n | 0x04 => (s.aiCh n).code % 262144 | 0x08 => s.aiStat n | 0x0C => s.trimReg n false | _ => s.trimReg n true
    else
      let n := (o - 0x200) / 0x20
      match o % 0x20 with
      | 0x00 => setField (s.aoCfg n) 15 15 (s.paralleled (.ao n)).toNat | 0x04 => (s.aoCh n).dac % 65536 | 0x08 => (s.aoCh n).rbCode % 65536
      | 0x0C => sat 16 (s.aoCh n).head | 0x10 => s.aoStat n | 0x14 => s.trimReg (8 + n) false | 0x18 => s.trimReg (8 + n) true
      | _ => Table.get s.aio.aoSafe 0 n

/-- State of the set: 0 none, 1 pending, 2 active. -/
def State.setState (s : State) : Nat := if s.saf.pending.isSome then 1 else if s.saf.set.isSome then 2 else 0

/-- SAF_Qp_STAT, SAF_FNf_STAT (Table 12-9). -/
def State.pairStat (s : State) (p : Nat) : Nat :=
  let x := s.safPair p
  packBits [x.stuckH, x.stuckL, x.openH, x.openL, x.xshort, x.short, x.overload, x.extDrive, x.nhCond] + 65536 * sat 16 x.ma
def State.fnStat (s : State) (f : Nat) : Nat := let x := s.safFn f; x.state % 4 + bitAt x.demand 2 + bitAt x.envelope 3

def State.readSaf (s : State) (o : Nat) : Nat :=
  match o with
  | 0x000 => bitAt s.saf.link 0 + 2 * s.setState + bitAt s.stationWired 3 + bitAt s.safHolder 4 + bitAt s.dieFault 5
  | 0x004 => s.saf.ctrl
  | 0x008 => maskOf 12 s.safOn + 65536 * maskOf 12 (fun n => (s.safCh n).raw)
  | 0x00C => maskOf 12 s.chLatched + 65536 * maskOf 6 (fun q => s.saf.disc.contains q) + 16777216 * maskOf 4 (fun k => s.saf.sources.contains k)
  | 0x010 => maskOf 4 (fun p => (s.safPair p).energised) + 16 * maskOf 4 (fun p => (s.safPair p).highClosed)
      + 256 * maskOf 4 (fun p => (s.safPair p).lowClosed) + 4096 * maskOf 4 (fun p => (s.safPair p).permit)
  | 0x014 => maskOf 4 (fun p => (s.safPair p).edmOn) + 16 * maskOf 4 (fun p => (s.safPair p).edmFault)
  | 0x018 => s.saf.pend | 0x01C => s.saf.crc | 0x020 => lo32 s.saf.checks | 0x024 => s.saf.diverge
  | _ =>
    if o < 0x060 then s.fnStat ((o - 0x040) / 4)
    else if o < 0x070 then s.pairStat ((o - 0x060) / 4)
    else if o < 0x078 then ofSigned 32 (s.safAxis ((o - 0x070) / 4)).speed
    else if o < 0x080 then axisBits (s.safAxis ((o - 0x078) / 4))
    else
      let n := (o - 0x080) / 4
      s.safMode n + 16 * (s.safChQuality n / 8 % 16)

/-- A measurement that no command carries: 0 before the raw counter starts (reset), then a free value of its instant. -/
def State.measured (s : State) (e n : Nat) : Nat := if s.mer.raw = 0 then 0 else Config.freeElement (ea e n) s.mer.raw % 65536

/-- CANc_STATUS, CANc_ERR, CANc_OBJo_STAT (Tables 13-11, 13-13). -/
def State.canStatus (s : State) (c : Nat) : Nat :=
  let x := s.canCtl c
  s.canMode c + 4 * (if x.busOff then 2 else if x.passive then 1 else 0) + bitAt (96 ≤ x.tec || 96 ≤ x.rec_) 4 + bitAt x.recovering 5
    + bitAt x.idle 6
def State.canErr (s : State) (c : Nat) : Nat :=
  let x := s.canCtl c
  sat 9 x.tec + 65536 * min x.rec_ 127 + 16777216 * x.lec + bitAt x.lecData 27
def State.canErrCnt (s : State) (c : Nat) : Nat :=
  let x := s.canCtl c
  sat 8 x.errBit + 256 * sat 8 x.errStuff + 65536 * sat 8 x.errForm + 16777216 * sat 4 x.errAck + 268435456 * sat 4 x.errCrc
def State.objStat (s : State) (c o : Nat) : Nat :=
  let x := s.canObj c o
  x.outcome % 8 + bitAt x.pending 3 + bitAt x.inTx 4 + bitAt x.rxStale 5 + 65536 * sat 16 x.overwritten

def State.readCan (s : State) (c o : Nat) : Nat :=
  let x := s.canCtl c
  match o with
  | 0x000 => s.canStatus c | 0x004 => x.ctrl | 0x008 => x.nbt | 0x00C => x.dbt | 0x010 => x.tdc % 256 + 65536 * x.tdcMeas | 0x014 => s.canErr c
  | 0x018 => x.pend | 0x01C => x.ie | 0x030 => lo32 x.rxcnt | 0x034 => lo32 x.txcnt | 0x038 => x.noMatch | 0x03C => x.busoffs
  | 0x040 => s.canErrCnt c
  | _ =>
    if o < 0x030 then let k := (o - 0x020) / 4; maskOf 32 (fun i => (s.canObj c (32 * k + i)).pending)
    else if o < 0x800 then
      let v := Table.get x.flt 0 ((o - 0x100) / 8)
      half32 (if o % 8 = 0 then 0 else 1) v
    else s.objStat c ((o - 0x800) / 4)

def NetPart.port (n : NetPart) : Nat → PortState
  | 0 => n.na | 1 => n.nb | 2 => n.ia | _ => n.ib
def NetPart.lane (n : NetPart) : Nat → Lane
  | 0 => n.tl0 | _ => n.tl1
/-- The counters of a port and a lane in map order (Table 14-8). -/
def PortState.counters (p : PortState) : List Nat := [p.rxok, p.txok, p.other, p.policed, p.viol, p.aborted, p.dupdisc, p.downs]
/-- How many blocks the messages handed to a lane took follows from no rule: a free value. -/
def Lane.counters (l : Lane) : List Nat :=
  [l.rx, if l.tx = 0 then 0 else Config.freeElement (ea 0xA0200 1) l.tx % 2 ^ 32, l.crc, l.downs]

/-- Heads affected by the present break: those that missed a cycle while the ring is open (R376). -/
def State.headsAffected (s : State) : Nat :=
  if s.ring.isOpen then maskOf 24 (fun h => let x := s.ring.heads.find h; match x with | some y => y.missed != 0 || decide (y.state ≠ .present) | none => false)
  else 0

def State.readNet (s : State) (o : Nat) : Nat :=
  let n := s.net
  match o with
  | 0x000 => packBits [n.na.up, n.nb.up, n.ia.up, n.ib.up, n.tl0.up, n.tl1.up, s.ring.isOpen, s.el 0xA0000 0 0 == 1]
  | 0x004 => n.ctrl | 0x008 => n.pend
  | 0x00C => if s.ring.isOpen then s.ring.breakA % 256 + 256 * s.headsAffected else 0
  | 0x010 => lo32 n.mac | 0x014 => hi32 n.mac % 65536
  | _ =>
    if o < 0x200 then lo32 ((n.port ((o - 0x100) / 0x40)).counters.getD (o % 0x40 / 4) 0)
    else lo32 ((n.lane ((o - 0x200) / 0x10)).counters.getD (o % 0x10 / 4) 0)

def LegendPart.openSessions (l : LegendPart) : Nat := (l.sessions.filter (fun x => x.2.state == 2)).length

def State.readLeg (s : State) (b : Bank) (o : Nat) : Nat :=
  let l := s.leg
  let q := Table.get l.queues {} b.legQsel
  match o with
  | 0x000 => bitAt l.udpUp 0 + bitAt l.canUp 1 + 256 * (l.openSessions % 256)
  | 0x004 => l.ctrl | 0x008 => l.pend | 0x00C => b.legQsel
  | 0x010 => q.cls % 8 + 65536 * sat 16 q.depth | 0x014 => sat 16 q.fill + 65536 * sat 16 q.credit | 0x018 => sat 16 q.maxFill
  | 0x01C => q.refusals | 0x020 => l.busy | 0x024 => l.viol | 0x028 => lo32 l.admitted | _ => hi32 l.admitted

def State.readEvr (s : State) (o : Nat) : Nat :=
  let e := s.evr
  match o with
  | 0x000 => packBits [e.ready, e.wipeLeft != 0, e.flushing] | 0x004 => e.ctrl | 0x008 => e.pend
  | 0x010 => lo32 e.next | 0x014 => hi32 e.next | 0x018 => lo32 e.epochSeq | 0x01C => hi32 e.epochSeq | 0x020 => e.epoch
  | 0x024 => 0x00080000 | 0x028 => e.staged.length | 0x02C => e.dropped | _ => e.wipeLeft

/-- CRT_STATUS (Table 16-5). The phase of an update is 1 for its first 30 ms and 2 from then on (DESIGN CHOICE). -/
def State.crtStatus (s : State) : Nat :=
  let c := s.crt
  let u := c.update
  let ph : Nat := match u with | none => 0 | some x => if s.mer.raw < x.at_ + ticksMs 30 then 1 else 2
  bitAt u.isSome 0 + bitAt (match u with | some x => x.external | none => false) 1 + 4 * ph + bitAt s.reserveOk 4 + bitAt c.weak 5
    + bitAt (c.fp.held || c.ext.held) 6 + bitAt c.banner 7 + bitAt c.present 8

def State.readCrt (s : State) (o : Nat) : Nat :=
  let c := s.crt
  match o with
  | 0x000 => s.crtStatus | 0x004 => bitAt c.full 2 + bitAt c.lp 3 | 0x008 => c.pend | 0x00C => c.ie | 0x010 => c.extCfg
  | 0x014 => sat 16 c.reserveMv + 65536 * sat 16 c.capMf | 0x018 => ofSigned 16 c.temp + 65536 * c.band
  | 0x01C => match c.keys with | k :: _ => k + 2 ^ 31 | [] => 0
  | 0x020 => c.markSeq | _ => c.lastFirst % 1024 + 65536 * (c.lastLast % 1024)

/-- CLK_STATUS (Table 17-9). -/
def State.clkStatus (s : State) : Nat :=
  let c := s.clk
  c.root + 8 * maskOf 5 (fun k => (c.source k).ok) + 256 * packBits [c.aLock, c.aCoast, c.bLock, c.bCoast] + bitAt s.fallback 12
    + bitAt c.switching.isSome 13

def State.readClk (s : State) (o : Nat) : Nat :=
  let c := s.clk
  match o with
  | 0x000 => s.clkStatus | 0x004 => c.ctrl | 0x008 => c.pend | 0x00C => c.trimCode % 1048576 + 1048576 * c.trimRef
  | 0x024 => ofSigned 32 c.ratioXb | 0x028 => ofSigned 32 c.ratioRc
  -- The 400 MHz and 100 MHz domains are never gated while the counter and the monitors run (R415).
  | 0x02C => if s.mer.running then 0x05 else 0
  | 0x030 => c.switches | 0x034 => c.deadSw
  | _ => ofSigned 32 (c.source ((o - 0x010) / 4)).err

/-- MEM_STATUS (Table 17-10). -/
def State.memStatus (s : State) : Nat := packBits [s.mem.bistPassed, s.mem.spares, s.mem.tamper, s.mem.secureReady]

def State.readMem (s : State) (o : Nat) : Nat :=
  let m := s.mem
  match o with
  | 0x000 => s.memStatus | 0x004 => m.ctrl | 0x008 => m.pend | 0x00C => m.sramCe | 0x010 => m.sramUe | 0x014 => m.sramAddr
  | 0x018 => m.dramCe | 0x01C => m.dramUe
  | _ =>
    if o < 0x100 then let x := m.own ((o - 0x020) / 4); x.owner + bitAt x.transferring 3
    else Table.get m.bist 0 ((o - 0x100) / 4)

/-- FAULT: the module holds itself in reset, or rung 15 is called for (R433). -/
def State.faultPin (s : State) : Bool := s.pwr.fault || s.mode.faults.any (fun f => f.rung == 15)

/-- PWR_STATUS (Table 17-13). -/
def State.pwrStatus (s : State) : Nat :=
  let p := s.pwr
  packBits [p.inaOk, p.inbOk, p.inaIso, p.inbIso, p.pfail, decide (38000 ≤ p.holdMv), p.weak, p.pcrq && decide (s.mer.raw < p.pcrqUntil), s.faultPin]

def State.readPwr (s : State) (o : Nat) : Nat :=
  let p := s.pwr
  match o with
  | 0x000 => s.pwrStatus | 0x004 => p.ctrl | 0x008 => p.pend | 0x00C => p.ina | 0x010 => p.inb | 0x014 => s.measured 0xD0200 3
  | 0x018 => sat 16 p.holdMv + 65536 * sat 16 p.holdCap | 0x01C => 700 + 10 * p.code | 0x020 => p.code | 0x024 => s.measured 0xD0200 6
  | _ => p.pfails

/-- The value a read of an implemented register returns to the agent whose bank is `b`, without side effects. -/
def State.regRead (s : State) (b : Bank) (f o : Nat) : Nat :=
  match f with
  | 0x00 => s.readSys o | 0x01 => s.readTri o | 0x02 => s.readTsk o | 0x03 => s.readCen b o | 0x04 => s.readMer o | 0x05 => s.readWpt b o
  | 0x06 => s.readRed o | 0x07 => s.readDio o | 0x08 => s.readAio o | 0x09 => s.readSaf o | 0x0A => s.readCan 0 o | 0x0B => s.readCan 1 o
  | 0x0C => s.readCan 2 o | 0x0D => s.readCan 3 o | 0x0E => s.readNet o | 0x0F => s.readLeg b o | 0x10 => s.readEvr o | 0x11 => s.readCrt o
  | 0x12 => s.readClk o | 0x13 => s.readMem o | 0x14 => s.readPwr o | _ => 0

/-- The value of a holding location (R444). -/
def State.holdRead (s : State) (o : Nat) : Nat := Table.get s.sys.holding 0 o

end Sys2Proof.Machine
end

