-- ==== Sys2Proof/Machine/RegWrite.lean ====
section
/-!
DEFINITION. What a write of each register does, and the checks before it (R437 to R442).
-/
namespace Sys2Proof.Machine

/-! ## Waypoint window (R449) -/

/-- The 32 bytes of a Waypoint record (Table 04-6). -/
def wptBytes (r : WptRec) : List Byte :=
  leBytes 8 (i64 r.instant) ++ leBytes 8 r.period ++ leBytes 1 r.action
    ++ leBytes 1 (packBits [r.enable, r.skipUnsync, false, false, false, r.suppressed, r.unsync, r.late]) ++ leBytes 2 r.count ++ leBytes 4 r.target
    ++ leBytes 4 r.arg ++ leBytes 2 r.fired ++ leBytes 2 r.missed

/-- The record of 32 bytes; FLAGS bits 5 to 7, FIRED and MISSED are read only and not taken. -/
def wptOfBytes (l : List Byte) : WptRec :=
  let n (o k : Nat) : Nat := leNat ((l.drop o).take k)
  { instant := toSigned 64 (n 0 8), period := n 8 8, action := n 16 1, enable := bitOf (n 17 1) 0, skipUnsync := bitOf (n 17 1) 1, count := n 18 2,
    target := n 20 4, arg := n 24 4 }

/-- The little-endian words of a list of bytes. -/
def wordsOf : Nat → List Byte → List Nat
  | 0, _ => []
  | n + 1, l => leNat (l.take 4) :: wordsOf n (l.drop 4)

/-- Change an agent's bank. -/
def State.updBank (s : State) (a : Agent) (f : Bank → Bank) : State := { s with sys := s.sys.setBank a (f (s.sys.bank a)) }

/-- LOAD: the record of slot WPT_SEL into the agent's window. -/
def State.wptLoad (s : State) (a : Agent) : State :=
  s.updBank a (fun b => { b with wptRec := wordsOf 8 (wptBytes (s.slot b.wptSel)), wptResult := 2 ^ 31 })

/-- Outcome codes of WPT_RESULT (Table 18-12). -/
def wptCode : Status → Nat
  | .tooLate => 1 | .staged => 2 | .invalid => 3 | .protected_ => 4 | _ => 0

/-- ARM: the window to slot WPT_SEL as one write. Firmware's own slots 0 to 383 are written by the triad alone. -/
def State.wptArm (s : State) (a : Agent) : State :=
  let b := s.sys.bank a
  let r := wptOfBytes (b.wptRec.flatMap (leBytes 4))
  let own := b.wptSel < 384 && a == .triad
  let bad := if own then (match s.slotFault (b.wptSel + 384) r with
      | some .staged => if s.slotStaged b.wptSel then some .staged else none
      | x => x) else s.slotFault b.wptSel r
  let bad := if own && s.slotStaged b.wptSel && bad.isNone then some .staged else bad
  let s := match bad with | none => s.writeSlot b.wptSel r | some _ => s
  s.updBank a (fun b => { b with wptResult := 2 ^ 31 + (match bad with | some st => wptCode st | none => 0) })

/-! ## Snapshots (R444) -/

/-- An armed or running snapshot. -/
def RegPart.snapping (r : RegPart) : Bool := r.snapArmed || r.snapBusy

/-- Arm a snapshot for an instant; 0 takes the first tick after the write. -/
def State.armSnapshot (s : State) (t : MTime) : State :=
  { s with sys := { s.sys with snapArmed := true, snapRefused := false, snapOverrun := false, snapDue := if t = 0 then s.now + 1 else t } }

/-- SYS_SNAP_CTRL.GO. -/
def State.snapGo (s : State) : State :=
  let t := toSigned 64 s.sys.snapAt
  if s.sys.snapping then ({ s with sys := { s.sys with snapOverrun := true } } : State).evRep 0xF005 0 [1]
  else if t ≠ 0 && (decide (t < s.now + 5000) || decide (s.now + 10000000000 < t)) then
    ({ s with sys := { s.sys with snapRefused := true } } : State).evRep 0xF005 0 [0]
  else s.armSnapshot t

/-! ## Writes by block -/

/-- Bits cleared by writing 1. -/
def clear1 (old v : Nat) : Nat := old - (old &&& v)

/-- Corrupt the next signature of a core (R88). -/
def State.injectCore (s : State) (c : Nat) : State :=
  if c < 3 && (s.tri.core c).state = .active then { s with tri := s.tri.setCore c { s.tri.core c with inject := true } } else s

/-- RED_PERMIT (R203, Table 18-13). -/
def State.refreshPermit (s : State) (v : Nat) : State :=
  if v = 0xC1A1 then { s with red := { s.red with permitAt := some s.mer.raw } } else s

/-- DIO_UNLATCH (R283). -/
def State.unlatchMask (s : State) (mask : Nat) : State :=
  s.each ((upto 32).filter (bitOf mask)) (fun s n => s.updDio n (fun c => { c with unlatch := true }))

def State.writeSys (s : State) (o v : Nat) : State :=
  match o with
  | 0x00C =>
    { s with mode := { s.mode with mode := (Mode.ofCode (v % 8)).getD .blank, prev := (Mode.ofCode (v / 8 % 8)).getD .blank } }
  | 0x010 => { s with sys := { s.sys with window := bitOf v 1 } }
  | 0x030 =>
    let s : State := { s with sys := { s.sys with snapDoneIe := bitOf v 1 } }
    if bitOf v 0 then s.snapGo else s
  | _ => s

def State.writeTri (s : State) (o v : Nat) : State :=
  match o with
  | 0x004 => { s with tri := { s.tri with ctrl := v % 4 } }
  | 0x008 => { s with tri := { s.tri with pend := clear1 s.tri.pend v } }
  | 0x00C => let k := v % 2048; if 20 ≤ k && k ≤ 2000 then { s with tri := { s.tri with skewK := k } } else s
  | 0x010 => if 4096 ≤ v && v ≤ 1048576 then { s with tri := { s.tri with ckint := v } } else s
  | 0x058 => s.injectCore (v % 4)
  | _ => s

def State.writeTsk (s : State) (o v : Nat) : State :=
  match o with
  | 0x004 => { s with tsk := { s.tsk with ctrl := v % 4 } }
  | 0x008 => { s with tsk := { s.tsk with pend := clear1 s.tsk.pend v } }
  | _ => s

def State.writeCen (s : State) (a : Agent) (o v : Nat) : State :=
  match o with
  | 0x000 => { s with cen := { s.cen with missSeen := s.cen.missSeen && !bitOf v 11, numSeen := s.cen.numSeen && !bitOf v 12 } }
  | 0x004 =>
    let s : State := { s with cen := { s.cen with ctrl := v % 4 } }
    if bitOf v 2 then s.clearMaxima else s
  | 0x030 => if v < 256 then s.updBank a (fun b => { b with cenGrpSel := v }) else s
  | _ => s

def State.writeMer (s : State) (o v : Nat) : State :=
  match o with
  | 0x004 =>
    let s := if bitOf v 0 then s.stepGo else s
    if bitOf v 1 then s.capture else s
  | 0x024 => { s with mer := s.mer.setRho (toSigned 32 v) }
  | _ =>
    if o < 0x080 then
      { s with mer := s.mer.updPort ((o - 0x040) / 0x10) (fun p =>
        match o % 0x10 with
        | 0 => { p with inLat := toSigned 32 v } | 4 => { p with egLat := toSigned 32 v } | _ => { p with asym := toSigned 32 v }) }
    else { s with mer := { s.mer with canLat := s.mer.canLat.set ((o - 0x080) / 8 + (if o % 8 = 0 then 0 else 4)) (toSigned 32 v) } }

def State.writeWpt (s : State) (a : Agent) (o v : Nat) : State :=
  match o with
  | 0x004 => { s with wpt := { s.wpt with ctrl := v % 4 } }
  | 0x008 => { s with wpt := { s.wpt with pend := clear1 s.wpt.pend v } }
  | 0x010 => s.updBank a (fun b => { b with wptSel := v % 1024 })
  | 0x014 => if v % 4 = 1 then s.wptLoad a else if v % 4 = 2 then s.wptArm a else s
  | _ => s.updBank a (fun b => { b with wptRec := b.wptRec.set ((o - 0x020) / 4) v })

def State.writeRed (s : State) (o v : Nat) : State :=
  match o with
  | 0x004 => { s with red := { s.red with ctrl := v % 4 } }
  | 0x008 => { s with red := { s.red with pend := clear1 s.red.pend v } }
  | 0x020 => s.refreshPermit v
  | _ => s

def State.writeDioReg (s : State) (o v : Nat) : State :=
  match o with
  | 0x004 => { s with dio := { s.dio with ctrl := v % 4 } }
  | 0x01C => s.unlatchMask v
  | 0x028 => { s with dio := { s.dio with cosPend := clear1 s.dio.cosPend v } }
  | _ =>
    let n := (o - 0x100) / 0x10
    match o % 0x10 with
    | 0 => { s with dio := { s.dio with cfg := Table.set s.dio.cfg 0 n (v % 16384) } }
    | 4 => { s with dio := { s.dio with deb := Table.set s.dio.deb 1 n (max 1 (v % 65536)) } }
    | _ => { s with dio := { s.dio with maxact := Table.set s.dio.maxact 0 n v } }

/-- A trim register: Z or K of channel `c` takes a REAL32. -/
def State.writeTrim (s : State) (c : Nat) (k : Bool) (v : Nat) : State :=
  let x := (F32.widen (BitVec.ofNat 32 v)).toNat
  if k then { s with aio := { s.aio with k := Table.put s.aio.k c x } } else { s with aio := { s.aio with z := Table.put s.aio.z c x } }

def State.writeAio (s : State) (o v : Nat) : State :=
  match o with
  | 0x004 => { s with aio := { s.aio with ctrl := v % 2 } }
  | 0x008 => { s with aio := { s.aio with pend := clear1 s.aio.pend v } }
  | _ =>
    if o < 0x200 then
      let n := (o - 0x100) / 0x20
      match o % 0x20 with
      | 0x00 => { s with aio := { s.aio with aiCfg := Table.set s.aio.aiCfg 0 n (v % 512) } }
      | 0x0C => s.writeTrim n false v
      | _ => s.writeTrim n true v
    else
      let n := (o - 0x200) / 0x20
      match o % 0x20 with
      | 0x00 => { s with aio := { s.aio with aoCfg := Table.set s.aio.aoCfg 0x1000 n (v % 32768) } }
      | 0x14 => s.writeTrim (8 + n) false v
      | 0x18 => s.writeTrim (8 + n) true v
      | _ => { s with aio := { s.aio with aoSafe := Table.set s.aio.aoSafe 0 n v } }

def State.writeSaf (s : State) (o v : Nat) : State :=
  match o with
  | 0x004 => { s with saf := { s.saf with ctrl := v % 4 } }
  | 0x018 => { s with saf := { s.saf with pend := clear1 s.saf.pend v } }
  | _ => { s with saf := { s.saf with chCfg := Table.set s.saf.chCfg 0 ((o - 0x080) / 4) (v % 8) } }

def State.writeCan (s : State) (c o v : Nat) : State :=
  s.updCan c (fun x =>
    match o with
    | 0x004 => { x with ctrl := v % 32 } | 0x008 => { x with nbt := v % 2 ^ 27 } | 0x00C => { x with dbt := v % 2 ^ 18 } | 0x010 => { x with tdc := v % 256 }
    | 0x018 => { x with pend := clear1 x.pend v } | 0x01C => { x with ie := v % 64 }
    | _ =>
      let k := (o - 0x100) / 8
      let old := Table.get x.flt 0 k
      let w := v % 2 ^ 31
      { x with flt := Table.set x.flt 0 k (if o % 8 = 0 then hi32 old * 2 ^ 32 + w else w * 2 ^ 32 + lo32 old) })

def State.writeNet (s : State) (o v : Nat) : State :=
  if o = 0x004 then { s with net := { s.net with ctrl := v % 4 } } else { s with net := { s.net with pend := clear1 s.net.pend v } }

def State.writeLeg (s : State) (a : Agent) (o v : Nat) : State :=
  match o with
  | 0x004 => { s with leg := { s.leg with ctrl := v % 4 } }
  | 0x008 => { s with leg := { s.leg with pend := clear1 s.leg.pend v } }
  | _ => s.updBank a (fun b => { b with legQsel := v % 256 })

def State.writeEvr (s : State) (o v : Nat) : State :=
  if o = 0x004 then { s with evr := { s.evr with ctrl := v % 8 } } else { s with evr := { s.evr with pend := clear1 s.evr.pend v } }

def State.writeCrt (s : State) (o v : Nat) : State :=
  match o with
  | 0x004 =>
    let s : State := { s with crt := { s.crt with full := bitOf v 2, lp := bitOf v 3 } }
    let s := if bitOf v 0 then s.goPanel false else s
    if bitOf v 1 then s.goExternal else s
  | 0x008 => { s with crt := { s.crt with pend := clear1 s.crt.pend v } }
  | 0x00C => { s with crt := { s.crt with ie := v % 8 } }
  | _ => { s with crt := { s.crt with extCfg := v % 2 ^ 28 } }

def State.writeClk (s : State) (o v : Nat) : State :=
  if o = 0x004 then { s with clk := { s.clk with ctrl := v % 128 } } else { s with clk := { s.clk with pend := clear1 s.clk.pend v } }

def State.writeMem (s : State) (a : Agent) (o v : Nat) : State :=
  match o with
  | 0x004 => { s with mem := { s.mem with ctrl := v % 4 } }
  | 0x008 => { s with mem := { s.mem with pend := clear1 s.mem.pend v } }
  | _ => s.writeOwn a ((o - 0x020) / 4) v

def State.writePwr (s : State) (o v : Nat) : State :=
  match o with
  | 0x004 =>
    let s : State := { s with pwr := { s.pwr with ctrl := v % 4 } }
    if bitOf v 2 then s.drivePcrq else s
  | 0x008 => { s with pwr := { s.pwr with pend := clear1 s.pwr.pend v } }
  | _ => s.setVcore v

/-- Write an implemented 32-bit register that is no pair. -/
def State.setReg (s : State) (a : Agent) (f o v : Nat) : State :=
  match f with
  | 0x00 => s.writeSys o v | 0x01 => s.writeTri o v | 0x02 => s.writeTsk o v | 0x03 => s.writeCen a o v | 0x04 => s.writeMer o v
  | 0x05 => s.writeWpt a o v | 0x06 => s.writeRed o v | 0x07 => s.writeDioReg o v | 0x08 => s.writeAio o v | 0x09 => s.writeSaf o v
  | 0x0A => s.writeCan 0 o v | 0x0B => s.writeCan 1 o v | 0x0C => s.writeCan 2 o v | 0x0D => s.writeCan 3 o v | 0x0E => s.writeNet o v
  | 0x0F => s.writeLeg a o v | 0x10 => s.writeEvr o v | 0x11 => s.writeCrt o v | 0x12 => s.writeClk o v | 0x13 => s.writeMem a o v
  | 0x14 => s.writePwr o v | _ => s

/-- Write a 64-bit pair, named by its low register, in one tick (R440). -/
def State.setPair (s : State) (f o v : Nat) : State :=
  if f = 0 && o = 0x020 then { s with sys := { s.sys with asset := v, assetWritten := true } }
  else if f = 0 && o = 0x038 then { s with sys := { s.sys with snapAt := v } }
  else if f = 4 && o = 0x028 then { s with mer := { s.mer with stepReg := toSigned 64 v } }
  else s

/-- The fields of a triplicated register are whole again once it is written (R446). -/
def State.tmrRestored (s : State) (f o : Nat) : State :=
  let k := f * 0x1000 + o
  if (Table.find s.sys.tmr k).isSome then ({ s with sys := { s.sys with tmr := Table.erase s.sys.tmr k } } : State).closeFault 0 0xF003 k else s

/-! ## Access checks (R437, R438, R441) -/

/-- The write is refused WRITE-PROTECT: a locked field, a WOO register written before, a trim outside SERVICE. -/
def State.writeProtected (s : State) (d : RegDesc) (f o cur v : Nat) : Bool :=
  let armed := s.sys.armed && !s.sys.window
  let locked := armed && d.lck != 0 &&
    (d.lck == (d.rw ||| d.w1c ||| d.w1s ||| d.wo) || (cur &&& d.lck) != (v &&& d.lck))
  let trim := f == 8 && d.rw == all32 && d.lck == 0 && o != 0x21C
  locked || (d.woo && s.sys.assetWritten) || (trim && decide (s.mode.mode ≠ .service))

/-- Write one half of a pair with its other half. -/
def State.writeHalf (s : State) (a : Agent) (f o v : Nat) (addr : Nat) (d : RegDesc) : State :=
  let lo := if d.pair = 1 then o else o - 4
  let b := s.sys.bank a
  let curLo := s.regRead b f lo
  let curHi := s.regRead b f (lo + 4)
  if s.writeProtected d f o 0 v then s.refuseWrite a addr
  else if d.pair = 1 then s.setPair f lo (v + curHi * 2 ^ 32) else s.setPair f lo (curLo + v * 2 ^ 32)

/-- A 32-bit write of an implemented register; that of bank 45's owner cannot be written (R425). On a communication core the high half of a pair waits for its low half (R440). -/
def State.write32 (s : State) (a : Agent) (f o v addr : Nat) (d : RegDesc) : State :=
  let b := s.sys.bank a
  if d.readOnly then (if f = 0x13 && o = 0x024 then s.refuseWrite a addr else s)
  else if d.pair = 0 then
    if s.writeProtected d f o (s.regRead b f o) v then s.refuseWrite a addr else (s.setReg a f o v).tmrRestored f o
  else if a = .triad then s.writeHalf a f o v addr d
  else if d.pair = 2 then s.updBank a (fun b => { b with heldHigh := Table.put b.heldHigh (f * 0x1000 + o) v })
  else
    let k := f * 0x1000 + o + 4
    let hi := (Table.find b.heldHigh k).getD (s.regRead b f (o + 4))
    let s := s.updBank a (fun b => { b with heldHigh := Table.erase b.heldHigh k })
    if s.writeProtected d f o 0 v then s.refuseWrite a addr else s.setPair f o (v + hi * 2 ^ 32)

/-- A 64-bit write of a documented pair: atomic. -/
def State.write64 (s : State) (a : Agent) (f o v addr : Nat) (d : RegDesc) : State :=
  if d.readOnly then s else if s.writeProtected d f o 0 v then s.refuseWrite a addr else s.setPair f o v

/-- The bus error of a register write that depends on address and width alone: UNALIGNED, WIDTH, RESERVED; none if it is a
write the map admits (Tables 18-2, 18-3). `w` is the width code, 2^w bytes. -/
def writeCause (addr w : Nat) : Option Nat :=
  let n := 2 ^ w
  if addr % n ≠ 0 then some 1
  else
    let off := addr - 0x40000000
    let f := off / 0x1000
    let o := off % 0x1000
    if 0x80 ≤ f && f < 0x95 then
      if w = 3 then (match regDesc (f - 0x80) o with | some d => if d.pair = 1 then some 3 else some 2 | none => some 2) else some 3
    else match regDesc f (o / 4 * 4) with
      | none => if w = 3 then some 2 else some 3
      | some d => if w = 3 then (if d.pair = 1 then none else some 2) else if w = 2 then none else some 2

/-- The register a bit-alias word reaches: its frame, offset and bit, and its description (R442). -/
def aliasTarget (addr : Nat) : Option (Nat × Nat × Nat × RegDesc) :=
  let x := addr - 0x42000000
  let off := x / 128
  if off % 4 ≠ 0 then none
  else (regDesc (off / 0x1000) (off % 0x1000)).map (fun d => (off / 0x1000, off % 0x1000, x % 128 / 4, d))

/-- The bus error of an alias write that depends on address and width alone. -/
def aliasCause (addr w : Nat) : Option Nat :=
  if addr % 2 ^ w ≠ 0 then some 1 else if w = 3 then some 2 else if (aliasTarget addr).isNone then some 3 else none

/-- The effect of an alias write on its bit, by the bit's access code (R442). -/
def State.aliasSet (s : State) (a : Agent) (addr f o b : Nat) (d : RegDesc) (v : Bool) : State :=
  let cur := s.regRead (s.sys.bank a) f o &&& d.rw
  let bit := 2 ^ b
  let act (x : Nat) : State := if d.pair = 0 then s.write32 a f o x addr d else s.writeHalf a f o x addr d
  if bitOf d.rw b || (d.woo && d.pair != 0) then act (setBit (if d.woo then s.regRead (s.sys.bank a) f o else cur) b v)
  else if bitOf (d.w1c ||| d.w1s) b then (if v then act (cur + bit) else s)
  else if bitOf d.wo b then (if v then act bit else s)
  else if !d.readOnly && s.writeProtected d f o cur cur then s.refuseWrite a addr
  else s

/-- A write by an agent, checked and applied (R437 to R442). -/
def State.busWrite (s : State) (a : Agent) (addr w v : Nat) : State :=
  if inAlias addr then
    match aliasCause addr w, aliasTarget addr with
    | some c, _ => s.busError a c addr true
    | none, some (f, o, b, d) => s.aliasSet a addr f o b d (v % 2 = 1)
    | none, none => s
  else match writeCause addr w with
    | some c => s.busError a c addr true
    | none =>
      let off := addr - 0x40000000
      let f := off / 0x1000
      let o := off % 0x1000
      match regDesc f o with
      | some d => if w = 3 then s.write64 a f o (v % 2 ^ 64) addr d else s.write32 a f o (v % 2 ^ 32) addr d
      | none => s

end Sys2Proof.Machine
end

