-- ==== Sys2Proof/Machine/Registers.lean ====
section
/-!
DEFINITION. Register access by the agents, snapshots and the scrub of the triplicated fields (chapter 18).
-/
namespace Sys2Proof.Machine

/-! ## Reads (R437, R438, R443, R446) -/

/-- The bus error of a read of a location of the register frames (Tables 18-2, 18-3). -/
def regReadCause (addr w : Nat) : Option Nat :=
  let off := addr - 0x40000000
  let f := off / 0x1000
  let o := off % 0x1000
  if addr % 2 ^ w ≠ 0 then some 1
  else if 0x80 ≤ f && f < 0x95 then
    let g := f - 0x80
    if w = 3 then (if regHeld g o && (match regDesc g o with | some d => d.pair == 1 | none => false) then none else some 2)
    else if regHeld g (o / 4 * 4) then none else some 3
  else match regDesc f (o / 4 * 4) with
    | none => if w = 3 then some 2 else some 3
    | some d => if w = 3 && d.pair != 1 then some 2 else none

/-- A field of the register has no two copies that agree (R446). -/
def State.tmrBroken (s : State) (f o : Nat) : Bool := (Table.find s.sys.tmr (f * 0x1000 + o)).isSome

/-- The cause of a read, with the one that depends on the state. -/
def State.readCause (s : State) (addr w : Nat) : Option Nat :=
  if inAlias addr then
    match aliasCause addr w, aliasTarget addr with
    | some c, _ => some c
    | none, some (f, o, _, _) => if s.tmrBroken f o then some 7 else none
    | none, none => none
  else match regReadCause addr w with
    | some c => some c
    | none => let off := addr - 0x40000000; if s.tmrBroken (off / 0x1000) (off % 0x1000 / 4 * 4) then some 7 else none

/-- A word of the register frames as an agent reads it, without side effects. -/
def State.readWord (s : State) (b : Bank) (off : Nat) : Nat :=
  let f := off / 0x1000
  if 0x80 ≤ f then s.holdRead (off - 0x80000) else s.regRead b f (off % 0x1000)

/-- The value a read that meets no bus error returns; 2^w bytes. -/
def State.readValue (s : State) (a : Agent) (addr w : Nat) : Nat :=
  let b := s.sys.bank a
  if inAlias addr then
    match aliasTarget addr with
    | some (f, o, i, _) => s.regRead b f o / 2 ^ i % 2
    | none => 0
  else
    let off := addr - 0x40000000
    if w = 3 then s.readWord b off + 2 ^ 32 * s.readWord b (off + 4)
    else if w = 2 then
      match Table.find b.latchedHigh addr with
      | some h => h
      | none => s.readWord b off
    else s.readWord b (off / 4 * 4) / 2 ^ (8 * (off % 4)) % 2 ^ (8 * 2 ^ w)

/-- Side effects of a 32- or 64-bit read: a low Meridian register latches its high half, the high register's read uses the
latch up (R95); CRT_KEY pops (R437). -/
def State.readEffect (s : State) (a : Agent) (addr w : Nat) : State :=
  if w = 2 && (addr = 0x40004008 || addr = 0x40004010) then
    s.updBank a (fun b => { b with latchedHigh := Table.put b.latchedHigh (addr + 4) (s.regRead b 4 (addr % 0x1000 + 4)) })
  else if w = 2 && (addr = 0x4000400C || addr = 0x40004014) then s.updBank a (fun b => { b with latchedHigh := Table.erase b.latchedHigh addr })
  else if w = 2 && addr = 0x4001101C then s.popKey
  else s

/-- A read by an agent: the cause of a bus error (0 none), the value, and the state after it. -/
def State.busRead (s : State) (a : Agent) (addr w : Nat) : Nat × Nat × State :=
  match s.readCause addr w with
  | some c => (c, 0, s.busError a c addr false)
  | none => (0, s.readValue a addr w, s.readEffect a addr w)

/-- MER_LOW_READ_LATCH: a 32-bit read of MER_NOW_LO (0) or MER_RAW_LO (1). -/
def execMerLowReadLatch (agent : Agent) (reg : Fin 2) (s : State) : Res :=
  whenUp s (fun s =>
    let addr := 0x40004008 + 8 * reg.val
    let v := s.readValue agent addr 2
    (s.readEffect agent addr 2).send (.busRead agent.code addr v))

/-! ## Writes -/

/-- An address of the register frames. -/
def inFrames (addr : Nat) : Bool := decide (0x40000000 ≤ addr) && decide (addr < 0x40100000)

/-- REGISTER_WRITE: 2^width bytes, and at the voter commit for the triad (R439). -/
def execRegisterWrite (agent : Agent) (addr : Nat) (width : Fin 4) (value : Nat) (s : State) : Res :=
  if inFrames addr || inAlias addr then whenUp s (fun s => s.busWrite agent addr width.val value) else .fault .illFormed

/-- BIT_ALIAS_WRITE: a 32-bit write to an alias word. -/
def execBitAliasWrite (agent : Agent) (addr value : Nat) (s : State) : Res :=
  if inAlias addr then whenUp s (fun s => s.busWrite agent addr 2 value) else .fault .illFormed

/-- WPT_LOAD, WPT_ARM: WPT_CMD with 1 and 2 (R449). -/
def execWptLoad (agent : Agent) (s : State) : Res := whenUp s (fun s => s.wptLoad agent)
def execWptArm (agent : Agent) (s : State) : Res := whenUp s (fun s => s.wptArm agent)

/-! ## Snapshots (R444, R445) -/

/-- SNAPSHOT_GO: SYS_SNAP_CTRL.GO. -/
def execSnapshotGo (_agent : Agent) (s : State) : Res := whenUp s State.snapGo

/-- Milliseconds until an instant, rounded up. -/
def State.msUntil (s : State) (t : MTime) : Nat := ((t - s.now + 999999) / 1000000).toNat

/-- Legend 0x00010.0 (R445). -/
def State.reqSnapshot (s : State) (who : Who) (t : MTime) : Act :=
  if who.level.val < operator then ({ status := .privilege, detail := operator }, s)
  else if s.sys.snapping then ({ status := .busy, retry := max 1 (s.msUntil s.sys.snapDue + 1) }, s)
  else if t ≠ 0 && decide (t < s.now + 5000) then ({ status := .tooLate }, s)
  else if t ≠ 0 && decide (s.now + 10000000000 < t) then (ansRange, s)
  else (ansOk, s.armSnapshot t)

/-- SNAPSHOT_COMMAND. -/
def execSnapshotCommand (who : Who) (instant : MTime) (s : State) : Res :=
  request s who observer (fun s => giveBoth (s.reqSnapshot who instant))

/-- Every held register latches its value in its own block. -/
def State.latchHeld (s : State) : Table Nat :=
  (heldRegs.map (fun k => (k, s.regRead s.sys.triad (k / 0x1000) (k % 0x1000)))).filter (fun x => x.2 != 0)

/-- SNAPSHOT_TAKE: the first tick at which M has reached the armed instant. -/
def execSnapshotTake (s : State) : Res :=
  whenUp s (fun s =>
    if s.sys.snapArmed && decide (s.sys.snapDue ≤ s.now) then
      { s with sys := { s.sys with snapArmed := false, snapBusy := true, latched := s.latchHeld, snapTick := s.now } }
    else s)

/-- SNAPSHOT_COPY_END: the copy into the holding frames ends. -/
def execSnapshotCopyEnd (s : State) : Res :=
  whenUp s (fun s =>
    if s.sys.snapBusy then
      { s with sys := { s.sys with snapBusy := false, holding := s.sys.latched, snapSeq := (s.sys.snapSeq + 1) % 65536, snapTime := i64 s.sys.snapTick, snapIrq := s.sys.snapIrq || s.sys.snapDoneIe } }
    else s)

/-! ## Triplicated fields (R446) -/

/-- The registers of Table 18-4, as offsets from 0x4000_0000. -/
def tmrRegs : List Nat := [0x000C, 0x0010, 0x100C, 0x4024, 0x600C, 0x6010]

/-- A field without majority: the count, event 0xF003 and its rung; the hardware goes on from the last voted value. -/
def State.tmrFailure (s : State) (k : Nat) : State :=
  let v := (Table.find s.sys.tmr k).getD (s.regRead s.sys.triad (k / 0x1000) (k % 0x1000))
  let s : State := { s with sys := { s.sys with tmrFail := satInc 32 s.sys.tmrFail, tmr := Table.put s.sys.tmr k v } }
  s.faultRep 0 0xF003 k 3 [k / 0x1000, k % 0x1000]

/-- The voted value of a triplicated field. -/
def State.setVoted (s : State) (k v : Nat) : State :=
  match k with
  | 0x0010 => { s with sys := { s.sys with armed := bitOf v 0 } }
  | 0x600C => { s with red := { s.red with cur := { s.red.cur with claim := v } } }
  | 0x6010 => { s with red := { s.red with cur := { s.red.cur with holder := v % 256 }, prev := { s.red.prev with holder := v / 256 % 256 } } }
  | _ => s.setReg .triad (k / 0x1000) (k % 0x1000) v

/-- The copies two of which agree. -/
def majority (a b c : Nat) : Option Nat := if a = b || a = c then some a else if b = c then some b else none

/-- One field as the scrub reads it: its three copies. -/
def State.scrub (s : State) (k a b c : Nat) : State :=
  if !tmrRegs.contains k || (a = b && b = c) then s
  else match majority a b c with
  | some v =>
    let s : State := { s with sys := { s.sys with tmrCorr := satInc 32 s.sys.tmrCorr } }
    (if s.regRead s.sys.triad (k / 0x1000) (k % 0x1000) = v then s else s.setVoted k v).evRep 0xF002 0 [k / 0x1000, k % 0x1000]
  | none => s.tmrFailure k

/-- Fields without majority that a write has not restored: the block still stands at the last voted value, so no write has
come; the others are whole again. -/
def State.tmrStanding (s : State) : List Nat :=
  (s.sys.tmr.filter (fun x => s.regRead s.sys.triad (x.1 / 0x1000) (x.1 % 0x1000) == x.2)).map (·.1)

/-- TMR_SCRUB: the reading of every TMR field each millisecond; `upsets` are the fields whose copies it finds unequal. -/
def execTmrScrub (upsets : List (Nat × Nat × Nat × Nat)) (s : State) : Res :=
  whenUp s (fun s =>
    let stand := s.tmrStanding
    let gone := (s.sys.tmr.map (·.1)).filter (fun k => !stand.contains k)
    let s := s.each gone (fun s k => ({ s with sys := { s.sys with tmr := Table.erase s.sys.tmr k } } : State).closeFault 0 0xF003 k)
    let s := s.each stand (fun s k => s.tmrFailure k)
    s.each (upsets.filter (fun u => !stand.contains u.1)) (fun s u => s.scrub u.1 u.2.1 u.2.2.1 u.2.2.2))

end Sys2Proof.Machine
end

