-- ==== Sys2Proof/Machine/SafetySet.lean ====
section
/-!
DEFINITION. Loading and activating the safety set (R338, R339).
-/
namespace Sys2Proof.Machine

/-! ## The rules of the chapter -/

/-- The kind of a mode of Table 12-2: 1 fed from a source, 2 OSSD, 3 static, 0 unused. -/
def inKind (m : Nat) : Nat := if m = 0 then 0 else if m ≤ 4 then 1 else if m = 5 then 2 else 3

/-- A local point of the module, or none. -/
def pointNone (p : Nat) : Bool := p == 0xFFFFFFFF || p < 2 ^ 25

/-- Mode of a channel and of the input pair it lies in. -/
def setMode_ (x : SafetySet) (n : Nat) : Nat := x.chMode.getD n 0
def setPairIn (x : SafetySet) (q : Nat) : PairInRec := x.pairs.getD q {}

/-- Input pair q (R319): the channels of a pair in mode 1 or 2 are used, of one kind, and not fed by one source. -/
def pairInOk (x : SafetySet) (q : Nat) : Bool :=
  let r := setPairIn x q
  let a := setMode_ x (2 * q)
  let b := setMode_ x (2 * q + 1)
  r.mode ≤ 2 && 5 ≤ r.disc && r.disc ≤ 3000 && pointNone r.point
    && (r.mode == 0 || (inKind a != 0 && inKind a == inKind b && !(inKind a == 1 && a == b)))

/-- A DEMAND mask (Table 12-4): no mode 6 channel (R317), and a pair in mode 1 or 2 by its even bit. -/
def demandOk (x : SafetySet) (d : Nat) : Bool :=
  d < 4096 && (upto 12).all (fun n => !bitOf d n || (setMode_ x n != 6 && !((setPairIn x (n / 2)).mode != 0 && n % 2 == 1)))

/-- Function f (Table 12-4). -/
def State.fnOk (s : State) (x : SafetySet) (f : Nat) : Bool :=
  let r := x.fns.getD f {}
  let axis := x.axes.getD 0 {}
  r.type ≤ 3 && (r.type == 0 ||
    (demandOk x r.demand && r.outputs < 16 && r.restart ≤ 1 && (r.resetCh ≤ 11 || (r.resetCh == 0xFF && r.restart == 1))
      && (r.demPt == 0xFFFFFFFF || s.refOk r.demPt) && pointNone r.statePt
      && (r.type != 2 || r.tStop ≤ 30000)
      && (r.type != 3 || (r.axis ≤ 1 && !(r.axis == 1 && axis.source == 1) && r.tDelay ≤ 1000 && 0 < r.decel && 100 ≤ r.tMax && r.tMax ≤ 60000))))

/-- Output pair p (R323, R324). -/
def State.outOk (s : State) (x : SafetySet) (p : Nat) : Bool :=
  let r := x.outs.getD p {}
  100 ≤ r.testInterval && r.testInterval ≤ 60000 && (r.edmInput == 0xFF || (r.edmInput ≤ 3 && 1 ≤ r.edmMode)) && r.edmMode ≤ 6
    && 10 ≤ r.edmT && r.edmT ≤ 1000 && r.safeBehav ≤ 1 && (r.permitPt == 0xFFFFFFFF || s.refOk r.permitPt)

/-- Axis a (R321, R322); REAL32 values are finite (R234). -/
def axisOk (x : SafetySet) (a : Nat) : Bool :=
  let r := x.axes.getD a {}
  let fin (v : Nat) : Bool := F32.isFinite (BitVec.ofNat 32 v)
  r.source ≤ 1 && !(a == 1 && r.source == 1) && [1, 2, 4, 8, 16].contains r.w && fin r.ratio && fin r.tolPct && fin r.scale && pointNone r.point

/-- Entry of the first record that breaks a range or a rule. -/
def State.setFault (s : State) (x : SafetySet) : Option Nat :=
  let bad (n base : Nat) (ok : Nat → Bool) : List Nat := ((upto n).filter (fun i => !ok i)).map (base + ·)
  (bad 12 0x80100 (fun n => setMode_ x n ≤ 6 && pointNone (x.chPoint.getD n 0xFFFFFFFF))
    ++ bad 6 0x80180 (pairInOk x) ++ bad 8 0x80200 (s.fnOk x) ++ bad 4 0x80400 (s.outOk x) ++ bad 2 0x80500 (axisOk x)).head?

/-! ## Load and confirm -/

/-- A refused load or a discarded set, with its check (event 0x8003). -/
def State.setRefused (s : State) (check obj : Nat) : Act := (ansCheck check obj, s.evS 0x8003 fnSafety [check])

/-- Legend 0x80000.0: the staged set is checked and becomes PENDING under the CRC-32C of the staged bytes. -/
def State.reqSafetySet (s : State) (who : Who) (x : SafetySet) : Act :=
  let l := s.staged
  if s.sealed_ then ({ status := .writeProtect }, s)
  else if who.level.val < engineer then ({ status := .privilege, detail := engineer }, s)
  else if s.mode.mode ≠ .stop then (s.ansState, s)
  else if l.length < 65 || !s.signed l then s.setRefused 1 0
  else match s.setFault x with
    | some e => s.setRefused 11 e
    | none =>
      let c := crc32c l
      (ansOk, ({ s with saf := { s.saf with pending := some x, pendCrc := c, pendAt := s.mer.raw } } : State).evS 0x8001 fnSafety [c])

/-- SAFETY_SET_LOAD. -/
def execSafetySetLoad (who : Who) (set : SafetySet) (s : State) : Res := request s who observer (fun s => giveBoth (s.reqSafetySet who set))

/-- The pending set is gone. -/
def State.dropSet (s : State) : State := { s with saf := { s.saf with pending := none, pendCrc := 0, pendAt := 0 } }

/-- The pending set comes into force: firmware writes the configuration registers, and every function enters STOPPED. -/
def State.activateSet (s : State) (x : SafetySet) (partner : Option Nat) : State :=
  let c := s.saf.pendCrc
  let s := s.dropSet
  let s : State := { s with saf := { s.saf with
    set := some x, crc := c, activated := s.now, fns := s.saf.fns.map (fun f => (f.1, { demands := f.2.demands })),
    chCfg := (upto 12).foldl (fun t n => Table.set t 0 n (setMode_ x n)) [], disagree := [], lastCheck := s.mer.raw,
    pairs := s.saf.pairs.map (fun p => (p.1, { p.2 with edmReady := false, edmWait := none, permit := false })) } }
  let s := s.each (upto 6) (fun s q => s.noteDisagree (2 * q))
  ((s.each (upto 4) State.drivePair).evS 0x8002 fnSafety [c]).learnSet partner

/-- Legend 0x80000.1: the CRC of the pending set activates it; another value discards it. -/
def State.reqConfirmSet (s : State) (who : Who) (crc : Nat) (partner : Option Nat) : Act :=
  if who.level.val < engineer then ({ status := .privilege, detail := engineer }, s)
  else match s.saf.pending with
    | none => (s.ansState, s)
    | some x => if crc = s.saf.pendCrc then (ansOk, s.activateSet x partner) else s.dropSet.setRefused 1 0

/-- SAFETY_SET_CONFIRM. -/
def execSafetySetConfirm (who : Who) (crc : Nat) (partner : Option Nat) (s : State) : Res :=
  request s who observer (fun s => giveBoth (s.reqConfirmSet who crc partner))

/-- SAFETY_SET_PENDING_EXPIRY: 600 s without a confirmation. -/
def execSafetySetPendingExpiry (s : State) : Res :=
  whenUp s (fun s => if s.saf.pending.isSome && s.elapsed s.saf.pendAt (ticksMs 600000) then s.dropSet.evS 0x8003 fnSafety [0] else s)

end Sys2Proof.Machine
end

