-- ==== Sys2Proof/Machine/SharedMap.lean ====
section
/-!
DEFINITION. The triad's view of shared memory (R59 to R61, Tables 03-1 and 03-2): who may reach an address, what its bytes are, and
what a committed store does there.
-/
namespace Sys2Proof.Machine

/-! ## Regions (Table 03-1) -/

/-- The regions of Table 03-1 that lie behind the input sample queue. -/
inductive Region where
  | survey | engine | handover | queues | registers | alias_ | mram | dram
deriving DecidableEq, Repr

/-- Region of an address, and its first address. -/
def regionOf (a : Nat) : Option (Region × Nat) :=
  if 0x20000000 ≤ a && a < 0x20800000 then some (.survey, 0x20000000)
  else if 0x28000000 ≤ a && a < 0x28400000 then some (.engine, 0x28000000)
  else if 0x2C000000 ≤ a && a < 0x2C200000 then some (.handover, 0x2C000000)
  else if 0x30000000 ≤ a && a < 0x30100000 then some (.queues, 0x30000000)
  else if 0x40000000 ≤ a && a < 0x40100000 then some (.registers, 0x40000000)
  else if 0x42000000 ≤ a && a < 0x4A000000 then some (.alias_, 0x42000000)
  else if 0x60000000 ≤ a && a < 0x64000000 then some (.mram, 0x60000000)
  else if 0x100000000 ≤ a && a < 0x200000000 then some (.dram, 0x100000000)
  else none

/-- A core's own private banks. -/
def isPrivate (a n : Nat) : Bool := decide (0x10000000 ≤ a) && decide (a + n ≤ 0x10200000)

/-- The address under which the read of the time CSR (number 0xC01) stands in the input sample queue (R63, R64), and the one under
which the interrupt-pending state stands there (R68). Both lie below Table 03-1. -/
def timeCsr : Nat := 0xC01
def pendingState : Nat := 0x344

/-! ## Physical memory protection (R61) -/

/-- A protected range, and whether user mode may read and write it. -/
structure Pmp where
  lo : Nat
  hi : Nat
  r : Bool := false
  w : Bool := false
deriving DecidableEq, Repr

/-- Entries 4 to 9 of Table 03-2, which cover shared addresses. -/
def pmpFixed : List Pmp :=
  [{ lo := 0x20000000, hi := 0x20800000, r := true, w := true }, { lo := 0x30000000, hi := 0x30100000, r := true, w := true },
   { lo := 0x62000000, hi := 0x63000000, r := true, w := true }, { lo := 0x28000000, hi := 0x4A000000 },
   { lo := 0x100000000, hi := 0x200000000 }]

/-- Trailing ones of a number, at most `n`. -/
def trailingOnes : Nat → Nat → Nat
  | 0, _ => 0
  | n + 1, a => if a % 2 = 1 then 1 + trailingOnes n (a / 2) else 0

/-- The ranges of entries 10 to 15: an address register in units of 4 bytes, TOR above the entry before it, or NAPOT. -/
def pmpOf : Nat → List (Nat × Nat) → List Pmp
  | _, [] => []
  | prev, (a, cfg) :: l =>
    let mode := field cfg 4 3
    let k := trailingOnes 54 a
    let base := a / 2 ^ (k + 1) * 2 ^ (k + 1) * 4
    let p : List Pmp :=
      if mode = 1 then [{ lo := prev * 4, hi := a * 4, r := bitOf cfg 0, w := bitOf cfg 1 }]
      else if mode = 3 then [{ lo := base, hi := base + 2 ^ (k + 3), r := bitOf cfg 0, w := bitOf cfg 1 }]
      else []
    p ++ pmpOf a l

/-- The entry of lowest number that covers a byte of an access decides it, and must cover all of it. -/
def pmpAllows (l : List Pmp) (a n : Nat) (write : Bool) : Bool :=
  match l.find? (fun p => decide (p.lo < a + n) && decide (a < p.hi)) with
  | some p => decide (p.lo ≤ a) && decide (a + n ≤ p.hi) && (if write then p.w else p.r)
  | none => false

/-- PMP address and configuration of entries 10 to 15. -/
def State.pmpProgram (s : State) : List (Nat × Nat) := match s.tsk.active with | some p => p.pmp | none => []

/-- An access of `n` bytes to a shared address is allowed: it lies in one region, and in user mode an entry grants it (R59, R61). -/
def State.mayReach (s : State) (a n : Nat) (user write : Bool) : Bool :=
  let inside := match regionOf a with | some (r, _) => (match regionOf (a + n - 1) with | some (q, _) => decide (r = q) | none => false) | none => false
  inside && (!user || pmpAllows (pmpFixed ++ pmpOf 0x5FFFFFFF s.pmpProgram) a n write)

/-! ## Bytes of the regions -/

/-- The bytes of a Survey record (Table 09-12). -/
def recBytes (r : SurveyRec) : List Byte :=
  leBytes 8 r.value ++ leBytes 1 r.quality ++ leBytes 3 r.age ++ leBytes 2 r.flags ++ leBytes 2 (r.seq % 32768 + bitAt r.old 15)

/-- The unit that runs is a task whose image is frozen: a read of a point its inset keeps is served from there (R127). -/
def State.imageRecord (s : State) (p : Nat) : SurveyRec :=
  match s.tri.unit_ with
  | .task t => if (s.taskRun t).frozen then Table.get (s.taskRun t).inset (s.record p) p else s.record p
  | _ => s.record p

/-- HELD_CAUSE of a loop: the highest cause that stands (R168). -/
def heldCause (set : Nat) : Nat := if bitOf set 4 then 4 else if bitOf set 3 then 3 else if bitOf set 2 then 2 else if bitOf set 1 then 1 else 0

/-- Configuration fields of a loop record: offset, size, element (Tables 06-2 to 06-4). -/
def loopFields : List (Nat × Nat × Nat) :=
  [(0, 4, 0), (4, 2, 1), (6, 1, 2), (7, 1, 3), (8, 4, 4), (12, 4, 5), (16, 4, 6), (20, 4, 7), (24, 4, 8), (28, 4, 9), (32, 4, 10), (36, 4, 11),
   (40, 4, 12), (44, 4, 13), (48, 4, 14), (52, 2, 15), (54, 2, 16), (56, 2, 17), (58, 2, 18), (60, 1, 19), (61, 1, 20), (64, 4, 21), (68, 4, 22),
   (72, 4, 23), (76, 4, 24), (80, 4, 25), (84, 4, 26), (88, 4, 27), (92, 4, 28), (96, 4, 29), (100, 4, 30)]
  ++ [(128, 32, 31), (160, 32, 32), (192, 32, 33), (224, 32, 34), (384, 4, 35), (388, 4, 36), (392, 4, 37), (396, 4, 38), (400, 4, 39),
   (404, 2, 40), (406, 1, 41)]

/-- Default of a loop element. -/
def loopDflt (n : Nat) : Nat := ((loopDescs[n]?).map (·.dflt)).getD 0

/-- Write bytes into a list at an offset. -/
def overlay (l : List Byte) (off : Nat) (bs : List Byte) : List Byte := l.take off ++ bs ++ l.drop (off + bs.length)

/-- State fields of a loop record, bytes 256 to 511 (Tables 06-3, 06-4). -/
def loopStateBytes (x : LoopState) : List Byte :=
  let d (v : F64) : List Byte := leBytes 8 v.toNat
  ([x.e1, x.e2, x.e3, x.v1, x.v2, x.v3, x.i, x.uPrev, x.uPre, x.ffLast, x.gainNow, x.kiNow].flatMap d)
    ++ leBytes 1 x.modeAct ++ leBytes 1 (heldCause x.heldSet) ++ leBytes 2 x.flags ++ leBytes 1 (min x.missCnt 255) ++ leBytes 1 x.activeSet
    ++ leBytes 1 x.heldSet ++ leBytes 1 0 ++ leBytes 8 x.evals ++ leBytes 4 x.admitted ++ leBytes 4 x.lastNs ++ leBytes 8 0
    ++ leBytes 32 0 ++ d x.sdYm ++ d x.sdRes ++ leBytes 4 x.sdCnt ++ leBytes 4 x.sdState ++ leBytes 8 0
    ++ ((upto 16).flatMap (fun k => leBytes 4 (x.sdLine.getD k 0).toNat))

/-- A loop's states as they read: a slot that is not enabled is OFF (Table 06-7, R195). -/
def State.shownLoop (s : State) (i : Nat) : LoopState := if s.loopEnabled i then s.loop i else { s.loop i with modeAct := 0, sdState := 0 }

/-- The 512 bytes of a loop record. -/
def State.loopBytes (s : State) (i : Nat) : List Byte :=
  let b := List.replicate 256 (0 : Byte) ++ loopStateBytes (s.shownLoop i)
  loopFields.foldl (fun b f => overlay b f.1 (leBytes f.2.1 (s.lN i f.2.2 (loopDflt f.2.2)))) b

/-- The states of a loop record as its bytes give them. -/
def loopStateOf (x : LoopState) (l : List Byte) : LoopState :=
  let n (o k : Nat) : Nat := leNat ((l.drop o).take k)
  let d (o : Nat) : F64 := BitVec.ofNat 64 (n o 8)
  { x with
    e1 := d 256, e2 := d 264, e3 := d 272, v1 := d 280, v2 := d 288, v3 := d 296, i := d 304, uPrev := d 312, uPre := d 320, ffLast := d 328,
    gainNow := d 336, kiNow := d 344, modeAct := n 352 1, flags := n 354 2, missCnt := n 356 1, activeSet := n 357 1 % 4, heldSet := n 358 1,
    evals := n 360 8, admitted := n 368 4, lastNs := n 372 4, sdYm := d 416, sdRes := d 424, sdCnt := n 432 4, sdState := n 436 4,
    sdLine := (upto 16).map (fun k => BitVec.ofNat 32 (n (448 + 4 * k) 4)) }

/-- Firmware writes a loop record. -/
def State.putLoopBytes (s : State) (i : Nat) (l : List Byte) : State :=
  let s := s.each loopFields (fun s f =>
    let v := leNat ((l.drop f.1).take f.2.1)
    if v = s.lN i f.2.2 (loopDflt f.2.2) then s else s.setEl (0x31000 + i) f.2.2 v)
  if (l.drop 256) = (s.loopBytes i).drop 256 then s else s.updLoop i (fun x => loopStateOf x l)

/-- The 4096 bytes of a Contour table (Table 07-1), and the table they spell. -/
def tableBytes (t : CTable) : List Byte :=
  leBytes 64 t.hdr ++ leBytes 64 t.xbp ++ leBytes 64 t.ybp ++ leBytes 64 0 ++ leBytes 1024 t.l0 ++ leBytes 1024 t.l1 ++ leBytes 1024 t.l2
    ++ leBytes 256 t.setmap ++ leBytes 512 0
def tableOf (l : List Byte) : CTable :=
  let n (o k : Nat) : Nat := leNat ((l.drop o).take k)
  { hdr := n 0 64, xbp := n 64 64, ybp := n 128 64, l0 := n 256 1024, l1 := n 1280 1024, l2 := n 2304 1024, setmap := n 3328 256 }

/-- `n` bytes at an offset of the control-engine banks. -/
def State.engineBytes (s : State) (o n : Nat) : List Byte :=
  if o < 0x200000 then slice (s.loopBytes (o / 512)) (o % 512) n else slice (tableBytes (s.ctable ((o - 0x200000) / 4096))) (o % 4096) n

/-- Where a shared address lies in the banks of R423, by the address the memory part uses. -/
def bankAddr (r : Region) (a : Nat) : Nat :=
  match r with
  | .survey => a - 0x20000000
  | .engine => 16 * 0x80000 + (a - 0x28000000)
  | .handover => 44 * 0x80000 + (a - 0x2C000000)
  | _ => a

/-- A word that an access touches has an uncorrectable error; a Survey record is delivered BAD instead (R423). -/
def State.eccBad (s : State) (r : Region) (a n : Nat) : Bool :=
  match r with
  | .engine | .handover => let x := bankAddr r a; s.mem.bad.any (fun w => decide (w < x + n) && decide (x < w + 8))
  | _ => false

/-- The item an open queue window shows: bytes by offset. -/
def State.windowBytes (s : State) (q o n : Nat) : List Byte := slice (Table.get s.leg.shown [] q) o n

/-- `n` bytes of a shared address, without side effects and without the registers. -/
def State.sharedBytes (s : State) (a n : Nat) : List Byte :=
  match regionOf a with
  | some (.survey, b) => let o := a - b; (slice (recBytes (s.imageRecord (o / 16)) ++ recBytes (s.imageRecord (o / 16 + 1))) (o % 16) n)
  | some (.engine, b) => s.engineBytes (a - b) n
  | some (.handover, _) => s.mem.data.readN (bankAddr .handover a) n
  | some (.queues, b) => let o := a - b; s.windowBytes (o / 4096) (o % 4096) n
  | some (.mram, b) =>
    let o := a - b
    if o < 0x2000000 then slice (s.slotBytes (o / 64) ++ s.slotBytes (o / 64 + 1)) (o % 64) n else s.mem.data.readN a n
  | some (.dram, _) => s.mem.data.readN a n
  | _ => []

/-- The bank of a handover address, and whether the triad owns it (R60, R425). -/
def State.triadOwns (s : State) (a : Nat) : Bool := (s.mem.own ((a - 0x2C000000) / 0x80000)).owner == 1

/-- A read of a window at offset 0 pops the oldest item of the queue into the window; an empty queue shows nothing. -/
def State.popWindow (s : State) (q : Nat) : State :=
  let item := ((s.queue q).items.head?).getD []
  let s := if item.isEmpty then s else s.popQueue q
  { s with leg := { s.leg with shown := Table.set s.leg.shown [] q item } }

/-- The one access that a shared read makes (R64): the bus-error cause (0 none), the value, and the state after it. -/
def State.sharedAccess (s : State) (a n w : Nat) : Nat × Nat × State :=
  if a = timeCsr then (0, i64 s.now, s)
  else match regionOf a with
    | some (.registers, _) | some (.alias_, _) => s.busRead .triad a w
    | some (.handover, _) =>
      if !s.triadOwns a then (6, 0, s.busError .triad 6 a false)
      else if s.eccBad .handover a n then (5, 0, s.busError .triad 5 a false)
      else (0, leNat (s.sharedBytes a n), s)
    | some (.engine, _) =>
      if s.eccBad .engine a n then (5, 0, s.busError .triad 5 a false) else (0, leNat (s.sharedBytes a n), s)
    | some (.queues, b) =>
      let s := if (a - b) % 4096 = 0 then s.popWindow ((a - b) / 4096) else s
      (0, leNat (s.sharedBytes a n), s)
    | _ => (0, leNat (s.sharedBytes a n), s)

/-! ## Committing a write-set (R73, R74, R76, R129, R133, R439) -/

/-- Bytes of `new` where the mask is set, of `old` elsewhere; the masks' first bit is for the first byte. -/
def maskBytes (mask : Nat) (old new : List Byte) : List Byte :=
  (upto old.length).map (fun i => if bitOf mask i then new.getD i 0 else old.getD i 0)

/-- The unit that runs is the configured writer of a point; firmware outside a task, service or extension writes for the
writers it serves (R19, R76). -/
def State.unitWrites (s : State) (p : Nat) : Bool :=
  let m := s.pointMeta p
  match s.tri.unit_ with
  | .task t => s.configured p && m.kind == 4 && m.writer == t
  | .service v => s.configured p && m.kind == 5 && m.writer == v
  | .extension _ => false
  | .idle => true

/-- An entry dropped as WRITER-VIOLATION. -/
def State.writerViolation (s : State) : State :=
  ({ s with tri := { s.tri with wrViol := satInc 32 s.tri.wrViol } } : State).evRep 0x2006 0 []

/-- The quality a task's point takes when the program wrote none: the lowest of its dependencies (R133). -/
def State.depQuality (s : State) (p : Nat) : Nat :=
  let deps := match s.tsk.active with | some g => forTask g.deps p | none => []
  deps.foldl (fun q d => qMin q (s.imageRecord d).quality) qGood

/-- The instant a committed point's age belongs to: the task's latch instant (R133). -/
def State.unitInstant (s : State) : MTime := match s.tri.unit_ with | .task t => (s.taskRun t).c | _ => s.now

/-- Write a record from the entries of a write-set that reach it: `lo` and `hi` halves, as one access (R18). -/
def State.commitRecord (s : State) (set : List WEntry) (p : Nat) : State :=
  let a := 0x20000000 + 16 * p
  let part (k : Nat) : Nat × List Byte := match set.find? (fun e => e.addr == a + 8 * k) with | some e => (e.mask, leBytes 8 e.data) | none => (0, [])
  let old := recBytes (s.record p)
  let lo := maskBytes (part 0).1 (old.take 8) (part 0).2
  let hi := maskBytes (part 1).1 (old.drop 8) (part 1).2
  let q := if bitOf (part 1).1 0 then leNat (hi.take 1) else s.depQuality p
  s.surveyWrite p (leNat lo) q (leNat ((hi.drop 4).take 2)) s.unitInstant

/-- Survey records of a write-set, in order of first creation. -/
def surveyRecs (set : List WEntry) : List Nat :=
  ((set.filter (fun e => match regionOf e.addr with | some (.survey, _) => true | _ => false)).map (fun e => (e.addr - 0x20000000) / 16)).eraseDups

/-- A register entry: each half written, or the pair at once (R440). -/
def State.commitRegister (s : State) (e : WEntry) : State :=
  let off := e.addr - 0x40000000
  let whole := e.mask = 255 && (match regDesc (off / 0x1000) (off % 0x1000) with | some d => d.pair == 1 | none => false)
  if whole then s.busWrite .triad e.addr 3 e.data
  else
    let s := if e.mask % 16 = 15 then s.busWrite .triad e.addr 2 (lo32 e.data) else s
    if e.mask / 16 = 15 then s.busWrite .triad (e.addr + 4) 2 (hi32 e.data) else s

/-- An alias entry: bit 0 of the bytes written to each word (R442). -/
def State.commitAlias (s : State) (e : WEntry) : State :=
  let put (s : State) (k : Nat) : State :=
    let bs := (upto 4).filter (fun i => bitOf e.mask (4 * k + i))
    match bs.head? with
    | some i => s.busWrite .triad (e.addr + 4 * k) 2 (e.data / 2 ^ (8 * (4 * k + i)) % 2)
    | none => s
  put (put s 0) 1

/-- An entry to plain memory, its error restored (R423). -/
def State.commitMemory (s : State) (at_ : Nat) (e : WEntry) : State :=
  let s : State := { s with mem := { s.mem with data := s.mem.data.writeMasked at_ e.mask (leBytes 8 e.data) } }
  s.restoreWords at_ 8

/-- An entry to the engine's banks. -/
def State.commitEngine (s : State) (e : WEntry) : State :=
  let o := e.addr - 0x28000000
  let s :=
    if o < 0x200000 then
      let i := o / 512
      let old := s.loopBytes i
      s.putLoopBytes i (overlay old (o % 512) (maskBytes e.mask (slice old (o % 512) 8) (leBytes 8 e.data)))
    else
      let t := (o - 0x200000) / 4096
      let old := tableBytes (s.ctable t)
      let new := tableOf (overlay old (o % 4096) (maskBytes e.mask (slice old (o % 4096) 8) (leBytes 8 e.data)))
      { s with cen := { s.cen with tables := Table.set s.cen.tables {} t new } }
  s.restoreWords (bankAddr .engine e.addr) 8

/-- One entry of the write-set; the Survey records and the queue pushes are made from their entries together, where the first of
them stands. -/
def State.commitEntry (s : State) (set : List WEntry) (e : WEntry) : State :=
  match regionOf e.addr with
  | some (.survey, b) =>
    let p := (e.addr - b) / 16
    let first := (set.find? (fun x => decide (x.addr / 16 = e.addr / 16))) == some e
    if !s.unitWrites p then s.writerViolation
    else if first then s.commitRecord set p else s
  | some (.engine, _) => s.commitEngine e
  | some (.handover, _) =>
    if s.triadOwns e.addr then s.commitMemory (bankAddr .handover e.addr) e
    else
      let s := s.busError .triad 6 e.addr true
      { s with sys := { s.sys with busIrq := true } }
  | some (.registers, _) => s.commitRegister e
  | some (.alias_, _) => s.commitAlias e
  | some (.mram, _) => if e.addr < 0x62000000 then s else s.commitMemory e.addr e
  | some (.dram, _) => s.commitMemory e.addr e
  | some (.queues, b) =>
    let q := (e.addr - b) / 4096
    let mine := set.filter (fun x => decide (b + 4096 * q ≤ x.addr) && decide (x.addr < b + 4096 * (q + 1)))
    if mine.head? == some e then
      let at_ (o : Nat) : Byte := match mine.find? (fun x => decide ((x.addr - b) % 4096 = o / 8 * 8)) with
        | some x => if bitOf x.mask (o % 8) then (leBytes 8 x.data).getD (o % 8) 0 else 0
        | none => 0
      let len := min 4080 (leNat ((upto 2).map (fun i => at_ (4 + i))))
      let seq := Table.get s.tri.txSeq 0 q
      let head := leBytes 4 seq ++ (upto 8).map (fun i => at_ (4 + i))
      let pay := (upto len).map (fun i => at_ (16 + i))
      let item := head ++ leBytes 4 (crc32c (head ++ pay)) ++ pay
      let r := s.pushQueue q item
      if r.1 then { r.2 with tri := { r.2.tri with txSeq := Table.set r.2.tri.txSeq 0 q ((seq + 1) % 2 ^ 32) } } else r.2
    else s
  | none => s

/-- The majority write-set goes to shared memory in entry order (step 4 of Table 03-5). -/
def State.commitSet (s : State) (set : List WEntry) : State := s.each set (fun s e => s.commitEntry set e)

/-- Tasks frozen at an instant the commit that started at `t` comes before (R129). -/
def State.frozenSince (s : State) (t : MTime) : List Nat :=
  (upto 16).filter (fun k => (s.taskRun k).frozen && decide (t ≤ (s.taskRun k).freeze))

/-- The commit as one unit: a task frozen since its start sees it (R129). -/
def State.commitUnitOf (s : State) (k : Commit) : State :=
  let l := s.frozenSince k.from_
  let s := s.each l (fun s t => s.updTask t (fun x => { x with frozen := false }))
  let s := s.commitSet k.arrival.set
  s.each l (fun s t => s.updTask t (fun x => { x with frozen := true }))

/-- The record of a point as it stands, a commit in progress counted (R129, R257). -/
def State.recordNow (s : State) (p : Nat) : SurveyRec :=
  match s.tri.commit with
  | some k => (s.commitSet k.arrival.set).record p
  | none => s.record p

end Sys2Proof.Machine
end

