-- ==== Sys2Proof/Machine/LegendRead.lean ====
section
/-!
DEFINITION. What a read of each Legend element returns (R235, R237, R393, R447, and the Legend table of each chapter).
-/
namespace Sys2Proof.Machine

/-! ## Existence -/

/-- The named Datum module (Legend 0xA8440.0). -/
def State.datumName (s : State) : Nat := s.el 0xA8440 0 0xFF

/-- This module serves as Datum: it is named, or its partner is and it is the station's duty (R29, R261). -/
def State.isDatum (s : State) : Bool :=
  s.datumName != 0xFF && (s.datumName == s.modIndex || (s.pairMember && s.datumName == s.partner)) && (!s.pairMember || s.red.holds)

/-- Frame and offset of the register that an entry of the mirror range names (R447). -/
def mirrorReg (e : Nat) : Nat × Nat := ((e - 0xF0000) / 0x400, (e - 0xF0000) % 0x400 * 4)

/-- A mirror element: .0 the value, .1 the pair, .2 the holding value, .3 the holding pair. -/
def mirrorDesc (e n : Nat) : Option Desc :=
  let r := mirrorReg e
  match regDesc r.1 r.2 with
  | none => none
  | some d =>
    if d.sel || d.wo ≠ 0 then none
    else match n with
      | 0 => some tU32
      | 1 => if d.pair = 1 then some tU64 else none
      | 2 => if regHeld r.1 r.2 then some tU32 else none
      | 3 => if d.pair = 1 && regHeld r.1 r.2 then some tU64 else none
      | _ => none

/-- An element, if it exists: the directory is the Datum's (R261). -/
def State.element? (s : State) (e n : Nat) : Option Desc :=
  if 0xF0000 ≤ e && e < 0xF5400 then mirrorDesc e n
  else if 0xA8400 ≤ e && e ≤ 0xA843F && !s.isDatum then none
  else s.desc e n

/-! ## Values by chapter -/

def bool (b : Bool) : Nat := b.toNat
/-- An instant or another signed number of eight bytes. -/
def instant (t : Int) : Nat := i64 t
/-- A REAL64 reported as REAL32. -/
def r32 (x : F64) : Nat := (F64.narrow x).toNat
def r64 (x : F64) : Nat := x.toNat
/-- The little-endian number of a byte string. -/
def octets (l : List Byte) : Nat := leNat l
/-- An identity transmitted with its most significant byte first. -/
def octetsBE (n v : Nat) : Nat := leNat (leBytes n v).reverse

/-- Chapters 2 and 18. -/
def State.readModes (s : State) (e n : Nat) : Nat :=
  let m := s.mode
  match e, n with
  | 0x00000, 0 => s.sys.ident | 0x00000, 1 => s.sys.build % 256 | 0x00000, 2 => s.sys.build / 256 % 2 | 0x00000, 3 => s.sys.fw
  | 0x00001, _ => s.sys.asset
  | 0x00010, 1 => s.sys.snapSeq | 0x00010, 2 => s.sys.snapTime | 0x00010, 3 => s.sys.snapFlags
  | 0x10000, 0 => m.mode.code | 0x10000, 1 => m.prev.code | 0x10000, 2 => instant m.at_ | 0x10000, 3 => m.cause
  | 0x10003, _ => m.lastReq
  | 0x10010, k => m.durations.getD k 0
  | 0x10011, _ => m.image
  | 0x10020, _ => m.lifeCycle.code
  | 0x10030, 0 => match topFault m.faults with | some f => f.rung | none => 0
  | 0x10030, 1 => match topFault m.faults with | some f => f.fn | none => 0
  | 0x10030, 2 => match topFault m.faults with | some f => f.seq.getD 0 | none => 0
  | 0x10041, _ => m.reinitResult
  | 0x10061, _ => m.warmCount
  | 0x10070, 2 => m.cfgId
  | 0x10071, 2 => m.installResult
  | _, _ => 0

/-- Chapter 3. -/
def State.readTriad (s : State) (e n : Nat) : Nat :=
  let t := s.tri
  match e, n with
  | 0x20000, k => (t.core k).state.code
  | 0x20001, _ => bool t.duplex
  | 0x20004, _ => t.ckpts
  | 0x20005, k => (t.core k).quarantines
  | 0x20006, 0 => t.skewMax | 0x20006, 1 => t.skewMaxAt % 2 ^ 32
  | 0x20007, 0 => instant t.disAt | 0x20007, 1 => t.disCore | 0x20007, 2 => t.disCause | 0x20007, 3 => t.disSeq
  | 0x20007, 4 => t.disSig0 | 0x20007, 5 => t.disSig1 | 0x20007, 6 => t.disSig2
  | 0x20008, _ => t.wrViol
  | 0x20009, 0 => t.discCrc | 0x20009, 1 => t.discSeq
  | 0x2000A, 0 => t.cc0.resets | 0x2000A, 1 => t.cc1.resets
  | _, _ => 0

/-- Chapter 5. -/
def State.readTasks (s : State) (e n : Nat) : Nat :=
  if 0x21000 ≤ e && e ≤ 0x2100F then (s.taskRun (e - 0x21000)).admitted
  else if 0x21100 ≤ e && e ≤ 0x2110F then
    let r := s.taskRun (e - 0x21100)
    match n with
    | 0 => r.state.code | 1 => r.cycles | 2 => r.last | 3 => r.max | 4 => r.warnings | 5 => r.skipped | _ => r.consec
  else if 0x21300 ≤ e && e ≤ 0x21317 then
    let h := s.head (e - 0x21300)
    if n = 0 then h.state.code else min h.missed 255
  else if e = 0x22001 then
    match (if n = 0 then s.tsk.active else s.tsk.staged) with | some p => p.ident | none => 0
  else if e = 0x22011 then s.el e n 0
  else match s.single? e n with
    | some d => Table.get s.tsk.values d.init d.ea
    | none => 0

/-- Chapters 6 and 7. -/
def State.readEngine (s : State) (e n : Nat) : Nat :=
  let c := s.cen
  if e = 0x30000 then
    match n with
    | 0 => c.rate | 1 => s.slots.length | 2 => c.evals | 3 => c.missed | 4 => c.numeric | 5 => s.loopsHeld | 6 => c.backlogMax | _ => c.hyper
  else if 0x30100 ≤ e && e ≤ 0x301FF then
    let g := e - 0x30100
    if n = 4 then s.rdyTicks g else (s.group g).fG
  else if 0x30200 ≤ e && e ≤ 0x302FF then
    let g := s.group (e - 0x30200)
    match n with | 0 => g.fG | 1 => g.finish | 2 => g.samples | _ => g.missed
  else if 0x32000 ≤ e && e ≤ 0x32FFF then
    let x := s.shownLoop (e - 0x32000)
    match n with
    | 0 => x.modeAct | 1 => heldCause x.heldSet | 2 => x.flags | 3 => r64 x.uPrev | 4 => r64 x.i | 5 => r64 x.e1 | 6 => x.evals
    | 7 => min x.missCnt 255 | 8 => x.admitted | _ => x.lastNs
  else if 0x33000 ≤ e && e ≤ 0x33FFF then
    let x := s.shownLoop (e - 0x33000)
    match n with | 1 => x.sdState | 2 => r64 x.sdYm | 3 => r64 x.sdRes | 4 => x.sdCnt | 5 => x.sdFaults | _ => 0
  else if 0x34000 ≤ e && e ≤ 0x341FF then
    let t := e - 0x34000
    let x := s.stagedTable t
    match n with
    | 0 => x.hdr | 1 => x.xbp | 2 => x.ybp | 3 => x.l0 | 4 => x.l1 | 5 => x.l2 | 6 => x.setmap
    | 8 => (s.tableLoops t).length | 9 => crc32c (tableBytes (s.ctable t)) | _ => 0
  else if e = 0x34200 then ((upto 512).filter (fun t => (s.ctable t).kind != 0)).length
  else 0

/-- UTC wall clock (R102): 0 where it is not valid. -/
def State.utc (s : State) : Int :=
  if s.mer.ptpScale && s.mer.utcValid then s.now - 1000000000 * s.mer.utcOffset else 0

/-- Chapter 4. -/
def State.readMeridian (s : State) (e n : Nat) : Nat :=
  let m := s.mer
  match e, n with
  | 0x40000, 0 => m.state.code | 0x40000, 1 => s.mq | 0x40000, 2 => instant s.now | 0x40000, 3 => instant s.utc
  | 0x40000, 4 => ofSigned 16 m.utcOffset
  | 0x40001, 0 => instant (Int.fdiv m.lastOffset 65536)
  | 0x40001, 1 => ofSigned 32 m.rho
  | 0x40001, 2 => match m.master with | some k => instant (Int.fdiv ((m.port (k % 2)).delay.getD 0) 65536) | none => 0
  | 0x40001, 3 => match m.master with | some k => octetsBE 10 (k / 2) | none => 0
  | 0x40001, 4 => match m.gm with | some g => octetsBE 8 g | none => 0
  | 0x40010, 0 => m.opMs | 0x40010, 1 => m.opSecs | 0x40010, 2 => m.pcyc
  | 0x40011, 0 => m.steps | 0x40011, 1 => m.breaks | 0x40011, 2 => m.violations | 0x40011, 3 => m.untrusted
  | _, _ => if 0x41000 ≤ e && e ≤ 0x413FF then octets (wptBytes (s.slot (e - 0x41000))) else 0

/-- Chapter 8. -/
def State.readStation (s : State) (e n : Nat) : Nat :=
  let r := s.red
  match e, n with
  | 0x50000, 0 => s.roleState | 0x50000, 1 => s.station | 0x50000, 2 => s.partner | 0x50000, 3 => s.el 0x50001 3 0xFF
  | 0x50000, 4 => r.cur.claim | 0x50000, 5 => r.cur.holder | 0x50000, 6 => bool r.ready | 0x50000, 7 => instant r.lastChange
  | 0x50010, 1 => match r.transfer with | some t => instant t.f | none => 0
  | 0x50011, 2 => r.swap
  | 0x50011, 3 => match s.tasks.map (fun t => Table.get r.swapCycles 0 t) with | [] => 0 | x :: xs => xs.foldl min x
  | 0x50011, 4 => r.swapDiffs | 0x50011, 5 => r.fresh
  | 0x50020, 0 => r.copyAdmitted | 0x50020, 1 => r.copyMax | 0x50020, 2 => r.copyDisc | 0x50020, 3 => r.divergences
  | 0x50020, 4 => r.lagMax | 0x50020, 5 => r.remaining
  | 0x50040, 0 => r.rejLower | 0x50040, 1 => r.rejHolder | 0x50040, 2 => r.rejTag | 0x50040, 3 => r.rejValue
  | _, _ =>
    if 0x50030 ≤ e && e ≤ 0x5003F then
      let w := s.witStation (e - 0x50030)
      match n with | 4 => w.e | 5 => w.holder | 6 => instant w.lastEndorse | 7 => w.refusals | _ => 0
    else 0

/-- Chapter 10. -/
def State.readDigital (s : State) (e n : Nat) : Nat :=
  if 0x60000 ≤ e && e ≤ 0x60003 then
    let g := s.dioGrp (e - 0x60000)
    match n with | 0 => min g.mv 65535 | 1 => if g.missing then 2 else bool g.low | _ => bool g.link
  else if 0x60200 ≤ e && e ≤ 0x6021F then
    let c := s.dioCh (e - 0x60200)
    match n with
    | 0 => s.dioStat (e - 0x60200) | 1 => bool c.state | 2 => bool c.rb | 3 => min c.current 65535 | 4 => c.counter
    | 5 => sat 16 c.rejected + 65536 * sat 16 c.cosDropped | _ => 0
  else 0

/-- Chapter 11. -/
def State.readAnalogue (s : State) (e n : Nat) : Nat :=
  if 0x70200 ≤ e && e ≤ 0x70207 then
    let k := e - 0x70200
    match n with | 0 => s.aiStat k | 1 => r32 (s.aiCh k).current | _ => s.hartShown (2 * k)
  else if 0x70400 ≤ e && e ≤ 0x70407 then
    let k := e - 0x70400
    let c := s.aoCh k
    match n with | 0 => s.aoStat k | 1 => r32 c.iCmd | 2 => r32 c.rb | _ => r32 (F64.ofRatio c.head 1000)
  else if 0x70500 ≤ e && e ≤ 0x7050F then
    match n with | 0 => s.trimReg (e - 0x70500) false | 1 => s.trimReg (e - 0x70500) true | _ => 0
  else if 0x70700 ≤ e && e ≤ 0x70707 then
    let k := e - 0x70700
    let y := s.hartMaster k
    match n with
    | 11 => Config.freeElement (ea e n) ((s.hartLoop (2 * k)).address + 2 ^ 40 * (s.hartLoop (2 * k + 1)).address)
    | 12 => y.transactions | 13 => y.unanswered | 14 => y.changed | _ => 0
  else if 0x70800 ≤ e && e ≤ 0x70807 then
    let y := s.hartMaster (e - 0x70800)
    match n with | 1 => octets (y.response.take 260) | 2 => y.responses | _ => 0
  else 0

/-- Chapter 12. -/
def State.readSafety (s : State) (e n : Nat) : Nat :=
  if e = 0x80000 then
    match n with | 2 => s.saf.crc | 3 => s.saf.pendCrc | 4 => s.setState | 5 => instant s.saf.activated | 6 => bool s.stationWired | _ => 0
  else if 0x80100 ≤ e && e ≤ 0x8010B then
    let k := e - 0x80100
    match n with
    | 0 => s.safMode k | 1 => s.chPointRec k | 2 => bool (s.safOn k) | 3 => s.safChQuality k / 8 | _ => (s.safCh k).missCount
  else if 0x80180 ≤ e && e ≤ 0x80185 then
    let k := e - 0x80180
    let r := s.inRec k
    match n with | 0 => r.mode | 1 => r.disc | 2 => r.point | 3 => bool (s.inPairOn k) | _ => s.safPairQuality k / 8
  else if 0x80200 ≤ e && e ≤ 0x80207 then
    let r := s.fnRec (e - 0x80200)
    let x := s.safFn (e - 0x80200)
    match n with
    | 0 => r.type | 1 => r.demand | 2 => r.outputs | 3 => r.restart | 4 => r.resetCh | 5 => r.axis | 6 => r.tStop | 7 => r.tDelay
    | 8 => r.decel | 9 => r.vTol | 10 => r.vStill | 11 => r.tMax | 12 => r.demPt | 13 => r.statePt
    | 14 => x.state | 15 => instant x.t0 | _ => x.demands
  else if 0x80400 ≤ e && e ≤ 0x80403 then
    let r := s.outRec (e - 0x80400)
    match n with
    | 0 => r.testInterval | 1 => r.edmInput | 2 => r.edmT | 3 => r.safeBehav | 4 => r.permitPt | 5 => r.edmMode
    | 6 => s.pairStat (e - 0x80400) | _ => bool (s.safPair (e - 0x80400)).energised
  else if 0x80500 ≤ e && e ≤ 0x80501 then
    let r := s.axisRec (e - 0x80500)
    let x := s.safAxis (e - 0x80500)
    match n with
    | 0 => r.source | 1 => bool r.ttl | 2 => r.w | 3 => r.ratio | 4 => r.tolPct | 5 => r.tolAbs | 6 => r.point | 7 => r.scale
    | 8 => ofSigned 32 x.speed | _ => axisBits x
  else if e = 0x80600 then
    match n with | 0 => s.saf.checks | 1 => s.saf.diverge | 2 => s.saf.resets | _ => s.saf.resetsDiscarded
  else 0

/-- Chapter 13. -/
def State.readCanEl (s : State) (e n : Nat) : Nat :=
  if 0x90100 ≤ e && e ≤ 0x90103 then
    let c := e - 0x90100
    let x := s.canCtl c
    match n with
    | 0 => s.canStatus c | 1 => s.canErr c | 2 => x.rxcnt | 3 => x.txcnt | 4 => x.noMatch | 5 => x.busoffs | 6 => s.canErrCnt c
    | 7 => x.rxqDrops | _ => x.short
  else if 0x92000 ≤ e && e ≤ 0x923FF then
    let c := (e - 0x92000) / 256
    let o := (e - 0x92000) % 256
    let x := s.canObj c o
    match n with | 0 => s.objStat c o | 1 => x.frames | 2 => instant x.lastTime | _ => x.failures
  else 0

/-- Chapter 14. -/
def State.readNetworks (s : State) (e n : Nat) : Nat :=
  if 0xA0010 ≤ e && e ≤ 0xA0013 then (s.net.port (e - 0xA0010)).counters.getD n 0
  else if e = 0xA0020 then
    match n with
    | 0 => s.ringId | 1 => s.ringNodes | 2 => if s.ring.isOpen then s.ring.breakA else 0xFF | _ => s.headsAffected
  else if 0xA0100 ≤ e && e ≤ 0xA0117 then s.headHops (e - 0xA0100)
  else if 0xA0200 ≤ e && e ≤ 0xA0201 then (s.net.lane (e - 0xA0200)).counters.getD n 0
  else 0

/-- The module's own directory record (Table 09-14). -/
def State.ownDirectory (s : State) : DirRec :=
  { state := 1, role := s.roleState, station := s.station, partner := if s.pairMember then s.partner else 0xFF, mode := s.mode.mode.code,
    mq := s.mq, ready := bool s.red.ready, addr := s.el (0xA8500 + s.modIndex % 64) 0 0, container := match s.tsk.active with | some p => p.ident | none => 0,
    lastSeen := s.now, seenAt := s.mer.raw, hashes := s.sur.points.map (fun x => (x.2.hash, x.1)) }

/-- Directory record of an index at the Datum. An index is configured when it has an address (R260). -/
def State.dirRec (s : State) (i : Nat) : DirRec :=
  if i = s.modIndex then s.ownDirectory
  else
    let r := Table.get s.leg.directory {} i
    if s.el (0xA8500 + i) 0 0 = 0 then { r with state := 0 } else r

def DirRec.bytes (r : DirRec) : List Byte :=
  leBytes 1 r.state ++ leBytes 1 r.role ++ leBytes 2 r.station ++ leBytes 1 r.partner ++ leBytes 1 r.mode ++ leBytes 1 r.mq
    ++ leBytes 1 r.ready ++ leBytes 4 r.addr ++ leBytes 8 r.container ++ leBytes 8 (instant r.lastSeen) ++ leBytes 4 0

/-- The index serving as Datum now: itself, or the one whose acknowledgements arrive (Legend 0xA8440.1). -/
def State.datumNow (s : State) : Nat := if s.isDatum then s.modIndex else s.leg.datum

/-- First 8 bytes of the SHA-256 of a key. -/
def KeySlot.print (k : KeySlot) : Nat := if k.level = 0 then 0 else octets ((sha256 (leBytes 32 k.pub)).take 8)

/-- A source as the eight octets of a session slot show it: the specification gives no layout. -/
def sourceNum : Option Source_ → Nat
  | none => 0
  | some (.udp a p) => 1 + 4 * (a * 65536 + p)
  | some (.can c p) => 2 + 4 * (c.val * 4 + p.val)
  | some .program => 3
  | some (.peer i) => 7 + 8 * i.val

/-- Chapter 9. -/
def State.readLegend (s : State) (e n : Nat) : Nat :=
  let l := s.leg
  if e = 0xA8000 then
    match n with | 0 => l.openSessions | 1 => l.admitted | 2 => l.busy | 3 => l.viol | 4 => l.tokenRefused | _ => l.maxAnswer
  else if 0xA8010 ≤ e && e ≤ 0xA802F then
    let k := s.keySlot (e - 0xA8010)
    match n with | 0 => k.pub | 1 => k.level | 2 => k.print | _ => 0
  else if 0xA8100 ≤ e && e ≤ 0xA811F then
    let x := s.session (e - 0xA8100)
    if x.state = 0 then 0
    else match n with
      | 0 => x.state | 1 => x.level | 2 => Config.freeElement (ea 0xA8100 2) (sourceNum x.source) | 3 => instant x.opened | _ => instant x.last
  else if e = 0xA8200 then
    match n with | 1 => l.stagingLen | 2 => crc32c s.staged | _ => 0
  else if 0xA8400 ≤ e && e ≤ 0xA843F then octets (s.dirRec (e - 0xA8400)).bytes
  else if e = 0xA8440 then s.datumNow
  else if 0xA9000 ≤ e && e ≤ 0xA90FF then
    let q := s.queue (e - 0xA9000)
    match n with | 0 => q.cls | 1 => q.depth | 2 => q.credit | 3 => q.fill | 4 => q.maxFill | _ => q.refusals
  else if 0xE0000 ≤ e && e ≤ 0xEFFFF then
    let v := Table.get l.services {} ((e - 0xE0000) / 256)
    let on := s.el e 0 0 != 0 && s.elB e 1 false
    match n with | 3 => if on then max 1 v.state else 0 | 4 => v.last | _ => v.skipped
  else 0

/-- Chapters 15 to 17. -/
def State.readService (s : State) (e n : Nat) : Nat :=
  let r := s.evr
  let c := s.crt
  match e, n with
  | 0xB0000, 0 => r.next | 0xB0000, 1 => r.epochSeq | 0xB0000, 2 => r.epoch | 0xB0000, 3 => evrSlots | 0xB0000, 4 => r.oldest
  | 0xB0000, 5 => r.dropped | 0xB0000, 6 => r.staged.length
  | 0xC0000, 0 => s.crtStatus | 0xC0000, 1 => sat 16 c.reserveMv | 0xC0000, 2 => sat 16 c.capMf | 0xC0000, 3 => c.band | 0xC0000, 4 => c.markSeq
  | 0xC0000, 5 => bool c.foundInterrupted
  | 0xD0000, 0 => s.clkStatus | 0xD0000, 1 => s.readClk 0x00C | 0xD0000, 2 => ofSigned 32 s.clk.ratioXb | 0xD0000, 3 => ofSigned 32 s.clk.ratioRc
  | 0xD0000, 4 => s.clk.switches
  | 0xD0100, 0 => s.memStatus | 0xD0100, 1 => s.mem.sramCe | 0xD0100, 2 => s.mem.sramUe | 0xD0100, 3 => s.mem.sramAddr
  | 0xD0100, 4 => s.mem.dramCe | 0xD0100, 5 => s.mem.dramUe
  | 0xD0101, b => Table.get s.mem.bist 0 b
  | 0xD0200, 0 => s.pwrStatus | 0xD0200, 1 => sat 16 s.pwr.ina | 0xD0200, 2 => sat 16 s.pwr.inb | 0xD0200, 3 => s.measured 0xD0200 3
  | 0xD0200, 4 => sat 16 s.pwr.holdMv | 0xD0200, 5 => sat 16 s.pwr.holdCap | 0xD0200, 6 => s.measured 0xD0200 6 | 0xD0200, 7 => s.pwr.pfails
  | _, _ => 0

/-- The mirror of a register: it is read from the bank of CC0, on which the Legend server runs. -/
def State.readMirror (s : State) (e n : Nat) : Nat :=
  let r := mirrorReg e
  let v (o : Nat) := s.regRead s.sys.cc0 r.1 o
  let h (o : Nat) := s.holdRead (r.1 * 0x1000 + o)
  match n with
  | 0 => v r.2 | 1 => v r.2 + 2 ^ 32 * v (r.2 + 4) | 2 => h r.2 | _ => h r.2 + 2 ^ 32 * h (r.2 + 4)

/-- The value of an element that is not kept as it was written. -/
def State.readLive (s : State) (e n : Nat) : Nat :=
  if 0xF0000 ≤ e then s.readMirror e n
  else if e < 0x20000 then s.readModes e n
  else if e < 0x21000 then s.readTriad e n
  else if e < 0x30000 then s.readTasks e n
  else if e < 0x40000 then s.readEngine e n
  else if e < 0x50000 then s.readMeridian e n
  else if e < 0x60000 then s.readStation e n
  else if e < 0x70000 then s.readDigital e n
  else if e < 0x80000 then s.readAnalogue e n
  else if e < 0x90000 then s.readSafety e n
  else if e < 0xA0000 then s.readCanEl e n
  else if e < 0xA8000 then s.readNetworks e n
  else if e < 0xB0000 || 0xE0000 ≤ e then s.readLegend e n
  else s.readService e n

/-- A writable element whose value is not in the element store. -/
def liveWritable (e : Nat) : Bool :=
  e == 1 || e == 0x22011 || (0x28000 ≤ e && e ≤ 0x2FFFF) || (0x34000 ≤ e && e ≤ 0x341FF) || (0x41000 ≤ e && e ≤ 0x413FF)
    || (0x70500 ≤ e && e ≤ 0x7050F) || (0xA8010 ≤ e && e ≤ 0xA802F)

/-- The value of an existing element (R235): WO and CMD elements read zero. -/
def State.readEl (s : State) (e n : Nat) (d : Desc) : Nat :=
  (if d.acc = 3 || d.acc = 5 then 0
   else if d.acc = 0 || liveWritable e then s.readLive e n
   else s.el e n (s.dflt e n)) % 256 ^ d.size

end Sys2Proof.Machine
end

