-- ==== Sys2Proof/Machine/LegendMsg.lean ====
section
/-!
DEFINITION. The Legend message: its header, its violations, answers, sessions, replay and admission (R238 to R253).
-/
namespace Sys2Proof.Machine

/-! ## Header (Table 09-5) -/

/-- A byte of a message. -/
def byteAt (m : List Byte) (o : Nat) : Nat := (m.getD o 0).toNat

def msgOp (m : List Byte) : Nat := byteAt m 1
def msgFlags (m : List Byte) : Nat := byteAt m 2
def msgAtomic (m : List Byte) : Bool := bitOf (msgFlags m) 1
def msgForwarded (m : List Byte) : Bool := bitOf (msgFlags m) 2
def msgMeta (m : List Byte) : Bool := bitOf (msgFlags m) 3
def msgTarget (m : List Byte) : Nat := byteAt m 3
def msgSession (m : List Byte) : Nat := leAt m 4 4
def msgReqId (m : List Byte) : Nat := leAt m 8 4
def msgCount (m : List Byte) : Nat := leAt m 12 2
def msgLength (m : List Byte) : Nat := leAt m 14 2
def msgPayload (m : List Byte) : List Byte := m.drop 24

/-- A message: 20 header bytes, the CRC over them and the payload, the payload. -/
def sealMsg (head payload : List Byte) : List Byte :=
  let h := head.take 20
  h ++ leBytes 4 (crc32c (h ++ payload)) ++ payload

/-- Pad to a multiple of 4 bytes (R242). -/
def pad4 (n : Nat) : Nat := (n + 3) / 4 * 4
def padTo4 (l : List Byte) : List Byte := l ++ List.replicate (pad4 l.length - l.length) 0

/-! ## Items (Table 09-6) -/

/-- The bytes one item takes at the head of `l`; none where it does not fit. -/
def itemSize (op : Nat) (l : List Byte) : Option Nat :=
  let fit (n : Nat) : Option Nat := if n ≤ l.length then some n else none
  match op with
  | 0x01 | 0x04 | 0x10 | 0x14 | 0x20 | 0x23 => fit 4
  | 0x02 => fit 64
  | 0x11 => if 8 ≤ l.length then fit (pad4 (8 + leAt l 6 2)) else none
  | 0x12 => fit 12
  | 0x13 => if 12 ≤ l.length then fit (pad4 (12 + leAt l 8 2)) else none
  | 0x21 => fit 16
  | 0x22 => fit 8
  | _ => none

/-- Split a payload into `n` items; none where it does not hold exactly `n`. -/
def splitItems (op : Nat) : Nat → List Byte → Option (List (List Byte))
  | 0, l => if l.isEmpty then some [] else none
  | n + 1, l =>
    match itemSize op l with
    | some k => (splitItems op n (l.drop k)).map (fun r => l.take k :: r)
    | none => none

/-- Bytes before the items: Q of an ATOMIC SURVEY_READ. -/
def itemsAt (m : List Byte) : Nat := if msgOp m = 0x20 && msgAtomic m then 8 else 0

/-- The items of a message whose payload (less a tag) is `p`. -/
def msgItems (m p : List Byte) : Option (List (List Byte)) :=
  let o := itemsAt m
  let op := msgOp m
  let c := msgCount m
  if p.length < o then none
  else if (op = 0x01 || op = 0x02 || op = 0x04 || op = 0x12 || op = 0x13 || op = 0x14 || op = 0x23) && c != 1 then none
  else if op = 0x03 && c != 0 then none
  else splitItems op c (p.drop o)

/-- Offset within an item of its first reserved or padding byte that is not zero, or of a byte with a reserved bit set. -/
def itemBad (op : Nat) (it : List Byte) : Option Nat :=
  let zero (l : List Nat) : Option Nat := l.find? (fun o => byteAt it o != 0)
  let eaBad : Option Nat := if 16 ≤ byteAt it 3 then some 3 else none
  let ptBad : Option Nat := if 2 ≤ byteAt it 3 then some 3 else none
  let pad (n : Nat) : List Nat := (List.range (it.length - n)).map (n + ·)
  match op with
  | 0x01 => zero [2, 3]
  | 0x04 => zero [1, 2, 3]
  | 0x10 => eaBad
  | 0x11 => eaBad.or (zero (5 :: pad (8 + leAt it 6 2)))
  | 0x12 => eaBad.or (zero [10, 11])
  | 0x13 => eaBad.or (zero (10 :: 11 :: pad (12 + leAt it 8 2)))
  | 0x20 => ptBad
  | 0x21 => ptBad.or (zero [5, 6, 7])
  | 0x23 => zero [1, 2, 3]
  | _ => none

/-- The first bad byte of a list of items, the first of which lies at `at_`. -/
def itemsBad (op : Nat) : Nat → List (List Byte) → Option Nat
  | _, [] => none
  | at_, it :: r =>
    match itemBad op it with
    | some o => some (at_ + o)
    | none => itemsBad op (at_ + it.length) r

/-- An operation of Table 09-6. -/
def opDefined (op : Nat) : Bool := [0x01, 0x02, 0x03, 0x04, 0x10, 0x11, 0x12, 0x13, 0x14, 0x20, 0x21, 0x22, 0x23].contains op

/-- A request's violation: the offset of its first faulty byte (R253). `tag` bytes at the end of the payload are no item. -/
def msgFault (m : List Byte) (forwarded : Bool) : Option Nat :=
  let tag := if forwarded then 8 else 0
  let p := msgPayload m
  if byteAt m 0 ≠ 1 then some 0
  else if !opDefined (msgOp m) then some 1
  else if bitOf (msgFlags m) 0 || 16 ≤ msgFlags m || msgForwarded m != forwarded then some 2
  else if forwarded && 3 ≤ msgSession m then some 4
  else if byteAt m 16 ≠ 0 then some 16
  else if !forwarded && byteAt m 17 ≠ 0xFF then some 17
  else if leAt m 18 2 ≠ 0 then some 18
  else if msgLength m ≠ p.length || 1440 < msgLength m || p.length < tag then some 14
  else match msgItems m (p.take (p.length - tag)) with
    | none => some 12
    | some l => itemsBad (msgOp m) (24 + itemsAt m) l

/-- The header is readable and its CRC good (R252). -/
def msgReadable (m : List Byte) : Bool :=
  decide (24 ≤ m.length) && leAt m 20 4 == crc32c (m.take 20 ++ m.drop 24)

/-! ## Answers -/

/-- The source of a request, as events name it. -/
def srcNum (x : Source_) : Nat := sourceNum (some x)

/-- The smallest FD data length that holds `n` bytes (R246). -/
def fdLen (n : Nat) : Nat :=
  if n ≤ 8 then n else if n ≤ 12 then 12 else if n ≤ 16 then 16 else if n ≤ 20 then 20 else if n ≤ 24 then 24
  else if n ≤ 32 then 32 else if n ≤ 48 then 48 else 64

/-- The frames of a message on an identifier pair (R246); `k` is the counter of the next frame and `n` bounds their number. -/
def canFrames : Nat → Nat → List Byte → List (List Byte)
  | 0, _, _ => []
  | n + 1, k, l =>
    let last := decide (l.length ≤ 63)
    let kind := if k = 0 then (if last then 0 else 1) else if last then 3 else 2
    let d := BitVec.ofNat 8 (kind * 64 + k % 64) :: l.take 63
    let frame := d ++ List.replicate (fdLen d.length - d.length) 0
    if last then [frame] else frame :: canFrames n (k + 1) (l.drop 63)

/-- Put a message on the port its receiver is reached by. A relay over the tie link and the triad's queue are marked by addresses
that no UDP address has. -/
def State.deliver_ (s : State) (dst : Source_) (m : List Byte) : State :=
  match dst with
  | .udp a p => s.send (.legend (a, p) m)
  | .can c k =>
    let id := leAt (leBytes 9 (s.el (0x90300 + c.val) k.val 0)) 4 4
    if s.canMode c.val ≠ 1 || (s.canCtl c.val).busOff then s
    else s.each (canFrames 24 0 m) (fun s f => (s.updCan c.val (fun x => { x with txcnt := (x.txcnt + 1) % 2 ^ 32 })).send (.can c.val id f))
  | .program => s.send (.legend (2 ^ 33, 0) m)
  | .peer i => s.send (.legend (s.el (0xA8500 + i.val) 0 0, 47902) m)

/-- Over the tie link to the partner (R28, R260). -/
def State.relay_ (s : State) (m : List Byte) : State := s.send (.legend (2 ^ 32, s.partner) m)

/-- The bytes of an answer to a request, its header with RESPONSE set, for a status given by its code. -/
def answerCode (req : List Byte) (st : Nat) (retry count : Nat) (payload : List Byte) : List Byte :=
  let head := [byteAt req 0, msgOp req, setBit (msgFlags req) 0 true, msgTarget req].flatMap (leBytes 1)
    ++ (req.drop 4).take 8 ++ leBytes 2 count ++ leBytes 2 payload.length ++ leBytes 1 st ++ leBytes 1 (byteAt req 17) ++ leBytes 2 retry
  sealMsg head payload

/-- The bytes of an answer to a request. -/
def answerMsg (req : List Byte) (st : Status) (retry count : Nat) (payload : List Byte) : List Byte := answerCode req st.code retry count payload

/-- The status in the header of an answer whose items carry these (R247): OK, or that of the first item that failed. An item that
was only not applied has not failed itself (R243). -/
def headStatus (l : List Nat) : Nat := (l.find? (fun c => c != 0 && c != Status.notApplied.code)).getD 0

/-- The slot of an open or proving session with this identity. -/
def State.findSession (s : State) (id : Nat) : Option Nat :=
  (upto 32).find? (fun i => let x := s.session i; x.state != 0 && x.id == id)

/-- Keep the answer of a session for 2 s, the last 16 of them (R244). -/
def State.keepAnswer (s : State) (req ans : List Byte) : State :=
  match s.findSession (msgSession req) with
  | some i => s.updSession i (fun x => { x with kept := (({ reqId := msgReqId req, bytes := ans, at_ := s.mer.raw } : Kept) :: x.kept).take 16 })
  | none => s

/-- Answer an admitted request. -/
def State.reply (s : State) (src : Source_) (req : List Byte) (st : Nat) (count : Nat) (payload : List Byte) : State :=
  let m := answerCode req st 0 count payload
  (match src with | .udp _ _ | .can _ _ => s.keepAnswer req m | _ => s).deliver_ src m

/-- Refuse a request whole: no items, and DETAIL as the payload. -/
def State.refuseMsg (s : State) (src : Source_) (req : List Byte) (a : Ans) : State :=
  s.deliver_ src (answerMsg req a.status 0 0 (leBytes 4 a.detail))

/-- The same for an admitted request: the answer is kept. -/
def State.refuseKept (s : State) (src : Source_) (req : List Byte) (a : Ans) : State := s.reply src req a.status.code 0 (leBytes 4 a.detail)

/-! ## Violations (R252, R253) -/

/-- What the source was answered in the present second: BUSY and MALFORMED answers. -/
def State.rate (s : State) (src : Source_) : Nat × Nat :=
  match s.leg.rates.find? (fun x => decide (x.1 = src)) with
  | some x => if s.elapsed x.2.1 (ticksMs 1000) then (0, 0) else x.2.2
  | none => (0, 0)

def State.setRate (s : State) (src : Source_) (r : Nat × Nat) : State :=
  let start := match s.leg.rates.find? (fun x => decide (x.1 = src)) with
    | some x => if s.elapsed x.2.1 (ticksMs 1000) then s.mer.raw else x.2.1
    | none => s.mer.raw
  { s with leg := { s.leg with rates := (src, start, r) :: s.leg.rates.filter (fun x => decide (x.1 ≠ src)) } }

/-- One record per source per episode of 10 s: FIRST, and REPEAT for the others (R252). -/
def State.noteViolation (s : State) (src : Source_) (code arg : Nat) : State :=
  match s.leg.violRec.find? (fun x => decide (x.1 = src)) with
  | some x =>
    if s.elapsed x.2 (ticksMs 10000) then
      ({ s with leg := { s.leg with violRec := (src, s.mer.raw) :: s.leg.violRec.filter (fun x => decide (x.1 ≠ src)) } } : State).evS code 0x0601 [arg]
    else s.evRep code 0x0601 [arg]
  | none => ({ s with leg := { s.leg with violRec := (src, s.mer.raw) :: s.leg.violRec } } : State).evS code 0x0601 [arg]

/-- A violation of the Legend protocol: counted, recorded, and answered where the header is readable and the CRC good. -/
def State.violates (s : State) (src : Source_) (m : List Byte) (offset : Option Nat) : State :=
  let s : State := { s with leg := { s.leg with viol := satInc 32 s.leg.viol } }
  let s := s.noteViolation src 0xA811 (srcNum src)
  match offset with
  | none => s
  | some o =>
    let r := s.rate src
    if r.2 < 10 then (s.setRate src (r.1, r.2 + 1)).refuseMsg src m { status := .malformed, detail := o } else s

/-! ## Sessions (R238, R239) -/

/-- Session idle timeout (Legend 0xA8001.0). -/
def State.idleTicks (s : State) : Nat := ticksMs (1000 * s.el 0xA8001 0 60)

/-- The session has expired: idle, or not proven within 10 s. -/
def State.sessionOver (s : State) (x : Session) : Bool :=
  (x.state == 2 && s.elapsed x.lastAt s.idleTicks) || (x.state == 1 && s.elapsed x.openedAt (ticksMs 10000))

/-- Free a session slot. -/
def State.freeSession (s : State) (i : Nat) : State := s.updSession i (fun _ => {})

/-- A session expires. -/
def State.expireSession (s : State) (i : Nat) : State :=
  let id := (s.session i).id
  (({ s with leg := { s.leg with expired := id :: s.leg.expired } } : State).freeSession i)

/-- SESSION with its detail. -/
def ansSession (d : Nat) : Ans := { status := .session, detail := d }

/-- The session slot that a request names, or the SESSION detail it is refused with; a session found past its time expires. -/
def State.useSession (s : State) (src : Source_) (id : Nat) : Except Nat Nat × State :=
  match s.findSession id with
  | none => (.error (if s.leg.expired.contains id then 2 else 1), s)
  | some i =>
    let x := s.session i
    if s.sessionOver x then (.error 2, s.expireSession i)
    else if x.source ≠ some src then (.error 4, s)
    else (.ok i, s)

/-! ## Admission (R249 to R251) -/

/-- One unit of a bucket. -/
def bucketUnit : Nat := 400000000

/-- Units a request costs. -/
def msgCost (m : List Byte) : Nat := 1 + (msgLength m + 255) / 256 + (msgCount m + 15) / 16

/-- A bucket of a depth and a refill rate as it stands now. -/
def State.bucketNow (s : State) (b : Bucket) (depth rate : Nat) : Nat := min (depth * bucketUnit) (b.level + (s.mer.raw - b.at_) * rate)

/-- RETRY_MS for a shortfall (R250). -/
def retryMs (short rate : Nat) : Nat := min 60000 (max 1 ((1000 * short + rate * bucketUnit - 1) / (rate * bucketUnit)))

/-- The bucket of the requester: its contents, its depth and rate. A source that has not asked before has a full one. -/
def State.askerBucket (s : State) (src : Source_) (sess : Option Nat) : Bucket × Nat × Nat :=
  match src, sess with
  | .program, _ => (s.leg.program, 256, 10000)
  | .peer i, _ => (Table.get s.leg.peers { level := 256 * bucketUnit, at_ := 0 } i.val, 256, 10000)
  | _, some i => let x := s.session i; ({ level := x.bucket, at_ := x.refillAt }, 64, s.el 0xA8001 2 2000)
  | _, none =>
    match s.leg.sources.find? (fun x => decide (x.1 = src)) with
    | some x => (x.2, 8, 10)
    | none => ({ level := 8 * bucketUnit, at_ := s.mer.raw }, 8, 10)

def State.setAsker (s : State) (src : Source_) (sess : Option Nat) (b : Bucket) : State :=
  match src, sess with
  | .program, _ => { s with leg := { s.leg with program := b } }
  | .peer i, _ => { s with leg := { s.leg with peers := Table.put s.leg.peers i.val b } }
  | _, some i => s.updSession i (fun x => { x with bucket := b.level, refillAt := b.at_ })
  | _, none => { s with leg := { s.leg with sources := (src, b) :: s.leg.sources.filter (fun x => decide (x.1 ≠ src)) } }

/-- BUSY (R250, R251): at most 100 answers per source and second, and one event an overload episode. -/
def State.answerBusy (s : State) (src : Source_) (m : List Byte) (retry : Nat) : State :=
  let r := s.rate src
  if r.1 < 100 then
    let fresh := match s.leg.busyAt with | some t => s.elapsed t (ticksMs 10000) | none => true
    let s : State := { s with leg := { s.leg with busy := satInc 32 s.leg.busy, busyAt := some s.mer.raw } }
    let s := if fresh then ({ s with leg := { s.leg with pend := setBit s.leg.pend 1 true } } : State).evS 0xA810 0x0601 [srcNum src]
      else s.evRep 0xA810 0x0601 [srcNum src]
    (s.setRate src (r.1 + 1, r.2)).deliver_ src (answerMsg m .busy retry 0 [])
  else { s with leg := { s.leg with dropped := satInc 32 s.leg.dropped } }

/-- Admit a request of a cost: both buckets are debited, or the hint of the larger wait. -/
def State.takeIn (s : State) (src : Source_) (sess : Option Nat) (observerOnly : Bool) (cost : Nat) : Except Nat State :=
  let need := cost * bucketUnit
  let b := s.askerBucket src sess
  let own := s.bucketNow b.1 b.2.1 b.2.2
  let mod := s.bucketNow s.leg.module 1024 40000
  let floor := if observerOnly then 256 * bucketUnit else 0
  let d1 := need - own
  let d2 := need + floor - mod
  if d1 = 0 && d2 = 0 then
    let s := s.setAsker src sess { level := own - need, at_ := s.mer.raw }
    .ok { s with leg := { s.leg with module := { level := mod - need, at_ := s.mer.raw }, admitted := s.leg.admitted + 1 } }
  else .error (max (if d1 = 0 then 0 else retryMs d1 b.2.2) (if d2 = 0 then 0 else retryMs d2 40000))

/-- The time an answer took: of a local request within 5 ms, unstated otherwise (R250); of another, measured. -/
def State.noteTime (s : State) (since : Option Nat) : State :=
  match since with
  | some t => { s with leg := { s.leg with maxAnswer := max s.leg.maxAnswer ((s.mer.raw - t) / 400 % 2 ^ 32) } }
  | none =>
    let d := s.draw
    let s := d.2
    { s with leg := { s.leg with maxAnswer := max s.leg.maxAnswer ((Config.random d.1).toNat % 5001) } }

end Sys2Proof.Machine
end

