-- ==== Sys2Proof/Machine/TriadOps.lean ====
section
/-!
DEFINITION. The cores of the triad, their signatures, and the voter (R62 to R82).
-/
namespace Sys2Proof.Machine

def State.core (s : State) (c : Nat) : Core := s.tri.core c
def State.updCore (s : State) (c : Nat) (f : Core → Core) : State := { s with tri := s.tri.setCore c (f (s.tri.core c)) }

/-! ## The signature (R69 to R71) -/

/-- The two words of an item (Table 03-3). -/
def sigWords : SigItem → Nat × Nat
  | .x r v => (1 * 2 ^ 60 + r.val, v % 2 ^ 64)
  | .f r v => (2 * 2 ^ 60 + r.val, v % 2 ^ 64)
  | .csr n v => (3 * 2 ^ 60 + n.val, v % 2 ^ 64)
  | .store a w d => (4 * 2 ^ 60 + w.val * 2 ^ 56 + a % 2 ^ 48, d % 2 ^ (8 * 2 ^ w.val))

/-- Fold 16 bytes into the register. -/
def foldWords (crc : Nat) (x : Nat × Nat) : Nat := crc64Feed crc (leBytes 8 x.1 ++ leBytes 8 x.2)

/-- Fold an item. -/
def Core.fold (x : Core) (i : SigItem) : Core := { x with crc := foldWords x.crc (sigWords i) }

/-- The signature of the interval with its checkpoint record (kind 0xF, always the last item). -/
def Core.sign (x : Core) (kind : Nat) : Nat :=
  foldWords x.crc (15 * 2 ^ 60 + x.set.length % 2048 * 2 ^ 16 + kind, x.readIdx) ^^^ crc64Ones

/-- The signature register of a core that has presented none. -/
def Core.sigNow (x : Core) : Nat := match x.arrived with | some a => a.sig | none => x.crc ^^^ crc64Ones

/-! ## What a core did (R63, R69, R71) -/

/-- A CSR as a core holds it; a write that does not change it folds nothing. -/
def Core.csr (x : Core) (n : Nat) : Nat := Table.get x.csrs 0 n
def Core.writeCsr (x : Core) (n : Fin 4096) (v : Nat) : Core :=
  if x.csr n.val = v % 2 ^ 64 then x
  else { (x.fold (.csr n v)) with csrs := Table.set x.csrs 0 n.val (v % 2 ^ 64) }

/-- Write a private bank; while a rebuilt core waits, its donor's stores reach the copy too (R80). -/
def State.privateStore (s : State) (c a w d : Nat) : State :=
  let put (m : Memory) (k : Nat) : Memory := m.writeN (privBase k + (a - 0x10000000)) (leBytes (2 ^ w) d)
  let m := put s.mem.data c
  let m := match s.tri.rebuild with | some r => if r.donor = c && r.copied then put m r.core else m | none => m
  ({ s with mem := { s.mem with data := m } } : State).restoreWords (privBase c + (a - 0x10000000)) (2 ^ w)

/-- One item in retirement order. -/
def State.retire (s : State) (c : Nat) (i : SigItem) : State :=
  match i with
  | .x r v => if r.val = 0 then s else s.updCore c (fun x => { (x.fold i) with regs := Table.set x.regs 0 r.val (v % 2 ^ 64) })
  | .f r v => s.updCore c (fun x => { (x.fold i) with regs := Table.set x.regs 0 (32 + r.val) (v % 2 ^ 64) })
  | .csr n v => s.updCore c (fun x => x.writeCsr n v)
  | .store a w d => (s.privateStore c a w.val d).updCore c (fun x => x.fold i)

/-- A store that a run lists lies in the core's private banks. -/
def runOk (r : CoreRun) : Bool :=
  r.items.all (fun i => match i with | .store a w _ => isPrivate a (2 ^ w.val) | _ => true)

/-- What a core did since its last command. -/
def State.applyRun (s : State) (c : Nat) (r : CoreRun) : State :=
  (s.each r.items (fun s i => s.retire c i)).updCore c (fun x => { x with retired := x.retired + r.retired, since := x.since + r.retired })

/-- A core that runs: active, not waiting at a checkpoint or on a read. -/
def Core.runs (x : Core) : Bool := decide (x.state = .active) && x.arrived.isNone && x.reading.isNone

/-- A command of a core: it does what its run says, then `f`. A core that cannot run issues none (log entry 7). -/
def coreDoes (s : State) (c : Fin 3) (r : CoreRun) (f : State → State) : Res :=
  if !runOk r then .fault .illFormed
  else whenUp s (fun s => if (s.core c.val).runs && !(s.core c.val).wfi then f (s.applyRun c.val r) else s)

/-- A trap: its implicit CSR writes, in order, where they change the CSR (R70). -/
def State.trap (s : State) (c cause tval pc : Nat) (user : Bool) : State :=
  s.updCore c (fun x =>
    let x := ((x.writeCsr 0x342 cause).writeCsr 0x343 tval).writeCsr 0x341 pc
    let m := x.csr 0x300
    let m := setField (setBit (setBit m 7 (bitOf m 3)) 3 false) 12 11 (if user then 0 else 3)
    x.writeCsr 0x300 m)

/-! ## Disagreements (R77 to R79) -/

/-- The last disagreement's instant, number and signatures. -/
def TriadPart.noteDis (t : TriadPart) (now : MTime) : TriadPart :=
  { t with disAt := now, disSeq := t.ckpts + 1, disSig0 := t.c0.sigNow, disSig1 := t.c1.sigNow, disSig2 := t.c2.sigNow }

/-- A core as a voter failure leaves it: its pending write-set is discarded. -/
def Core.discarded (x : Core) : Core :=
  { x with set := [], readIdx := 0, crc := crc64Ones, since := 0, arrived := none, reading := none }

/-- NO-MAJORITY and DUPLEX-DISAGREEMENT: nothing is committed until a reset, renewals stop, and the module enters SAFE (R78). -/
def State.voterFails (s : State) (code : Nat) : State :=
  if s.tri.dead then s else
  let t := s.tri.noteDis s.now
  let t := { t with dead := true, firstAt := none, commit := none, lag := [], queue := [], rebuild := none,
                    c0 := t.c0.discarded, c1 := t.c1.discarded, c2 := t.c2.discarded }
  (({ s with tri := t } : State).fault 0 code 0 3 []).enterSafe code 0 true

/-- The code of a failure in the present configuration. -/
def State.voterFailure (s : State) : State := s.voterFails (if s.tri.duplex then 0x2004 else 0x2005)

/-- The signatures of the three cores at a disagreement; a core already released counts as it committed. -/
def State.sigs (s : State) : List Nat :=
  (upto 3).map (fun c => match s.tri.lag.head? with
    | some l => if l.core = c then (s.core c).sigNow else l.arrival.sig
    | none => (s.core c).sigNow)

/-- Causes of Legend 0x20007.2. -/
def qMismatch : Nat := 1
def qLag : Nat := 2
def qRead : Nat := 3
def qInjected : Nat := 4

/-- Quarantine a core; a second one in duplex is a duplex disagreement (R79, R81). -/
def State.quarantine (s : State) (c cause : Nat) : State :=
  if s.tri.duplex then s.voterFails 0x2004
  else
    let sg := s.sigs
    let seq := match s.tri.lag.head? with | some l => if l.core = c then l.seq else s.tri.ckpts + 1 | none => s.tri.ckpts + 1
    let cause := if cause = qMismatch && (s.core c).injected then qInjected else cause
    let s := s.updCore c (fun x =>
      { x with state := .quarantined, quarantines := satInc 32 x.quarantines, set := [], arrived := none, reading := none, wfi := false,
               inject := false, injected := decide (cause = qInjected) })
    let s : State := { s with tri := { s.tri with
      lag := s.tri.lag.filter (fun l => l.core != c), pend := setBit s.tri.pend 0 true,
      disAt := s.now, disCore := c, disCause := cause, disSeq := seq, disSig0 := sg.getD 0 0, disSig1 := sg.getD 1 0, disSig2 := sg.getD 2 0 } }
    s.fault 0 0x2001 c 1 ([c, cause, seq] ++ sg)

/-! ## The vote (R74, R75, R77) -/

/-- Two cores agree (R74). -/
def Arrival.agrees (a b : Arrival) : Bool :=
  a.kind == b.kind && a.sig == b.sig && a.consumed == b.consumed && decide (a.set = b.set)

/-- The skew of a core that arrives now, ns. -/
def State.noteSkew (s : State) (first seq : Nat) : State :=
  let d := (s.mer.raw - first) * 5 / 2
  if s.tri.skewMax < d then { s with tri := { s.tri with skewMax := d, skewMaxAt := seq % 2 ^ 32 } } else s

/-- Agreement: the commit begins (step 4). -/
def State.agree (s : State) (a : Arrival) (cores old : List Nat) : State :=
  { s with tri := { s.tri with commit := some { arrival := a, cores := cores, old := old, copied := (s.tri.rebuild.map (·.copied)).getD false, from_ := s.now } } }

/-- Cores in quarantine. -/
def TriadPart.outs (t : TriadPart) : List Nat := (upto 3).filter (fun c => decide ((t.core c).state = .quarantined))

/-- Cores that have arrived at the checkpoint in progress, lowest first. -/
def State.arrivals (s : State) : List (Nat × Arrival) :=
  (upto 3).filterMap (fun c => (s.core c).arrived.map (fun a => (c, a)))

/-- The vote as arrivals stand (steps 2 and 3). -/
def State.vote (s : State) : State :=
  let old := s.tri.outs
  match s.arrivals with
  | [(c, a), (d, b)] =>
    if a.agrees b then s.agree a [c, d] old
    else if s.tri.duplex then s.voterFails 0x2004 else s
  | [(_, a), (_, b), (_, x)] =>
    if a.agrees b then (s.quarantine 2 qMismatch).agree a [0, 1] old
    else if a.agrees x then (s.quarantine 1 qMismatch).agree a [0, 2] old
    else if b.agrees x then (s.quarantine 0 qMismatch).agree b [1, 2] old
    else s.voterFails 0x2005
  | _ => s

/-- A core is released with a fresh signature and a zero read index (step 5). -/
def Core.released (x : Core) : Core := { x with crc := crc64Ones, since := 0, set := [], readIdx := 0, arrived := none }

/-- What a core presents: its signature, corrupted by an injected fault (R88). The corrupted value is not the true one, and is
otherwise free. -/
def State.present (s : State) (c kind : Nat) (outs : List OutVal) (evals : List Eval) : Arrival × State :=
  let x := s.core c
  let sig := x.sign kind
  let d := s.draw
  let bad := (1 + (Config.random d.1).toNat % (2 ^ 64 - 1)) ^^^ sig
  let a : Arrival := { kind := kind, sig := if x.inject then bad else sig, consumed := x.readIdx, set := x.set, outs := outs, evals := evals }
  if x.inject then (a, d.2.updCore c (fun x => { x with inject := false, injected := true })) else (a, s)

/-- A core arrives at a checkpoint (Table 03-5). -/
def State.arrive (s : State) (c kind : Nat) (outs : List OutVal) (evals : List Eval) : State :=
  if s.tri.dead then s.updCore c Core.discarded
  else
    let p := s.present c kind outs evals
    let a := p.1
    let s := p.2
    match s.tri.lag.find? (fun l => l.core == c) with
    | some l =>
      let s := s.noteSkew l.firstAt l.seq
      if a.agrees l.arrival then
        ({ s with tri := { s.tri with lag := s.tri.lag.drop 1 } } : State).updCore c Core.released
      else (s.updCore c (fun x => { x with arrived := some a })).quarantine c qMismatch
    | none =>
      let s := s.updCore c (fun x => { x with arrived := some a })
      let s := match s.tri.firstAt with
        | none => { s with tri := { s.tri with firstAt := some s.mer.raw } }
        | some f => s.noteSkew f (s.tri.ckpts + 1)
      match s.tri.commit with
      | some k =>
        if a.agrees k.arrival then { s with tri := { s.tri with commit := some { k with cores := k.cores ++ [c] } } }
        else s.quarantine c qMismatch
      | none => s.vote

/-! ## Interrupts (R68) -/

/-- Bits set in `pend` that `on` lets through. -/
def irqOf (pairs : List (Bool × Bool)) : Bool := pairs.any (fun x => x.1 && x.2)

/-- The pending-interrupt state: bit 0 the bus-error interrupt (R439), bit 1 the non-maskable event (R419), bit 2 the end of a snapshot
copy, bit 8 + f the enabled interrupts of the block of frame f. -/
def State.pendingIrq (s : State) : Nat :=
  let b (v n : Nat) : Bool := bitOf v n
  let t := s.tri
  let can (c : CanCtrl) : Bool := (c.pend &&& c.ie) != 0
  packBits [s.sys.busIrq, s.clk.nmi, s.sys.snapIrq, false, false, false, false, false, false,
    irqOf [(b t.ctrl 0, b t.pend 0 || b t.pend 1), (b t.ctrl 1, b t.pend 2)],
    irqOf [(b s.tsk.ctrl 0, s.tsk.pend % 65536 != 0), (b s.tsk.ctrl 1, s.tsk.pend / 65536 != 0)],
    irqOf [(b s.cen.ctrl 0, s.cen.missSeen), (b s.cen.ctrl 1, s.cen.numSeen)],
    false,
    irqOf [(b s.wpt.ctrl 0, b s.wpt.pend 0), (b s.wpt.ctrl 1, b s.wpt.pend 1)],
    irqOf [(b s.red.ctrl 0, b s.red.pend 0), (b s.red.ctrl 1, b s.red.pend 1)],
    irqOf [(b s.dio.ctrl 0, s.dio.cosPend != 0)],
    irqOf [(b s.aio.ctrl 0, s.aio.pend != 0)],
    irqOf [(b s.saf.ctrl 0, b s.saf.pend 0), (b s.saf.ctrl 1, b s.saf.pend 1 || b s.saf.pend 3)],
    can s.can.c0, can s.can.c1, can s.can.c2, can s.can.c3,
    (s.net.ctrl &&& s.net.pend) != 0, (s.leg.ctrl &&& s.leg.pend) != 0, (s.evr.ctrl &&& s.evr.pend) != 0, (s.crt.ie &&& s.crt.pend) != 0,
    irqOf [(b s.clk.ctrl 0, b s.clk.pend 0), (b s.clk.ctrl 1, b s.clk.pend 1 || b s.clk.pend 2)],
    irqOf [(b s.mem.ctrl 0, b s.mem.pend 0 || b s.mem.pend 1), (b s.mem.ctrl 1, b s.mem.pend 2)],
    (s.pwr.ctrl % 4 &&& s.pwr.pend) != 0]

/-! ## The input sample queue (R64 to R67) -/

/-- The queue a core reads: that of the interval it is in. -/
def State.queueOf (s : State) (c : Nat) : List QEntry :=
  match s.tri.lag.find? (fun l => l.core == c) with | some l => l.queue | none => s.tri.queue

/-- Change the queue a core reads. -/
def State.setQueueOf (s : State) (c : Nat) (q : List QEntry) : State :=
  match s.tri.lag with
  | l :: ls => if l.core = c then { s with tri := { s.tri with lag := { l with queue := q } :: ls } } else { s with tri := { s.tri with queue := q } }
  | [] => { s with tri := { s.tri with queue := q } }

/-- The bytes of an access that a core's own write-set holds, by position; none where it has not written. -/
def ownBytes (set : List WEntry) (a n : Nat) : List (Option Byte) :=
  (upto n).map (fun i =>
    match set.find? (fun e => e.addr == (a + i) / 8 * 8) with
    | some e => if bitOf e.mask ((a + i) % 8) then (leBytes 8 e.data)[(a + i) % 8]? else none
    | none => none)

/-- A value with the core's own stores over it. -/
def withOwn (own : List (Option Byte)) (v : Nat) : Nat :=
  leNat ((own.zip (leBytes own.length v)).map (fun x => x.1.getD x.2))

/-- Hand an entry to a core: its value, the interrupt state it takes (R68), or the load access fault its bus error carries (R439). -/
def State.deliver (s : State) (c : Nat) (e : QEntry) (pc : Nat) (user : Bool) : State :=
  let own := ownBytes (s.core c).set e.addr (2 ^ e.width)
  let s := s.updCore c (fun x => { x with readIdx := x.readIdx + 1, reading := none })
  if e.addr = pendingState then s.updCore c (fun x => { x with irqTaken := e.value, wfi := false })
  else if e.err = 0 then s.send (.coreRead c e.addr (if e.addr < 0x10000000 then e.value else withOwn own e.value)) else s.trap c 5 e.addr pc user

/-- The access of a read by the core that comes first. A read of the pending state takes up the events that have no pending bit. -/
def State.makeEntry (s : State) (c a w : Nat) : QEntry × State :=
  if a = pendingState then
    ({ addr := a, width := w, value := s.pendingIrq, maker := c },
      { s with sys := { s.sys with busIrq := false, snapIrq := false }, clk := { s.clk with nmi := false } })
  else
  let r := s.sharedAccess a (2 ^ w) w
  ({ addr := a, width := w, value := r.2.1, err := r.1, maker := c }, r.2.2)

/-- A core that waits on its nth read, other than `c`. -/
def State.waiter (s : State) (c n : Nat) : Option (Nat × PendRead) :=
  ((upto 3).filterMap (fun d => if d = c || (s.core d).readIdx != n then none else (s.core d).reading.map (fun r => (d, r)))).head?

/-- A read that differs from the entry (R66). -/
def State.mismatch (s : State) (c n : Nat) (e : QEntry) (r : PendRead) : State :=
  if s.tri.lag.any (fun l => l.core == c) then s.quarantine c qRead
  else if s.tri.duplex then s.voterFails 0x2004
  else match s.waiter c n with
    | some (d, w) =>
      if w.addr = r.addr && w.width = r.width then
        let s := s.quarantine e.maker qRead
        let x := s.makeEntry c r.addr r.width
        let s := x.2.setQueueOf c ((s.queueOf c).set n x.1)
        (s.deliver c x.1 r.pc r.user).deliver d x.1 w.pc w.user
      else s.voterFails 0x2005
    | none =>
      -- The third core has passed the entry, so it agrees with it.
      if s.tri.actives.any (fun d => d != c && d != e.maker && decide (n < (s.core d).readIdx) && !s.tri.lag.any (fun l => l.core == d)) then s.quarantine c qRead
      else s.updCore c (fun x => { x with reading := some r })

/-- A core that matches the entry on which another waits shows that one to be the odd one. -/
def State.settleRead (s : State) (c n : Nat) : State :=
  match s.waiter c n with | some (d, _) => s.quarantine d qRead | none => s

/-- The nth read of a core (R64). Where the triad commits nothing any more, each core reads for itself (R78). -/
def State.queueRead (s : State) (c a w pc : Nat) (user : Bool) : State :=
  let n := (s.core c).readIdx
  if s.tri.dead then let x := s.makeEntry c a w; x.2.deliver c x.1 pc user
  else if 4096 ≤ n then s
  else match (s.queueOf c)[n]? with
    | none =>
      let x := s.makeEntry c a w
      (x.2.setQueueOf c (s.queueOf c ++ [x.1])).deliver c x.1 pc user
    | some e =>
      if e.addr = a && e.width = w then (s.deliver c e pc user).settleRead c n
      else s.mismatch c n e { addr := a, width := w, pc := pc, user := user, since := s.mer.raw }

/-! ## The write-set (R73) -/

/-- Merge the bytes of a doubleword into the set. -/
def mergeEntry (set : List WEntry) (a mask data : Nat) : List WEntry :=
  match set.find? (fun e => e.addr == a) with
  | some _ => set.map (fun e => if e.addr = a then { e with mask := e.mask ||| mask, data := leNat (maskBytes mask (leBytes 8 e.data) (leBytes 8 data)) } else e)
  | none => set ++ [{ addr := a, mask := mask, data := leNat (maskBytes mask (leBytes 8 0) (leBytes 8 data)) }]

/-- The doublewords that a store reaches: address, mask, data. -/
def storeParts (a n d : Nat) : List (Nat × Nat × Nat) :=
  let o := a % 8
  let lo := (a - o, (2 ^ n - 1) * 2 ^ o % 256, d * 2 ^ (8 * o) % 2 ^ 64)
  if o + n ≤ 8 then [lo] else [lo, (a - o + 8, (2 ^ n - 1) * 2 ^ o / 256, d * 2 ^ (8 * o) / 2 ^ 64)]

/-- The write-set with a store in it. -/
def storeInto (set : List WEntry) (a n d : Nat) : List WEntry := (storeParts a n d).foldl (fun s x => mergeEntry s x.1 x.2.1 x.2.2) set

end Sys2Proof.Machine
end

