-- ==== Sys2Proof/Machine/Triad.lean ====
section
/-!
DEFINITION. Checkpoints, the voter, shared accesses, and the communication cores (chapter 3).
-/
namespace Sys2Proof.Machine

/-! ## Checkpoints (R72) -/

/-- A checkpoint that the program or the hardware makes. -/
def checkpoint (s : State) (core : Fin 3) (run : CoreRun) (kind : Nat) (outs : List OutVal) (evals : List Eval) (at_ : Core → Bool) : Res :=
  coreDoes s core run (fun s => if at_ (s.core core.val) then s.arrive core.val kind outs evals else s)

/-- CHECKPOINT_TASK_END, COMMIT, OUTPUT_RELEASE: the program writes 0, 1 or 2 to CSR 0x8C0. -/
def execCheckpointTaskEnd (core : Fin 3) (run : CoreRun) (outs : List OutVal) (evals : List Eval) (s : State) : Res :=
  checkpoint s core run 0 outs evals (fun _ => true)
def execCheckpointCommit (core : Fin 3) (run : CoreRun) (outs : List OutVal) (evals : List Eval) (s : State) : Res :=
  checkpoint s core run 1 outs evals (fun _ => true)
def execCheckpointOutputRelease (core : Fin 3) (run : CoreRun) (outs : List OutVal) (evals : List Eval) (s : State) : Res :=
  checkpoint s core run 2 outs evals (fun _ => true)

/-- CHECKPOINT_INSTRUCTION_COUNT: N instructions have retired since the last checkpoint. -/
def execCheckpointInstructionCount (core : Fin 3) (run : CoreRun) (outs : List OutVal) (evals : List Eval) (s : State) : Res :=
  checkpoint s core run 3 outs evals (fun x => decide (x.since = s.tri.ckint))

/-- CHECKPOINT_WRITE_SET_FULL: the next shared store would need a 1025th entry. -/
def execCheckpointWriteSetFull (core : Fin 3) (run : CoreRun) (outs : List OutVal) (evals : List Eval) (s : State) : Res :=
  checkpoint s core run 4 outs evals (fun x => decide (1023 ≤ x.set.length))

/-- CHECKPOINT_READ_SET_FULL: the next shared read would need a 4097th entry (R67). -/
def execCheckpointReadSetFull (core : Fin 3) (run : CoreRun) (outs : List OutVal) (evals : List Eval) (s : State) : Res :=
  checkpoint s core run 5 outs evals (fun x => decide (4096 ≤ x.readIdx))

/-- CHECKPOINT_CSR_ILLEGAL: a write of 3 to 7 to CSR 0x8C0 raises an illegal-instruction exception; mtval takes the instruction. -/
def execCheckpointCsrIllegal (core : Fin 3) (run : CoreRun) (value pc bits : Nat) (user : Bool) (s : State) : Res :=
  if value < 3 || 7 < value then .fault .illFormed
  else coreDoes s core run (fun s => s.trap core.val 2 bits pc user)

/-! ## The end of a commit (steps 4 and 5 of Table 03-5) -/

/-- A service's activation ends. -/
def State.endService (s : State) (v : Nat) : State :=
  let x := Table.get s.leg.services {} v
  let s : State := { s with leg := { s.leg with services := Table.set s.leg.services {} v { x with last := (s.mer.raw - x.lastAt) * 5 / 2 % 2 ^ 32 } } }
  s.endUnit (.service v)

/-- What a committed checkpoint does for the unit that made it. -/
def State.commitUnit (s : State) (a : Arrival) : State :=
  match s.tri.unit_ with
  | .task t =>
    let c := (s.taskRun t).c
    let s := s.updTask t (fun x => { x with written := mergeOuts x.written a.outs, cycSet := x.cycSet ++ a.set })
    let s := s.applyEvals c a.evals
    if a.kind = 0 then s.endTask t else if a.kind = 2 then s.handWritten t (s.releaseAt t c) else if a.kind = 1 then s.preempt else s
  | .service v => if a.kind = 0 then s.endService v else if a.kind = 1 then s.preempt else s
  | .extension x => if a.kind = 0 then s.endUnit (.extension x) else if a.kind = 1 then s.preempt else s
  | .idle => s

/-- The agreeing cores are released; one that has not arrived follows with the queue of the interval. -/
def State.releaseCores (s : State) (k : Commit) : State :=
  let rest := s.tri.actives.filter (fun c => !k.cores.contains c)
  let lag := rest.map (fun c =>
    ({ core := c, queue := s.tri.queue, arrival := k.arrival, firstAt := s.tri.firstAt.getD s.mer.raw, seq := s.tri.ckpts + 1 } : Lag))
  let s : State := { s with tri := { s.tri with
    ckpts := (s.tri.ckpts + 1) % 2 ^ 64, commit := none, firstAt := none, queue := [], lag := s.tri.lag ++ lag } }
  s.each k.cores (fun s c => s.updCore c Core.released)

/-- Rebuilds of a core within the window W, and the limit n (R82). -/
def State.recentRebuilds (s : State) (c : Nat) : List Nat :=
  (s.core c).rebuilds.filter (fun t => decide (s.mer.raw < t + ticksMs (1000 * s.el 0x20003 1 3600)))

/-- Start the rebuild of a core, or leave it PERMANENT at the limit (R80, R82). An injected quarantine does not count (R88). -/
def State.startRebuild (s : State) (c : Nat) : State :=
  let recent := s.recentRebuilds c
  if !(s.core c).injected && decide (s.el 0x20003 0 3 ≤ recent.length) then
    (((s.updCore c (fun x => { x with state := .permanent })).closeFault 0 0x2001 c).fault 0 0x2003 c 3 [c])
  else
    let s := s.updCore c (fun x => { x with state := .rebuilding, rebuilds := if x.injected then recent else s.mer.raw :: recent })
    { s with tri := { s.tri with rebuild := some { core := c, donor := s.tri.actives.headD 0 } } }

/-- Readmission: the donor's registers go to the rebuilt core, and the three are released together (R80). -/
def State.readmit (s : State) (r : Rebuild) : State :=
  let d := s.core r.donor
  let s := s.updCore r.core (fun x =>
    { x with state := .active, retired := d.retired, since := 0, crc := crc64Ones, set := [], readIdx := d.readIdx, regs := d.regs, csrs := d.csrs,
             arrived := none, reading := none, wfi := false, inject := false, injected := false, irqTaken := d.irqTaken })
  let s : State := { s with tri := { s.tri with rebuild := none, pend := setBit s.tri.pend 1 true } }
  (s.ev 0x2002 [r.core]).closeFault 0 0x2001 r.core

/-- VOTER_COMMIT_END. A commit in progress still ends in the power-down sequence (Table 17-7, step 3). -/
def execVoterCommitEnd (s : State) : Res :=
  .next (match s.tri.commit with
    | some k =>
      if s.up || decide (s.mode.phase = .pfail) then
        let s := s.commitUnitOf k
        let s := (s.commitUnit k.arrival).releaseCores k
        match s.tri.rebuild with
        | some r => if k.copied then s.readmit r else s
        | none => match k.old.head? with | some c => s.startRebuild c | none => s
      else s
    | none => s)

/-! ## The skew limit (steps 6 and 7) -/

/-- K in raw counts. -/
def State.skewTicks (s : State) : Nat := ticksUs s.tri.skewK

/-- Cores that have not come to the checkpoint in progress. -/
def State.absent (s : State) : List Nat := s.tri.actives.filter (fun c => (s.core c).arrived.isNone)

/-- SKEW_LIMIT_EXPIRED: A_1 + K has come at a checkpoint that a core has still to reach, or K after a read that waits (R66, R74). -/
def execSkewLimitExpired (s : State) : Res :=
  whenUp s (fun s =>
    let k := s.skewTicks
    let waits := s.tri.actives.any (fun c => match (s.core c).reading with | some r => s.elapsed r.since k | none => false)
    match s.tri.lag.head? with
    | some l => if s.elapsed l.firstAt k then s.quarantine l.core qLag else s
    | none =>
      match s.tri.firstAt, s.tri.commit with
      | some f, some _ => if s.elapsed f k then s.each s.absent (fun s c => s.quarantine c qLag) else s
      | some f, none => if s.elapsed f k then s.voterFailure else s
      | none, _ => if waits then s.voterFailure else s)

/-- REBUILD_COPY_END: the private banks of the donor stand in the rebuilt core's. -/
def execRebuildCopyEnd (s : State) : Res :=
  whenUp s (fun s =>
    match s.tri.rebuild with
    | some r =>
      if r.copied then s
      else
        let src := privBase r.donor
        let dst := privBase r.core
        let m := s.mem.data.wipe dst (dst + 0x200000)
        let m := (s.mem.data.filter (fun x => decide (src ≤ x.1) && decide (x.1 < src + 0x200000))).foldl (fun m x => m.write (x.1 - src + dst) x.2) m
        let s := s.restoreWords dst 0x200000
        { s with mem := { s.mem with data := m }, tri := { s.tri with rebuild := some { r with copied := true } } }
    | none => s)

/-! ## Shared accesses -/

/-- SHARED_READ: a load from a shared address, or a read of the time CSR (address 0xC01). A core reads its own stores itself (R65). -/
def execSharedRead (core : Fin 3) (run : CoreRun) (addr : Nat) (width : Fin 4) (pc : Nat) (user : Bool) (s : State) : Res :=
  let n := 2 ^ width.val
  if isPrivate addr n then .fault .illFormed
  else coreDoes s core run (fun s =>
    let c := core.val
    if addr = timeCsr then s.queueRead c addr width.val pc user
    else if !s.mayReach addr n user false then s.trap c 5 addr pc user
    else
      let own := ownBytes (s.core c).set addr n
      if own.all (·.isSome) then s.send (.coreRead c addr (withOwn own 0)) else s.queueRead c addr width.val pc user)

/-- The cause a store to a register location raises at the instruction (R439). -/
def storeCause (a w : Nat) : Option Nat :=
  match regionOf a with
  | some (.registers, _) => writeCause a w
  | some (.alias_, _) => aliasCause a w
  | _ => none

/-- SHARED_STORE: a store to a shared address enters the write-set. The triad is one agent, so the bus error of a register store is
noted once, with the store of its lowest-numbered active core. -/
def execSharedStore (core : Fin 3) (run : CoreRun) (addr : Nat) (width : Fin 4) (data pc : Nat) (user : Bool) (s : State) : Res :=
  let n := 2 ^ width.val
  if isPrivate addr n then .fault .illFormed
  else coreDoes s core run (fun s =>
    let c := core.val
    if !s.mayReach addr n user true then s.trap c 7 addr pc user
    else match storeCause addr width.val with
      | some e =>
        let s := if s.tri.actives.head? = some c then s.busError .triad e addr true else s
        s.trap c 7 addr pc user
      | none =>
        let set := storeInto (s.core c).set addr n (data % 2 ^ (8 * n))
        if 1024 < set.length then s
        else s.updCore c (fun x => { (x.fold (.store addr width data)) with set := set }))

/-- SHARED_AMO_FAULT: an AMO, LR or SC on an address that is not private raises a store/AMO access fault (R62). -/
def execSharedAmoFault (core : Fin 3) (run : CoreRun) (addr pc : Nat) (user : Bool) (s : State) : Res :=
  if isPrivate addr 1 then .fault .illFormed
  else coreDoes s core run (fun s => s.trap core.val 7 addr pc user)

/-! ## Interrupts (R68) -/

/-- INTERRUPT_DELIVERY_POINT: every 256th retired instruction counted from the last checkpoint, and every checkpoint. -/
def execInterruptDeliveryPoint (core : Fin 3) (run : CoreRun) (s : State) : Res :=
  coreDoes s core run (fun s => if (s.core core.val).since % 256 = 0 then s.queueRead core.val pendingState 3 0 false else s)

/-- WFI: the core makes or takes the entry when an interrupt is pending, and waits until one is. -/
def execWfi (core : Fin 3) (run : CoreRun) (s : State) : Res :=
  if !runOk run then .fault .illFormed
  else whenUp s (fun s =>
    let c := core.val
    if !(s.core c).runs then s
    else
      -- A core that waits has done nothing since.
      let s := if (s.core c).wfi then s else s.applyRun c run
      let n := (s.core c).readIdx
      if ((s.queueOf c)[n]?).isSome || s.pendingIrq != 0 then s.queueRead c pendingState 3 0 false
      else s.updCore c (fun x => { x with wfi := true }))

/-! ## Items from the communication cores (R84, R85) -/

/-- An item's header (Table 03-8). -/
def itemSeq (b : List Byte) : Nat := leNat (b.take 4)
def itemLen (b : List Byte) : Nat := leNat ((b.drop 4).take 2)
def itemType (b : List Byte) : Nat := leNat ((b.drop 6).take 2)
/-- Its CRC is right: over bytes 0 to 11 and the payload. -/
def itemCrcOk (b : List Byte) : Bool :=
  decide (16 + itemLen b ≤ b.length) && decide (itemLen b ≤ 4080) &&
    leNat ((b.drop 12).take 4) == crc32c (b.take 12 ++ (b.drop 16).take (itemLen b))

/-- Discard an item: count it, expect the next SEQ, and record the first of a run, the rest as repeats. -/
def State.discardItem (s : State) (q : Nat) (b : List Byte) (crc : Bool) : State :=
  let t := s.tri
  let t := if crc then { t with discCrc := satInc 32 t.discCrc } else { t with discSeq := satInc 32 t.discSeq }
  let t := { t with expect := Table.set t.expect 0 q ((itemSeq b + 1) % 2 ^ 32), pend := setBit t.pend 2 true }
  let again := t.discarding.contains q
  let t := { t with discarding := if again then t.discarding else q :: t.discarding }
  let s : State := { s with tri := t }
  if again then s.evRep 0x2010 0 [q] else s.ev 0x2010 [q]

/-- Accept an item with its SEQ. -/
def State.acceptItem (s : State) (q seq : Nat) : State :=
  { s with tri := { s.tri with expect := Table.set s.tri.expect 0 q ((seq + 1) % 2 ^ 32), discarding := s.tri.discarding.filter (· != q) } }

/-- QUEUE_ITEM_CHECK. -/
def execQueueItemCheck (queue : Fin 256) (bytes : List Byte) (s : State) : Res :=
  if bytes.length < 16 then .fault .illFormed
  else whenUp s (fun s =>
    let q := queue.val
    if !itemCrcOk bytes then s.discardItem q bytes true
    else if itemType bytes = 0xFFFF && itemSeq bytes = 0 then s.acceptItem q 0
    else if itemSeq bytes = Table.get s.tri.expect 0 q then s.acceptItem q (itemSeq bytes)
    else s.discardItem q bytes false)

/-! ## Communication cores (R86) -/

def TriadPart.comm (t : TriadPart) (k : Nat) : CommCore := if k = 0 then t.cc0 else t.cc1
def TriadPart.setComm (t : TriadPart) (k : Nat) (x : CommCore) : TriadPart := if k = 0 then { t with cc0 := x } else { t with cc1 := x }

/-- CC_HEARTBEAT_TIMEOUT: reset alone as rung 1, or at the limit of R49 it stays in reset. -/
def execCcHeartbeatTimeout (cc : Fin 2) (s : State) : Res :=
  whenUp s (fun s =>
    let k := cc.val
    let fn := 0x0603 + k
    let x := s.tri.comm k
    if x.inReset || !s.elapsed x.lastBeat (ticksMs 10) then s
    else if s.retryFree fn then
      let s := s.countRetry fn
      let s : State := { s with tri := s.tri.setComm k { x with resets := satInc 32 x.resets } }
      let s := s.fault fn 0x2011 k 1 [k]
      (if k = 0 then s.reinitCc0 else s.reinitCc1).closeFault fn 0x2011 k
    else
      let s := if k = 0 then s.reinitCc0 else s.reinitCc1
      let s : State := { s with tri := s.tri.setComm k { (s.tri.comm k) with inReset := true } }
      s.retryLimit fn 0x2011 k)

/-! ## Fault injection (R88) -/

/-- Legend 0x2000C.0. -/
def State.reqInject (s : State) (who : Who) (c : Nat) : Act :=
  if 2 < c then (ansRange, s)
  else if !s.elB 0x2000C 1 false then ({ status := .access }, s)
  else if who.level.val < engineer then ({ status := .privilege, detail := engineer }, s)
  else if !(decide (s.mode.mode = .stop) || decide (s.mode.mode = .run)) || s.tri.duplex then (s.ansState, s)
  else (ansOk, s.injectCore c)

/-- FAULT_INJECTION. -/
def execFaultInjection (who : Who) (core : Nat) (s : State) : Res := request s who observer (fun s => giveBoth (s.reqInject who core))

/-- TRI_INJECT: a write of TRI_INJECT by firmware. -/
def execTriInject (agent : Agent) (value : Fin 4) (s : State) : Res :=
  whenUp s (fun s => match agent with | .triad | .cc0 | .cc1 => s.injectCore value.val)

end Sys2Proof.Machine
end

