-- ==== Sys2Proof/Machine/LegendWrite.lean ====
section
/-!
DEFINITION. What a write to each Legend element checks and does (R234 to R237, R243, R259, and the Legend table of each chapter).
-/
namespace Sys2Proof.Machine

/-! ## Checks that need no more than the element and the value (R243) -/

/-- A key of Custodian level is enrolled. -/
def State.custodianKey (s : State) : Bool := s.hasKey (· == 3)

/-- The write calls for a Custodian token (R236, R237, R240). -/
def State.needsToken (s : State) (e n v : Nat) : Bool :=
  (e == 0x10021 && n == 0) || (e == 0x40008 && n == 0) || (e == 0xB0001 && n == 0)
    || (0xA8010 ≤ e && e ≤ 0xA802F && n ≤ 1 && !(!s.custodianKey && decide (s.mode.lifeCycle = .opened)))
    || (s.sealed_ && ((e == 0x10001 && n == 0 && v == 0) || (n == 0 && (e == 0x10070 || e == 0x10071 || e == 0x10072 || e == 0x22000 || e == 0x50011))
      || (e == 0x50001 && n == 4) || (0x50030 ≤ e && e ≤ 0x5003F && (n == 3 || n == 9)) || (e == 0xA8441 && n == 0)))

/-- The recovery image offers firmware installation only (R41); the resets remain. -/
def recoveryAllows (e : Nat) : Bool := e == 0x10050 || e == 0x10060 || e == 0x10071 || e == 0x10072

/-- A WRITE-PROTECT refusal: event 0xA807 with the EA, and the count of the frame for the asset tag (R235, R441). -/
def State.protectEl (s : State) (e n : Nat) : Act :=
  let s := s.evRep 0xA807 0x0601 [eaWord (ea e n)]
  ({ status := .writeProtect }, if e = 1 then { s with sys := { s.sys with wpCnt := Table.upd s.sys.wpCnt 0 0 (satInc 32) } } else s)

/-- The checks of existence, type, range, access, privilege and mode, in this order (R234, R235, R236, R243). -/
def State.writeCheck (s : State) (who : Who) (e n ty len v : Nat) : Option Act :=
  let no (a : Ans) : Option Act := some (a, s)
  match s.element? e n with
  | none => no { status := .noEntry }
  | some d =>
    if ty ≠ d.ty || len ≠ d.size then no { status := .type }
    else if !d.fits v || !s.ownRange e n v then no ansRange
    else if d.acc = 0 || (e = 0xA8200 && n = 0) then no { status := .access }
    else if !d.token && d.priv ≤ 2 && who.level.val < d.priv then no { status := .privilege, detail := d.priv }
    else if s.mode.lifeCycle = .retired || (s.recovery && !recoveryAllows e) then no s.ansState
    else if d.lck && s.sealed_ then some (s.protectEl e n)
    else if d.acc = 4 && s.sys.assetWritten then some (s.protectEl e n)
    else if d.acc = 2 && s.mode.mode ≠ .stop && s.mode.mode ≠ .blank then no s.ansState
    else none

/-! ## Configuration elements -/

/-- An accepted write to an element that the configuration holds: in STOP it is in force at once, in BLANK at the commit (R54). -/
def State.writeConfig (s : State) (e n v : Nat) : State :=
  if s.mode.mode = .blank then
    let s : State := { s with mode := { s.mode with cfgElems := Table.put s.mode.cfgElems (ea e n) v } }
    s.setEl e n v
  else
    let s := (s.setEl e n v).mirror e n
    if 0x21000 ≤ e && e ≤ 0x2100F then ((s.admitTasks s.taskTable s.tsk.active).armTask (e - 0x21000))
    else if 0x30100 ≤ e && e ≤ 0x301FF then
      let g := e - 0x30100
      (s.admitLoops).armGroup g (ticksNs (s.groupPeriod g)) (ticksNs (s.groupPhase g))
    else if 0x31000 ≤ e && e ≤ 0x31FFF then s.admitLoops
    else s

/-- An accepted write to an element of any mode. -/
def State.writeAny (s : State) (e n v : Nat) : State := (s.setEl e n v).mirror e n

/-! ## Forces (R259) -/

/-- A loop's OUT_PT. -/
def State.isLoopOut (s : State) (p : Nat) : Bool := s.slots.any (fun i => !refNone (s.loopRef i 11) && refLocal (s.loopRef i 11) == p)

/-- Why a point may not be forced in slot `k`: it is not forceable, or another active slot forces it. -/
def State.forceFault (s : State) (k p : Nat) : Option Ans :=
  let m := s.pointMeta p
  if !s.configured p || !bitOf m.pflags 1 || m.kind = 9 || s.isLoopOut p then some { status := .access }
  else (s.forces.find? (fun x => x.2 == p && x.1 != k)).map (fun x => { status := .access, detail := x.1 })

/-- A forced point of the Legend server's own is written at once. -/
def State.forceNow (s : State) (p : Nat) : State :=
  if (s.pointMeta p).kind = 6 && (s.forceOf p).isSome then s.surveyWrite p (s.record p).value (s.record p).quality 0 s.now else s

/-- Force slot `k`: point, value or ACTIVE. -/
def State.forceSlot (s : State) (k n v : Nat) : Act :=
  let e := 0xA8300 + k
  let active := s.el e 2 0 != 0
  let fault := if n = 0 then (if active then s.forceFault k v else none) else if n = 2 && v = 1 then s.forceFault k (s.el e 0 0) else none
  match fault with
  | some a => (a, s)
  | none =>
    let p := s.el e 0 0
    let s := s.setEl e n v
    let s : State := { s with sur := { s.sur with forceCount := s.forces.length } }
    let s := if n = 2 && active != (v == 1) then s.evS 0xA823 0x0601 [s.pointAddr p] else s
    (ansOk, (s.forceNow (s.el e 0 0)).sendChange e n v s.now)

/-! ## Keys (R237) -/

/-- Enrol or remove the key of a slot. -/
def State.writeKey (s : State) (k n v : Nat) : State :=
  let old := s.keySlot k
  let new : KeySlot := if n = 0 then { old with pub := v } else if v = 0 then {} else { old with level := v }
  let s : State := { s with leg := { s.leg with keys := Table.set s.leg.keys {} k new } }
  if old.level != 0 || new.level != 0 then s.evS 0xA806 0x0601 [k, new.level] else s

/-! ## Trims (R304, R305) -/

/-- The entered meter reading belongs to the point the output is driven at. -/
def State.enterReading (s : State) (ch v : Nat) : State :=
  if ch < 8 then s
  else
    let x := F32.widen (BitVec.ofNat 32 v)
    s.updAo (ch - 8) (fun c => if c.test = 4 then { c with d4 := some x } else if c.test = 20 then { c with d20 := some x } else c)

/-- The elements of Legend 0x70500 + channel. -/
def State.trimEl (s : State) (ch n v : Nat) : Act :=
  let x := F32.widen (BitVec.ofNat 32 v)
  if !s.trimAllowed ch then (s.ansState, s)
  else match n with
    | 0 => if trimInRange x (s.trimK ch) then (ansOk, s.setTrim ch x (s.trimK ch) 0) else (ansRange, s)
    | 1 => if trimInRange (s.trimZ ch) x then (ansOk, s.setTrim ch (s.trimZ ch) x 0) else (ansRange, s)
    | 2 =>
      if v = 1 then (ansOk, s.trimPoint ch 4 none)
      else if v = 2 then (ansOk, s.trimPoint ch 20 none)
      else let r := s.applyTrim ch 0; if r.2 then (ansOk, r.1) else (ansRange, s)
    | _ => (ansOk, s.enterReading ch v)

/-! ## HART pass-through (R310) -/

/-- A request of 260 bytes: loop, command, data. -/
def State.passThrough (s : State) (n v : Nat) : Act :=
  let b := leBytes 260 v
  let lp := byteAt b 0
  if 2 ≤ lp then (ansRange, s)
  else if (s.hartMaster n).pass.isSome then ({ status := .busy, retry := 1000 }, s)
  else (ansOk, s.updMaster n (fun x => { x with pass := some (lp, leAt b 1 2, b.drop 3) }))

/-! ## Elements of one effect -/

/-- Breakpoints need HOLD permitted (R145). -/
def State.writeBreakpoint (s : State) (e n v : Nat) : Act := if s.elB 0x10002 2 false then (ansOk, s.setEl e n v) else (s.ansState, s)

/-- An element of a loop record. -/
def State.writeLoopEl (s : State) (slot n v : Nat) : Act :=
  if n = 2 || 19 ≤ n then
    match s.loopCheck slot n v with
    | some a => (a, s.noteLoopRefusal slot n a)
    | none => (ansOk, s.loopWrite slot n v)
  else (ansOk, s.writeConfig (0x31000 + slot) n v)

/-- The token of a request that needed none is ignored. -/
def State.ignored (s : State) : Act := (ansOk, s)

/-- A container whose sections do not decode. -/
def ansUndecoded : Ans := ansCheck 2 0

/-- Commands of chapters 2 to 5. -/
def State.commandLow (s : State) (who : Who) (dec : Decoded) (e n v : Nat) : Act :=
  match e with
  | 0x00010 => s.reqSnapshot who (toSigned 64 v)
  | 0x10001 => match Mode.ofCode v with | some m => s.requestMode who m | none => (ansRange, s)
  | 0x10021 => match v with | 1 => s.reqLife who .opened | 2 => s.reqLife who .sealed | 3 => s.reqLife who .retired | _ => (s.ansState, s)
  | 0x10040 => s.reqReinit who v
  | 0x10050 => s.reqWarm who v
  | 0x10060 => s.reqCycle who v
  | 0x10070 =>
    if v = 2 then s.configCommit who none
    else match dec.config with
      | some b => s.configCommit who (some b)
      | none => if !s.mayCommit then (s.ansState, s) else s.commitRefused s ((s.containerFault "OPSC").getD ansUndecoded)
  | 0x10071 => s.reqInstall who v (dec.firmware.getD { sigOk := false })
  | 0x10072 => s.reqSelect who v
  | 0x2000C => s.reqInject who v
  | 0x22000 =>
    match dec.program with
    | some p => s.reqLoad who p
    | none => if s.mode.mode ≠ .stop then (s.ansState, s) else
        let a := (s.containerFault "OPSP").getD ansUndecoded
        (a, s.ev 0x2108 [a.detail / 2 ^ 28])
  | 0x22010 => s.reqBatch who
  | 0x30001 => (ansOk, s.clearMaxima)
  | 0x40008 => s.reqStep who
  | 0x50010 => s.reqTransfer who
  | 0x50011 =>
    if v = 1 then
      match dec.program with
      | some p => s.reqShadow who p
      | none => ((s.containerFault "OPSP").getD ansUndecoded, s)
    else if v = 2 then s.reqSwap who
    else s.reqAbort who
  | _ => if 0x33000 ≤ e && e ≤ 0x33FFF then (ansOk, s.ackSounding (e - 0x33000))
    else if 0x34000 ≤ e && e ≤ 0x341FF then s.commitTable (e - 0x34000)
    else if 0x50030 ≤ e && e ≤ 0x5003F && n = 9 then s.resetClaims who (e - 0x50030)
    else s.ignored

/-- Commands of the other chapters. -/
def State.commandHigh (s : State) (who : Who) (dec : Decoded) (e n v : Nat) : Act :=
  if 0x60200 ≤ e && e ≤ 0x6021F then
    (ansOk, s.updDio (e - 0x60200) (fun c => if n = 6 then { c with unlatch := true } else { c with clearPending := true }))
  else if 0x70500 ≤ e && e ≤ 0x7050F then s.trimEl (e - 0x70500) n v
  else if 0x70800 ≤ e && e ≤ 0x70807 then s.passThrough (e - 0x70800) v
  else if e = 0x80000 then
    (if n = 1 then s.reqConfirmSet who v dec.partnerSetCrc
     else match dec.safety with
      | some x => s.reqSafetySet who x
      | none => s.setRefused (if s.staged.length < 128 then 1 else 2) 0)
  else if e = 0xA8200 then (ansOk, { s with leg := { s.leg with staging := [], stagingLen := 0 } })
  else if e = 0xB0001 then
    match s.takeToken who with
    | (.error d, s) => (ansToken d, s)
    | (.ok k, s) => (ansOk, s.clearRecorder k)
  else if e = 0xC0003 then State.reqRedraw who s
  else s.ignored

/-- The effect of a write that passed its checks, and its answer. -/
def State.writeEl (s : State) (who : Who) (dec : Decoded) (e n v : Nat) (d : Desc) : Act :=
  if d.token then s.ignored
  else if d.acc = 5 then (if e < 0x60000 then s.commandLow who dec e n v else s.commandHigh who dec e n v)
  else if e = 1 then (ansOk, { s with sys := { s.sys with asset := v, assetWritten := true } })
  else if 0x21210 ≤ e && e ≤ 0x21213 then s.writeBreakpoint e n v
  else if 0x28000 ≤ e && e ≤ 0x2FFFF then
    match s.single? e n with | some x => (ansOk, s.writeSingle x v) | none => ({ status := .noEntry }, s)
  else if e = 0x22011 || (0x34000 ≤ e && e ≤ 0x341FF) then (ansOk, s.setEl e n v)
  else if 0x31000 ≤ e && e ≤ 0x31FFF then s.writeLoopEl (e - 0x31000) n v
  else if 0x41000 ≤ e && e ≤ 0x413FF then s.reqSlot (e - 0x41000) (wptOfBytes (leBytes 32 v))
  else if e = 0x50001 && n = 4 then (ansOk, { s with red := { s.red with key := v, keyHeld := true } })
  else if 0x50030 ≤ e && e ≤ 0x5003F && n = 3 then (ansOk, { s with wit := { s.wit with keys := Table.put s.wit.keys (e - 0x50030) v } })
  else if 0x70500 ≤ e && e ≤ 0x7050F then s.trimEl (e - 0x70500) n v
  else if 0xA8010 ≤ e && e ≤ 0xA802F then (ansOk, s.writeKey (e - 0xA8010) n v)
  else if 0xA8300 ≤ e && e ≤ 0xA83FF then s.forceSlot (e - 0xA8300) n v
  else if e = 0xA8441 then (ansOk, { s with leg := { s.leg with clusterKey := v } })
  else if d.acc = 2 then (ansOk, s.writeConfig e n v)
  else (ansOk, s.writeAny e n v)

/-- One item: its checks, then its effect. -/
def State.writeItem (s : State) (who : Who) (dec : Decoded) (e n ty len v : Nat) : Act :=
  match s.writeCheck who e n ty len v, s.element? e n with
  | some a, _ => a
  | none, some d => s.writeEl who dec e n v d
  | none, none => ({ status := .noEntry }, s)

end Sys2Proof.Machine
end

