-- ==== Sys2Proof/Machine/LegendOps.lean ====
section
/-!
DEFINITION. The operations of the Legend on this module: sessions, READ, WRITE, segments, BROWSE, and the Survey operations on its
own points (R237 to R243, R256 to R259).
-/
namespace Sys2Proof.Machine

/-- A request being served: source, bytes, session slot if any, level, its items, and what the staging buffer decodes to. -/
structure Ask where
  src : Source_
  msg : List Byte
  slot : Option Nat := none
  level : Nat := 0
  items : List (List Byte) := []
  payload : List Byte := []
  dec : Decoded := {}
  /-- It came from another module (R260). -/
  forwarded : Bool := false
deriving DecidableEq, Repr

/-- An item's status and detail as WRITE answers it. -/
def statusItem (a : Ans) : List Byte := leBytes 1 a.status.code ++ leBytes 3 0 ++ leBytes 4 a.detail

/-- Answer with a payload of `n` items and the header status they give. -/
def State.answerAsk (s : State) (a : Ask) (st n : Nat) (payload : List Byte) : State :=
  if 1440 < payload.length then s.refuseKept a.src a.msg { status := .tooLarge } else s.reply a.src a.msg st n payload

/-- Answer with items that each begin with their status. -/
def State.answerItems (s : State) (a : Ask) (l : List (List Byte)) : State :=
  s.answerAsk a (headStatus (l.map (fun it => byteAt it 0))) l.length l.flatten

/-- Refuse whole. -/
def State.refuseAsk (s : State) (a : Ask) (x : Ans) : State := s.refuseKept a.src a.msg x

/-! ## Sessions (R237 to R240) -/

/-- A free session slot; with all in use, that of the longest-idle Observer session (R239). -/
def State.slotForSession (s : State) : Option Nat :=
  match (upto 32).find? (fun i => (s.session i).state == 0) with
  | some i => some i
  | none =>
    let obs := (upto 32).filter (fun i => let x := s.session i; x.state == 2 && x.level == 0)
    obs.find? (fun i => obs.all (fun k => (s.session i).lastAt ≤ (s.session k).lastAt))

/-- The bootstrap of R237. -/
def State.bootstrap (s : State) : Bool :=
  !s.hasKey (fun l => 2 ≤ l) && decide (s.mode.lifeCycle = .opened) && (match s.mode.mode with | .blank | .service => true | _ => false)

/-- Sessions past their time end. -/
def State.sweepSessions (s : State) : State := s.each (upto 32) (fun s i => if s.sessionOver (s.session i) then s.expireSession i else s)

/-- OPEN (Table 09-4, steps 1 and 2). -/
def State.opOpen (s : State) (a : Ask) : State :=
  let it := a.items.headD []
  let level := byteAt it 0
  let key := byteAt it 1
  if 2 < level || (32 ≤ key && key != 0xFF) then s.refuseAsk a ansRange
  else
    let s := s.sweepSessions
    match s.slotForSession with
    | none => s.refuseAsk a (ansSession 3)
    | some i =>
      let boot := level != 0 && s.bootstrap
      let granted := (level == 0 && s.elB 0xA8001 1 true) || boot
      let d := s.draw
      let c := d.2.draw
      let s := c.2
      let id := (Config.random d.1).toNat % 2 ^ 32
      let challenge := randomBytes c.1
      let x : Session := { state := if granted then 2 else 1, level := level, id := id, key := key, source := some a.src, challenge := challenge,
                           opened := s.now, last := s.now, openedAt := s.mer.raw, lastAt := s.mer.raw, refillAt := s.mer.raw }
      let s := s.updSession i (fun _ => x)
      let s := if boot then (s.evS 0xA801 0x0601 [level, srcNum a.src]).evS 0xA805 0x0601 [] else s
      s.deliver_ a.src (answerMsg (a.msg.take 4 ++ leBytes 4 id ++ a.msg.drop 8) .ok 0 1 (s.identBytes ++ challenge))

/-- What the key of a session signs (Table 09-4, step 3). -/
def State.proofMsg (s : State) (x : Session) : List Byte :=
  ascii "OPSSESS1" ++ s.identBytes ++ x.challenge ++ leBytes 4 x.id ++ leBytes 1 x.level

/-- PROVE for the session in slot `i` (Table 09-4, step 4). -/
def State.opProve (s : State) (a : Ask) (i : Nat) : State :=
  let x := s.session i
  let k := s.keySlot x.key
  if x.state = 2 then s.refuseAsk a (ansSession 6)
  else if !s.mem.tamper && k.level != 0 && x.level ≤ k.level && edVerify k.pub (s.proofMsg x) (a.items.headD []) then
    let s := s.updSession i (fun x => { x with state := 2, opened := s.now, last := s.now, lastAt := s.mer.raw })
    let s := if 1 ≤ x.level then s.evS 0xA801 0x0601 [x.level, srcNum a.src] else s
    s.reply a.src a.msg 0 0 []
  else
    let s := (s.freeSession i).evRep 0xA802 0x0601 [srcNum a.src]
    s.refuseAsk a (ansToken (if k.level = 0 then 4 else 2))

/-- CLOSE. -/
def State.opClose (s : State) (a : Ask) (i : Nat) : State :=
  (s.freeSession i).deliver_ a.src (answerMsg a.msg .ok 0 0 [])

/-- CHALLENGE (R240): a nonce bound to the session and the key slot; a fifth replaces the oldest. -/
def State.opChallenge (s : State) (a : Ask) (i : Nat) : State :=
  let k := byteAt (a.items.headD []) 0
  if 32 ≤ k || (s.keySlot k).level != 3 || s.mem.tamper then s.refuseAsk a (ansToken 4)
  else
    let d := s.draw
    let nonce := randomBytes d.1
    let s := d.2.updSession i (fun x =>
      { x with nonces := (({ bytes := nonce, key := k, at_ := s.mer.raw } : Nonce) :: x.nonces.filter s.nonceLive).take 4 })
    s.reply a.src a.msg 0 1 nonce

/-! ## READ (R235, R242) -/

/-- Entry and element of an EA (R233). -/
def eaEntry (x : Nat) : Nat := x % 2 ^ 20
def eaElem (x : Nat) : Nat := x / 2 ^ 20 % 256

/-- Only segments reach the element. -/
def segOnly (e n : Nat) : Bool := (e == 0xA8200 && n == 0) || (e == 0xB0100 && n == 0)

/-- One element as READ answers it. A mirror read that meets a bus error is answered ACCESS with its cause (R447). -/
def State.readItem (s : State) (e n : Nat) : Ans × Nat × List Byte :=
  match s.element? e n with
  | none => ({ status := .noEntry }, 0, [])
  | some d =>
    if segOnly e n then ({ status := .access }, 0, [])
    else
      let cause := if 0xF0000 ≤ e && n ≤ 1 then (let r := mirrorReg e; s.readCause (0x40000000 + r.1 * 0x1000 + r.2) (2 + n)) else none
      match cause with
      | some c => ({ status := .access, detail := c }, 0, [])
      | none => (ansOk, d.ty, leBytes d.size (s.readEl e n d))

def readBytes (r : Ans × Nat × List Byte) : List Byte :=
  leBytes 1 r.1.status.code ++ leBytes 1 r.2.1 ++ leBytes 2 r.2.2.length ++ leBytes 4 r.1.detail ++ padTo4 r.2.2

/-- READ on this module. -/
def State.opRead (s : State) (a : Ask) : State :=
  let l := a.items.map (fun it => let x := leAt it 0 4; readBytes (s.readItem (eaEntry x) (eaElem x)))
  s.answerItems a l

/-! ## WRITE (R243) -/

/-- A WRITE item. -/
structure WItem where
  e : Nat
  n : Nat
  ty : Nat
  len : Nat
  v : Nat
deriving DecidableEq, Repr

def wItem (it : List Byte) : WItem :=
  let x := leAt it 0 4
  let len := leAt it 6 2
  { e := eaEntry x, n := eaElem x, ty := byteAt it 4, len := len, v := leAt it 8 len }

def State.isTokenItem (s : State) (w : WItem) : Bool := match s.element? w.e w.n with | some d => d.token | none => false
def State.isCommandItem (s : State) (w : WItem) : Bool := match s.element? w.e w.n with | some d => d.acc == 5 && !d.token | none => false
def State.itemNeedsToken (s : State) (w : WItem) : Bool := (s.element? w.e w.n).isSome && s.needsToken w.e w.n w.v

/-- The request carries a token. -/
def State.carriesToken (s : State) (a : Ask) : Bool := a.items.any (fun it => s.isTokenItem (wItem it))

/-- Offset in the payload of the value of the first token item, items lying from `at_` on. -/
def State.tokenAt (s : State) : Nat → List (List Byte) → Option Nat
  | _, [] => none
  | at_, it :: r => if s.isTokenItem (wItem it) then some (at_ + 8) else s.tokenAt (at_ + it.length) r

/-- Who asks, with the payload whose token bytes are zero, and the token. -/
def State.asker (s : State) (a : Ask) : Who :=
  let slot := a.slot.getD (((upto 32).find? (fun i => (s.session i).state == 0)).getD 0)
  let t := s.tokenAt 0 a.items
  let p := match t with | some o => a.payload.take o ++ List.replicate 64 0 ++ a.payload.drop (o + 64) | none => a.payload
  { session := Fin.ofNat 32 slot, level := Fin.ofNat 3 a.level, payload := p, token := t.map (fun o => (a.payload.drop o).take 64) }

/-- The token of a request, once for all its items; a request without a session has no nonce. -/
def State.requestToken (s : State) (a : Ask) (who : Who) : Except Nat Nat × State :=
  if a.slot.isNone then
    let d := if who.token.isNone then 1 else 3
    (.error d, ({ s with leg := { s.leg with tokenRefused := satInc 32 s.leg.tokenRefused } } : State).evRep 0xA803 0x0601 [0, d])
  else s.takeToken who

/-- The answers that refuse an item while the request is checked; a load, commit or admission that fails, or a command that finds its
unit busy, answers when it starts (R243, R250). -/
def failsCheck (a : Ans) : Bool := a.status != .ok && a.status != .checkFailed && a.status != .busy

/-- A value that fails a check of its own is refused with the request. -/
def failsValue (a : Ans) : Bool := a.status != .ok

/-- An item of a request on trial: checked where the items before it stand applied, commands where all the others do. -/
def State.tryItems (s : State) (who : Who) (dec : Decoded) (tok : Except Nat Nat) (l : List WItem) : State × List Ans :=
  let token (w : WItem) (r : Ans) : Ans := match tok with | .error d => if r.status = .ok && s.itemNeedsToken w then ansToken d else r | .ok _ => r
  let step (acc : State × List (Option Ans)) (w : WItem) : State × List (Option Ans) :=
    if s.isCommandItem w then (acc.1, acc.2 ++ [none])
    else
      let r := acc.1.writeItem who dec w.e w.n w.ty w.len w.v
      let a := token w r.1
      (if failsValue a then acc.1 else r.2, acc.2 ++ [some a])
  let p := l.foldl step (s, [])
  let t := p.1
  (t, (l.zip p.2).map (fun x => match x.2 with
    | some a => a
    | none =>
      let r := (t.writeItem who dec x.1.e x.1.n x.1.ty x.1.len x.1.v).1
      let r := token x.1 (if failsCheck r then r else ansOk)
      r))

/-- What a refused request leaves behind: the records and counts of its refusals. -/
def State.refusals (s : State) (who : Who) (dec : Decoded) (l : List (WItem × Ans)) : State :=
  s.each (l.filter (fun x => x.2.status != .ok && x.2.status != .token)) (fun s x =>
    let r := s.writeItem who dec x.1.e x.1.n x.1.ty x.1.len x.1.v
    if r.1.status = .ok then s else r.2)

/-- Start the commands of a request in order; a reset ends the request. -/
def State.startCommands (s : State) (who : Who) (dec : Decoded) (l : List (WItem × Ans)) (cmd : WItem → Bool) : State × List Ans :=
  l.foldl (fun (acc : State × List Ans) x =>
    if cmd x.1 && acc.1.up then
      let r := acc.1.writeItem who dec x.1.e x.1.n x.1.ty x.1.len x.1.v
      (r.2, acc.2 ++ [r.1])
    else (acc.1, acc.2 ++ [x.2])) (s, [])

/-- Apply a list of writes as one request (R243). -/
def State.writeRequest (s : State) (a : Ask) (l : List WItem) : State × List Ans :=
  let who := s.asker a
  let need := l.filter s.itemNeedsToken
  let t : Except Nat Nat × State := if need.isEmpty then (.ok 0, s) else s.requestToken a who
  let s := t.2
  let key : Nat := match t.1 with | .ok k => k | .error _ => 0
  let granted : State := if need.isEmpty then s else { s with leg := { s.leg with grant := some key } }
  let trial := granted.tryItems who a.dec t.1 l
  let done (s : State) : State := { s with leg := { s.leg with grant := none } }
  if trial.2.any (fun x => x.status != .ok) then
    (done (granted.refusals who a.dec (l.zip trial.2)), trial.2.map (fun x => if x.status = .ok then { status := .notApplied } else x))
  else
    let record := match need.find? (fun w => w.e != 0xB0001) with | some w => some (eaWord (ea w.e w.n)) | none => none
    let granted := match record with | some x => granted.evS 0xA804 0x0601 [x] | none => granted
    let cmd := granted.isCommandItem
    let applied := (granted.tryItems who a.dec t.1 l).1
    let r := applied.startCommands who a.dec (l.zip trial.2) cmd
    (done r.1, r.2)

/-- WRITE on this module. -/
def State.opWrite (s : State) (a : Ask) : State :=
  let r := s.writeRequest a (a.items.map wItem)
  let retry := (r.2.map (·.retry)).foldl max 0
  let m := answerCode a.msg (headStatus (r.2.map (·.status.code))) retry r.2.length (r.2.flatMap statusItem)
  (match a.src with | .udp _ _ | .can _ _ => r.1.keepAnswer a.msg m | _ => r.1).deliver_ a.src m

/-! ## Segments (R242, R264, R393) -/

def segEa (it : List Byte) : Nat := leAt it 0 4
def segOff (it : List Byte) : Nat := leAt it 4 4
def segLen (it : List Byte) : Nat := leAt it 8 2

/-- The bytes of a segment, or why it cannot be read. -/
def State.segRead (s : State) (e n off len : Nat) : Except Ans (List Byte) :=
  match s.element? e n with
  | none => .error { status := .noEntry }
  | some d =>
    if d.ty ≠ 13 then .error { status := .access }
    else if d.size < off + len || 1424 < len then .error ansRange
    else if e = 0xB0100 then
      if off % 64 != 0 || len % 64 != 0 || 1408 < len then .error ansRange
      else .ok ((upto (len / 64)).flatMap (fun k => s.slotBytes (off / 64 + k)))
    else if e = 0xA8200 then .ok ((upto len).map (fun k => s.leg.staging.read (off + k)))
    else .ok (slice (leBytes d.size (s.readEl e n d)) off len)

/-- SEG_READ on this module. -/
def State.opSegRead (s : State) (a : Ask) : State :=
  let it := a.items.headD []
  let x := segEa it
  match s.segRead (eaEntry x) (eaElem x) (segOff it) (segLen it) with
  | .error r => s.answerItems a [statusItem r]
  | .ok b => s.answerAsk a 0 1 (statusItem ansOk ++ padTo4 b)

/-- Write bytes into the staging buffer. -/
def State.stageBytes (s : State) (off : Nat) (b : List Byte) : State :=
  { s with leg := { s.leg with staging := b.zipIdx.foldl (fun m x => m.write (off + x.2) x.1) s.leg.staging,
                               stagingLen := max s.leg.stagingLen (off + b.length) } }

/-- A segment of the staging buffer, or of another OCTETS element, whose value it changes in part. -/
def State.segWrite (s : State) (a : Ask) (e n off : Nat) (b : List Byte) : State × Ans :=
  match s.element? e n with
  | none => (s, { status := .noEntry })
  | some d =>
    if d.ty ≠ 13 then (s, { status := .access })
    else if d.size < off + b.length || 1424 < b.length then (s, ansRange)
    else if e = 0xA8200 then
      if a.level < engineer then (s, { status := .privilege, detail := engineer })
      else if s.mode.lifeCycle = .retired then (s, s.ansState)
      else (if b.isEmpty then s else s.stageBytes off b, ansOk)
    else if d.acc = 0 then (s, { status := .access })
    else
      let old := leBytes d.size (s.readEl e n d)
      let r := s.writeRequest a [{ e := e, n := n, ty := d.ty, len := d.size, v := leNat (overlay old off b) }]
      (r.1, r.2.headD ansOk)

/-- SEG_WRITE on this module. -/
def State.opSegWrite (s : State) (a : Ask) : State :=
  let it := a.items.headD []
  let x := segEa it
  let r := s.segWrite a (eaEntry x) (eaElem x) (segOff it) ((it.drop 12).take (segLen it))
  r.1.answerItems a [statusItem r.2]

/-! ## BROWSE (R242) -/

/-- NaN, as BROWSE shows an unbounded range. -/
def browseNan : Nat := 0x7FF8000000000000

/-- The range of a REAL32 element that its chapter states. -/
def realRange (e n : Nat) : Option (F64 × F64) :=
  if 0x70300 ≤ e && e ≤ 0x70307 then
    (if 3 ≤ n && n ≤ 6 then some (0, F64.ofInt 22) else if n = 7 then some (F64.ofRatio 1 2, F64.ofInt 10) else none)
  else if 0x70700 ≤ e && e ≤ 0x70707 && n = 0 then some (F64.ofRatio 1 2, F64.ofInt 60)
  else none

/-- The 28 bytes of an element. -/
def browseItem (e n : Nat) (d : Desc) : List Byte :=
  let r : Nat × Nat :=
    if d.isInt then ((F64.ofInt d.lo).toNat, (F64.ofInt d.hi).toNat)
    else match realRange e n with | some (a, b) => (a.toNat, b.toNat) | none => (browseNan, browseNan)
  leBytes 4 (e + n * 2 ^ 20) ++ leBytes 1 d.ty ++ leBytes 1 (d.acc + 128 * bool d.lck) ++ leBytes 1 d.priv ++ leBytes 1 0 ++ leBytes 4 d.size
    ++ leBytes 8 r.1 ++ leBytes 8 r.2

/-- The elements of an entry. -/
def State.entryItems (s : State) (e : Nat) : List (List Byte) :=
  (upto 256).filterMap (fun n => (s.element? e n).map (browseItem e n))

def minOpt : List Nat → Option Nat
  | [] => none
  | x :: xs => some (xs.foldl min x)

/-- The first defined entry from `e` on. -/
def State.nextEntry (s : State) (e : Nat) : Option Nat :=
  let span (x : Span) : Option Nat :=
    let c := max x.1 e
    let c := if 0x91000 ≤ c && c ≤ 0x923FF && 128 ≤ c % 256 then c / 256 * 256 + 256 else c
    if x.2.1 < c || (x.1 = 0xA8400 && !s.isDatum) then none else some c
  let decl := match s.tsk.active with
    | some p => (if !p.consts.isEmpty && e ≤ 0x22011 then [0x22011] else []) ++ (p.singles.map (fun d => d.ea / 256)).filter (fun x => e ≤ x)
    | none => []
  let serv := let c := max 0xE0000 ((e + 255) / 256 * 256); if c ≤ 0xEFF00 then [c] else []
  let mir := if 0xF5400 ≤ e then [] else ((List.range (0xF5400 - max e 0xF0000)).find? (fun k => (mirrorDesc (max e 0xF0000 + k) 0).isSome)).toList.map (max e 0xF0000 + ·)
  minOpt (spans.filterMap span ++ decl ++ serv ++ mir)

/-- Whole entries from `e` on, as many as fit in `room` bytes; `n` bounds their number. -/
def State.browse (s : State) : Nat → Nat → Nat → List (List Byte)
  | 0, _, _ => []
  | k + 1, e, room =>
    match s.nextEntry e with
    | none => []
    | some x =>
      let l := s.entryItems x
      if l.length * 28 ≤ room then l ++ s.browse k (x + 1) (room - l.length * 28) else []

/-- BROWSE on this module: an entry too long for one answer is refused TOO-LARGE. -/
def State.opBrowse (s : State) (a : Ask) : State :=
  let e := leAt (a.items.headD []) 0 4
  match s.nextEntry e with
  | none => s.answerAsk a 0 0 []
  | some x =>
    if 1440 < (s.entryItems x).length * 28 then s.refuseAsk a { status := .tooLarge }
    else let l := s.browse 52 e 1440; s.answerAsk a 0 l.length l.flatten

/-! ## The Survey's own points (R254 to R258) -/

/-- Module index and local point of an address (R10). -/
def ptModule (x : Nat) : Nat := x / 524288 % 64
def ptLocal (x : Nat) : Nat := x % 524288

/-- The 64 bytes of a point's metadata (Table 09-13). -/
def metaBytes (m : PointMeta) : List Byte :=
  leBytes 8 m.hash ++ leBytes 1 m.vtype ++ leBytes 1 m.kind ++ leBytes 2 m.writer ++ leBytes 4 m.binding ++ leBytes 8 m.lo.toNat
    ++ leBytes 8 m.hi.toNat ++ leBytes 2 m.unit_ ++ leBytes 2 m.pflags ++ leBytes 4 0 ++ slice m.tag 0 24

/-- A point as SURVEY_READ answers it. -/
def surveyItem (st : Status) (mq : Nat) (body : List Byte) : List Byte := leBytes 1 st.code ++ leBytes 1 mq ++ leBytes 2 0 ++ body

/-- Bytes of a point's answer after its status. -/
def surveyBody (meta_ : Bool) : Nat := if meta_ then 64 else 16

def State.readPoint (s : State) (meta_ : Bool) (p : Nat) : List Byte :=
  if s.configured p then surveyItem .ok s.mq (if meta_ then metaBytes (s.pointMeta p) else recBytes (s.recordNow p))
  else surveyItem .noEntry s.mq (List.replicate (surveyBody meta_) 0)

/-- QUALITY and VALUE of a SURVEY_WRITE item fit (R258): each value in the form of Table 09-12. -/
def surveyFits (vtype q v : Nat) : Option Ans :=
  let signed (w : Nat) : Bool := ofSigned 64 (toSigned w (v % 2 ^ w)) == v
  if !(q == 0 || q == 1 || q == 2 || q == 5) then some ansRange
  else match vtype with
    | 0 => if F64.isFinite (BitVec.ofNat 64 v) then none else some ansRange
    | 1 => if 2 ^ 32 ≤ v then some { status := .type } else if F32.isFinite (BitVec.ofNat 32 v) then none else some ansRange
    | 2 => none
    | 3 => if signed 32 then none else some { status := .type }
    | 4 => if signed 16 then none else some { status := .type }
    | 5 => if v < 65536 then none else some { status := .type }
    | _ => if v ≤ 1 then none else some ansRange

/-- The checks of one SURVEY_WRITE item, in the order of R243. -/
def State.surveyCheck (s : State) (a : Ask) (p q v : Nat) : Ans :=
  let m := s.pointMeta p
  if !s.configured p then { status := .noEntry }
  else match surveyFits m.vtype q v with
    | some r => r
    | none =>
      if m.kind ≠ 6 || (a.forwarded && !bitOf m.pflags 2) then { status := .notWriter }
      else if a.level < operator then { status := .privilege, detail := operator }
      else if s.mode.lifeCycle = .retired then s.ansState
      else ansOk

/-- Writes of own points, checked whole and applied as one commit unit. -/
def State.surveyWrites (s : State) (a : Ask) (l : List (Nat × Nat × Nat)) : State × List Ans :=
  let r := l.map (fun x => s.surveyCheck a x.1 x.2.1 x.2.2)
  if r.any (fun x => x.status != .ok) then (s, r.map (fun x => if x.status = .ok then { status := .notApplied } else x))
  else (s.each l (fun s x => s.surveyWrite x.1 x.2.2 x.2.1 0 s.now), r)

/-- A SURVEY_WRITE item: local point, quality, value. -/
def surveyWItem (it : List Byte) : Nat × Nat × Nat := (ptLocal (leAt it 0 4), byteAt it 4, leAt it 8 8)

end Sys2Proof.Machine
end

