-- ==== Sys2Proof/Machine/Cascade.lean ====
section
/-!
DEFINITION. Requests that reach other modules, and the operations of every message (R28, R257, R260 to R262).
-/
namespace Sys2Proof.Machine

/-! ## Sending a part -/

/-- Bytes 0 to 19 of a part (R260). -/
def State.partHead (s : State) (op flags target level id count len : Nat) : List Byte :=
  leBytes 1 1 ++ leBytes 1 op ++ leBytes 1 (setBit (flags % 16) 2 true) ++ leBytes 1 target ++ leBytes 4 level ++ leBytes 4 id ++ leBytes 2 count
    ++ leBytes 2 len ++ leBytes 1 0 ++ leBytes 1 s.modIndex ++ leBytes 2 0

/-- A part with its tag. -/
def State.partMsg (s : State) (op flags target level id count : Nat) (payload : List Byte) : List Byte :=
  let h := s.partHead op flags target level id count (payload.length + 8)
  sealMsg h (payload ++ leBytes 8 (sipHash s.leg.clusterKey (h ++ payload)))

/-- The tag of a received part is that of the cluster key (R260). -/
def State.partTagOk (s : State) (m : List Byte) : Bool :=
  let p := msgPayload m
  decide (8 ≤ p.length) && leAt p (p.length - 8) 8 == sipHash s.leg.clusterKey (m.take 20 ++ p.take (p.length - 8))

/-- A module that can be asked: configured, and not marked absent where this module is the Datum. -/
def State.reachable (s : State) (i : Nat) : Bool :=
  decide (i < 64) && s.el (0xA8500 + i) 0 0 != 0 && !(s.isDatum && (s.dirRec i).state == 2)

/-- A new outstanding request. -/
def State.newForward (s : State) (f : Forward) : State :=
  { s with leg := { s.leg with forwards := s.leg.forwards ++ [f], nextId := (s.leg.nextId + 1) % 2 ^ 32 } }

/-- The index as a source to send to. -/
def peerOf (i : Nat) : Source_ := .peer (Fin.ofNat 64 i)

/-- Send a whole request to one module (R260). -/
def State.forwardWhole (s : State) (a : Ask) (target : Nat) (dst : Nat) : State :=
  if s.carriesToken a && msgOp a.msg = 0x11 then s.refuseAsk a { status := .privilege, detail := 3 }
  else if !s.reachable dst then s.refuseAsk a { status := .unreachable }
  else if 1432 < a.payload.length then s.refuseAsk a { status := .tooLarge }
  else
    let id := s.leg.nextId
    let s := s.newForward { id := id, source := a.src, head := a.msg.take 24, parts := [(dst, [])], items := [], at_ := s.mer.raw, whole := true }
    s.deliver_ (peerOf dst) (s.partMsg (msgOp a.msg) (msgFlags a.msg) target a.level id (msgCount a.msg) a.payload)

/-- Relay a cascade write from a standby to the duty over the tie link (R28, R260). -/
def State.relayWrite (s : State) (a : Ask) : State :=
  let id := s.leg.nextId
  let s := s.newForward { id := id, source := a.src, head := a.msg.take 24, parts := [(s.partner, [])], items := [], at_ := s.mer.raw, whole := true }
  s.relay_ (s.partMsg (msgOp a.msg) (msgFlags a.msg) s.partner a.level id (msgCount a.msg) a.payload)

/-! ## Completing a request -/

def State.forward? (s : State) (id : Nat) : Option Forward := s.leg.forwards.find? (fun f => f.id == id)
def State.dropForward (s : State) (id : Nat) : State := { s with leg := { s.leg with forwards := s.leg.forwards.filter (fun f => f.id != id) } }
def State.setForward (s : State) (x : Forward) : State :=
  { s with leg := { s.leg with forwards := s.leg.forwards.map (fun f => if f.id = x.id then x else f) } }

/-- The instant of an ATOMIC read leads its answer. -/
def Forward.lead (f : Forward) : List Byte := match f.q with | some q => leBytes 8 (i64 q) | none => []

/-- Answer a request whose parts are all in (R260: in request order). -/
def State.finishForward (s : State) (f : Forward) : State :=
  let s := (s.dropForward f.id).noteTime (some f.at_)
  let p := f.lead ++ f.items.flatten
  if 1440 < p.length then s.refuseKept f.source f.head { status := .tooLarge } else s.reply f.source f.head (headStatus (f.items.map (fun it => byteAt it (if f.cluster then 1 else 0)))) f.items.length p

/-- Put the answers of one part in their places; the last part ends the request. -/
def State.fillPart (s : State) (f : Forward) (idx : Nat) (l : List (Nat × List Byte)) : State :=
  let items := l.foldl (fun (t : List (List Byte)) x => t.set x.1 x.2) f.items
  let f := { f with items := items, parts := f.parts.filter (fun p => p.1 != idx) }
  if f.parts.isEmpty then s.finishForward f else s.setForward f

/-- An item of an operation that carries only a status. -/
def failItem (op : Nat) (meta_ : Bool) (st : Status) (detail : Nat) : List Byte :=
  if op = 0x20 then surveyItem st 0 (List.replicate (surveyBody meta_) 0) else statusItem { status := st, detail := detail }

/-- A block of a cluster-wide answer (R262). -/
def clusterBlock (op idx : Nat) (r : Nat × Nat × Nat × List Byte) : List Byte :=
  if op = 0x10 then leBytes 1 idx ++ leBytes 1 r.1 ++ leBytes 1 r.2.2.1 ++ leBytes 1 0 ++ leBytes 2 r.2.2.2.length ++ leBytes 2 0 ++ slice r.2.2.2 0 8
  else leBytes 1 idx ++ leBytes 1 r.1 ++ leBytes 2 0 ++ leBytes 4 r.2.1

/-- What a module answered to the one item of a cluster-wide request: status, detail, type, value. -/
def clusterAnswer (op : Nat) (m : List Byte) : Nat × Nat × Nat × List Byte :=
  let p := msgPayload m
  if msgCount m = 0 then (byteAt m 16, leAt p 0 4, 0, [])
  else if op = 0x10 then (byteAt p 0, leAt p 4 4, byteAt p 1, (p.drop 8).take (leAt p 2 2))
  else (byteAt p 0, leAt p 4 4, 0, [])

/-- Cut a list into pieces of `n` elements. -/
def chunks (n : Nat) : Nat → List Byte → List (List Byte)
  | 0, _ => []
  | k + 1, l => l.take n :: chunks n k (l.drop n)

/-- A part's answer has arrived from a module. -/
def State.takePart (s : State) (f : Forward) (idx : Nat) (pos : List Nat) (m : List Byte) : State :=
  let op := msgOp f.head
  if f.whole then
    let s := (s.dropForward f.id).noteTime (some f.at_)
    let out := answerCode f.head (byteAt m 16) (leAt m 18 2) (msgCount m) (msgPayload m)
    (match f.source with | .udp _ _ | .can _ _ => s.keepAnswer f.head out | _ => s).deliver_ f.source out
  else if f.cluster then s.fillPart f idx (pos.map (fun k => (k, clusterBlock op idx (clusterAnswer op m))))
  else
    let size := if op = 0x20 then 4 + surveyBody (msgMeta f.head) else 8
    let p := (msgPayload m).drop (if f.q.isSome then 8 else 0)
    let bad : Option Status := if msgCount m ≠ 0 then none else [Status.busy, .noEntry, .range, .access, .privilege, .stateRefused, .noDatum, .timeout, .unreachable, .tooLate, .tooLarge,
      .session, .malformed].find? (fun x => x.code == byteAt m 16)
    match bad with
    | some st => s.fillPart f idx (pos.map (fun k => (k, failItem op (msgMeta f.head) st (leAt (msgPayload m) 0 4))))
    | none => s.fillPart f idx (pos.zip (chunks size pos.length p))

/-! ## The Survey across modules (R257 to R260) -/

/-- Positions of the items of each module, in the order of first mention. -/
def byModule (l : List Nat) : List (Nat × List Nat) :=
  (l.map ptModule).eraseDups.map (fun i => (i, (l.zipIdx.filter (fun x => ptModule x.1 == i)).map (·.2)))

/-- Send the parts of a Survey request that belong to other modules; those of modules that cannot be asked are answered at once. -/
def State.sendParts (s : State) (a : Ask) (f : Forward) (lead : List Byte) : State :=
  s.each (f.parts.filter (fun p => p.1 != s.modIndex % 64)) (fun s p =>
    let payload := lead ++ (p.2.map (fun k => a.items.getD k [])).flatten
    s.deliver_ (peerOf p.1) (s.partMsg (msgOp a.msg) (msgFlags a.msg) p.1 a.level f.id p.2.length payload))

/-- Points of a SURVEY request, by address. -/
def askPoints (a : Ask) : List Nat := a.items.map (fun it => leAt it 0 4)

/-- Start a Survey request that names points of several modules, its own part aside; a forwarded request is never forwarded again. -/
def State.startSurvey (s : State) (a : Ask) (q : Option MTime) (own : State → Forward → List Nat → State) : State :=
  let op := msgOp a.msg
  let groups := byModule (askPoints a)
  let me := s.modIndex % 64
  let big (g : Nat × List Nat) : Bool := decide (1432 < 8 + (g.2.map (fun k => (a.items.getD k []).length)).sum)
  if groups.any (fun g => g.1 != me && big g) then s.refuseAsk a { status := .tooLarge }
  else
    let ok (g : Nat × List Nat) : Bool := g.1 == me || (!a.forwarded && s.reachable g.1)
    let blank := a.items.map (fun _ => failItem op (msgMeta a.msg) .unreachable 0)
    let f : Forward := { id := s.leg.nextId, source := a.src, head := a.msg.take 24, parts := groups.filter ok, items := blank, at_ := s.mer.raw, q := q }
    let s := s.newForward f
    let s := s.sendParts a f (match q with | some t => leBytes 8 (i64 t) | none => [])
    match groups.find? (fun g => g.1 == me) with
    | some g => own s f g.2
    | none => if f.parts.isEmpty then s.finishForward f else s

/-- SURVEY_READ (R257). -/
def State.opSurveyRead (s : State) (a : Ask) : State :=
  let m := msgMeta a.msg
  let n := a.items.length
  let q := toSigned 64 (leAt a.payload 0 8)
  let atomic := msgAtomic a.msg
  if 1440 < (if atomic then 8 else 0) + n * (4 + surveyBody m) || 71 < n then s.refuseAsk a { status := .tooLarge }
  else if atomic && q ≠ 0 && decide (q < s.now + 1000000) then s.refuseAsk a { status := .tooLate }
  else if atomic && decide (s.now + 10000000000 < q) then s.refuseAsk a ansRange
  else if atomic && 4 ≤ s.leg.atomics.length then
    s.answerBusy a.src a.msg 5
  else
    let wait := atomic && q ≠ 0
    let read := s.readPoint m
    s.startSurvey a (if atomic then some (if q = 0 then s.now else q) else none) (fun s f pos =>
      let pts := pos.map (fun k => ptLocal ((askPoints a).getD k 0))
      if wait then
        let x : Atomic := { id := f.id, source := a.src, head := a.msg.take 24, q := q, meta_ := m, points := pts, at_ := s.mer.raw, part := some (f.id, pos) }
        { s with leg := { s.leg with atomics := s.leg.atomics ++ [x] } }
      else s.fillPart f (s.modIndex % 64) (pos.zip (pts.map read)))

/-- SURVEY_WRITE (R258). -/
def State.opSurveyWrite (s : State) (a : Ask) : State :=
  s.startSurvey a none (fun s f pos =>
    let r := s.surveyWrites a (pos.map (fun k => surveyWItem (a.items.getD k [])))
    r.1.fillPart f (s.modIndex % 64) (pos.zip (r.2.map statusItem)))

/-! ## The Datum's operations (R261, R262) -/

/-- The points of present modules whose name hashes so, lowest address first. -/
def State.hashHolders (s : State) (h : Nat) : List Nat :=
  (upto 64).flatMap (fun i => let r := s.dirRec i
    if r.state = 1 then ((r.hashes.filter (fun x => x.1 == h)).map (fun x => i * 524288 + x.2)).mergeSort (fun a b => a ≤ b) else [])

/-- SURVEY_FIND at the Datum. -/
def State.opFind (s : State) (a : Ask) : State :=
  let one (s : State) (h : Nat) : State × List Byte :=
    match (if h = 0 then [] else s.hashHolders h) with
    | [] => (s, leBytes 1 Status.noEntry.code ++ leBytes 3 0 ++ leBytes 4 0)
    | [x] => (s, leBytes 1 0 ++ leBytes 3 0 ++ leBytes 4 x)
    | x :: _ => (s.evS 0xA824 0x0601 [x], leBytes 1 Status.ambiguous.code ++ leBytes 3 0 ++ leBytes 4 x)
  let r := a.items.foldl (fun (acc : State × List (List Byte)) it => let y := one acc.1 (leAt it 0 8); (y.1, acc.2 ++ [y.2])) (s, [])
  r.1.answerItems a r.2

/-- DIRECTORY at the Datum: the records from an index, as many as one answer holds. -/
def State.opDirectory (s : State) (a : Ask) : State :=
  let i := byteAt (a.items.headD []) 0
  if 64 ≤ i then s.refuseAsk a ansRange
  else
    let n := min 45 (64 - i)
    s.answerAsk a 0 n ((upto n).flatMap (fun k => (s.dirRec (i + k)).bytes))

/-- An operation the Datum serves: here, or at the Datum, or refused while none answers. -/
def State.atDatum (s : State) (a : Ask) (f : State → State) : State :=
  if s.isDatum then f s
  else if s.datumNow = 0xFF || a.forwarded then s.refuseAsk a { status := .noDatum }
  else s.forwardWhole a (msgTarget a.msg) s.datumNow

/-- Every configured module that a cluster-wide request addresses. -/
def State.clusterModules (s : State) (op : Nat) : List Nat :=
  (upto 64).filter (fun i => let r := s.dirRec i; r.state != 0 && !(op == 0x11 && r.role == 2))

/-- The one item of a cluster-wide request is of a form that may be sent to every module. -/
def State.clusterOk (s : State) (a : Ask) : Bool :=
  let op := msgOp a.msg
  a.items.length == 1 && (match a.items with
    | [it] => if op = 0x11 then leAt it 6 2 ≤ 8 else op == 0x10 && (match s.element? (eaEntry (leAt it 0 4)) (eaElem (leAt it 0 4)) with
        | some d => d.size ≤ 8 | none => true)
    | _ => false)

/-- A cluster-wide request at the Datum: every present module is asked, itself among them. -/
def State.clusterHere (s : State) (a : Ask) : State :=
  let op := msgOp a.msg
  let l := s.clusterModules op
  let it := a.items.headD []
  let asked := (l.zipIdx).filter (fun x => x.1 == s.modIndex || (s.dirRec x.1).state == 1)
  let blank := l.map (fun i => clusterBlock op i (Status.unreachable.code, 0, 0, []))
  let id := s.leg.nextId
  let f : Forward := { id := id, source := a.src, head := a.msg.take 24, parts := asked.map (fun x => (x.1, [x.2])), items := blank, at_ := s.mer.raw, cluster := true }
  let s := s.newForward f
  let s := s.each (asked.filter (fun x => x.1 != s.modIndex)) (fun s x => s.deliver_ (peerOf x.1) (s.partMsg op 0 x.1 a.level id 1 it))
  match asked.find? (fun x => x.1 == s.modIndex) with
  | none => if f.parts.isEmpty then s.finishForward f else s
  | some x =>
    if op = 0x10 then
      let r := s.readItem (eaEntry (leAt it 0 4)) (eaElem (leAt it 0 4))
      s.fillPart f x.1 [(x.2, clusterBlock op x.1 (r.1.status.code, r.1.detail, r.2.1, r.2.2))]
    else
      let r := s.writeRequest a [wItem it]
      let y := r.2.headD ansOk
      r.1.fillPart f x.1 [(x.2, clusterBlock op x.1 (y.status.code, y.detail, 0, []))]

/-- A request with TARGET 0xFE. -/
def State.cluster (s : State) (a : Ask) : State :=
  if !s.clusterOk a then s.refuseAsk a { status := .tooLarge }
  else if s.carriesToken a && msgOp a.msg = 0x11 then s.refuseAsk a { status := .privilege, detail := 3 }
  else s.atDatum a (fun s => s.clusterHere a)

/-! ## Where a request goes -/

/-- An operation on this module. -/
def State.runHere (s : State) (a : Ask) : State :=
  match msgOp a.msg with
  | 0x10 => (s.noteTime none).opRead a
  | 0x11 => (s.noteTime none).opWrite a
  | 0x12 => (s.noteTime none).opSegRead a
  | 0x13 => (s.noteTime none).opSegWrite a
  | 0x14 => (s.noteTime none).opBrowse a
  | 0x20 => s.opSurveyRead a
  | 0x21 => s.opSurveyWrite a
  | 0x22 => s.atDatum a (fun s => (s.noteTime none).opFind a)
  | 0x23 => s.atDatum a (fun s => (s.noteTime none).opDirectory a)
  | _ => s

/-- A write. -/
def isWriteOp (op : Nat) : Bool := op == 0x11 || op == 0x13 || op == 0x21

/-- Serve an admitted request of any operation but those of sessions: here, at its target, cluster-wide, or, a cascade write at a
standby, at the duty. -/
def State.serve (s : State) (a : Ask) : State :=
  let t := msgTarget a.msg
  if t = 0xFE then s.cluster a
  else if t = 0xFF || t = s.modIndex || a.forwarded then
    if a.forwarded && isWriteOp (msgOp a.msg) && s.pairMember && !s.red.holds then s.relayWrite a else s.runHere a
  else if 64 ≤ t then s.refuseAsk a { status := .unreachable }
  else s.forwardWhole a t t

/-- Units of a request: a cluster-wide one costs as often as modules are addressed, at the Datum (R249). -/
def State.costOf (s : State) (m : List Byte) : Nat :=
  if msgTarget m = 0xFE && s.isDatum then msgCost m * (s.clusterModules (msgOp m)).length else msgCost m

/-- Serve a request once it is admitted, or answer BUSY. -/
def State.admitted (s : State) (src : Source_) (slot : Option Nat) (observerOnly : Bool) (m : List Byte) (f : State → State) : State :=
  match s.takeIn src slot observerOnly (s.costOf m) with
  | .ok s => f s
  | .error r => s.answerBusy src m r

/-! ## A message of a requester -/

/-- The items of a well-formed message. -/
def askItems (m : List Byte) (tag : Nat) : List (List Byte) :=
  let p := msgPayload m
  (msgItems m (p.take (p.length - tag))).getD []

/-- Session operations act on the receiving module only. -/
def localTarget (s : State) (m : List Byte) : Bool := msgTarget m == 0xFF || msgTarget m == s.modIndex

/-- An answer that the session still keeps (R244). -/
def State.keptAnswer (s : State) (i reqId : Nat) : Option (List Byte) :=
  ((s.session i).kept.find? (fun k => k.reqId == reqId && !s.elapsed k.at_ (ticksMs 2000))).map (·.bytes)

/-- Serve a request of an open session, of PROVE, or of a program. -/
def State.inSession (s : State) (a : Ask) (i : Nat) : State :=
  let op := msgOp a.msg
  match s.keptAnswer i (msgReqId a.msg) with
  | some b => s.deliver_ a.src b
  | none =>
    let x := s.session i
    if op ≠ 0x02 && x.state ≠ 2 then s.refuseMsg a.src a.msg (ansSession 5)
    else
      s.admitted a.src (if op = 0x02 then none else some i) (op ≠ 0x02 && x.level == 0) a.msg (fun s =>
        let s := if op = 0x02 then s else s.updSession i (fun x => { x with last := s.now, lastAt := s.mer.raw })
        let a := { a with slot := some i, level := x.level }
        if op ≤ 0x04 && !localTarget s a.msg then s.refuseAsk a { status := .access }
        else match op with
          | 0x02 => (s.noteTime none).opProve a i
          | 0x03 => (s.noteTime none).opClose a i
          | 0x04 => (s.noteTime none).opChallenge a i
          | _ => s.serve a)

/-- A well-formed request from a client or a triad program. -/
def State.request_ (s : State) (src : Source_) (m : List Byte) (dec : Decoded) : State :=
  let a : Ask := { src := src, msg := m, items := askItems m 0, payload := msgPayload m, dec := dec }
  let op := msgOp m
  match src with
  | .program =>
    if op ≤ 0x04 then s.refuseMsg src m { status := .access }
    else s.admitted src none false m (fun s => s.serve { a with level := engineer })
  | _ =>
    if op = 0x01 then
      s.admitted src none false m (fun s =>
        if !localTarget s m then s.refuseMsg src m { status := .access } else (s.noteTime none).opOpen a)
    else
      match s.useSession src (msgSession m) with
      | (.error d, s) => s.refuseMsg src m (ansSession d)
      | (.ok i, s) => s.inSession a i

/-- The server hears this source: UDP and the triad on CC0, CAN through CC1. -/
def State.hears (s : State) (src : Source_) : Bool :=
  !s.tri.cc0.inReset && (match src with | .can _ _ => s.leg.canUp && !s.tri.cc1.inReset | .program => true | _ => s.leg.udpUp)

/-- A Legend message of a client: checked under R253, then served. -/
def State.legendMessage (s : State) (src : Source_) (m : List Byte) (dec : Decoded) : State :=
  if !s.hears src then s
  else if !msgReadable m then s.violates src m none
  else match msgFault m false with
    | some o => s.violates src m (some o)
    | none => s.request_ src m dec

/-! ## A message of another module -/

/-- A forwarded request (R260): dropped where its tag is bad, charged to the peer, never forwarded again. -/
def State.forwardedMessage (s : State) (idx : Nat) (m : List Byte) (dec : Decoded) : State :=
  let src := peerOf idx
  if s.tri.cc0.inReset || !s.leg.udpUp then s
  else if !msgReadable m then s.violates src m none
  else if !s.partTagOk m then
    let s : State := { s with leg := { s.leg with viol := satInc 32 s.leg.viol } }
    s.noteViolation src 0xA812 (byteAt m 17)
  else match msgFault m true with
    | some o => s.violates src m (some o)
    | none =>
      let p := msgPayload m
      let a : Ask := { src := src, msg := m, level := msgSession m, items := askItems m 8, payload := p.take (p.length - 8), dec := dec, forwarded := true }
      s.admitted src none false m (fun s => if msgOp m ≤ 0x04 then s.refuseAsk a { status := .access } else s.serve a)

/-- An answer of another module to a part. -/
def State.forwardedAnswer (s : State) (idx : Nat) (m : List Byte) : State :=
  if s.tri.cc0.inReset || !msgReadable m || !bitOf (msgFlags m) 0 then s
  else match s.forward? (msgReqId m) with
    | none => s
    | some f =>
      match f.parts.find? (fun p => p.1 == idx) with
      | some p => if msgOp f.head = msgOp m then s.takePart f idx p.2 m else s
      | none => s

/-- The parts of a request that did not answer within 20 ms, an ATOMIC read's from its instant on (R247, R257). -/
def State.forwardDue (s : State) (f : Forward) : Bool :=
  match f.q with
  | some q => decide (q + 20000000 ≤ s.now) && s.elapsed f.at_ (ticksMs 20)
  | none => s.elapsed f.at_ (ticksMs 20)

/-- TIMEOUT for what is outstanding. -/
def State.timeoutForward (s : State) (f : Forward) : State :=
  let op := msgOp f.head
  if f.whole then ((s.dropForward f.id).noteTime (some f.at_)).refuseKept f.source f.head { status := .timeout }
  else
    let item (idx : Nat) : List Byte := if f.cluster then clusterBlock op idx (Status.timeout.code, 0, 0, []) else failItem op (msgMeta f.head) .timeout 0
    let items := f.parts.foldl (fun t p => p.2.foldl (fun (t : List (List Byte)) k => t.set k (item p.1)) t) f.items
    let s : State := { s with leg := { s.leg with atomics := s.leg.atomics.filter (fun x => x.id != f.id) } }
    s.finishForward { f with items := items, parts := [] }

/-- The instant of an ATOMIC read: the listed points as they stand (R257). -/
def State.atomicInstant (s : State) (x : Atomic) : State :=
  let read := s.readPoint x.meta_
  let s : State := { s with leg := { s.leg with atomics := s.leg.atomics.filter (fun y => y.id != x.id) } }
  match x.part with
  | some (id, pos) =>
    match s.forward? id with
    | some f => s.fillPart f (s.modIndex % 64) (pos.zip (x.points.map read))
    | none => s
  | none => s

end Sys2Proof.Machine
end

