-- ==== Sys2Proof/Machine/Legend.lean ====
section
/-!
DEFINITION. The meanings of the Legend, Survey and cascade commands (chapter 9).
-/
namespace Sys2Proof.Machine

/-- A message of one operation of Table 09-6 arrives from a client. A message of another operation spells another command, and
a module's part is FORWARDED_REQUEST_RECEIVED. -/
def legendOp (op : Nat) (src : Source_) (m : List Byte) (dec : Decoded) (s : State) : Res :=
  match src with
  | .peer _ => .fault .illFormed
  | _ => if msgOp m = op then whenUp s (fun s => s.legendMessage src m dec) else .fault .illFormed

def execLegendOpen (src : Source_) (m : List Byte) (s : State) : Res := legendOp 0x01 src m {} s
def execLegendProve (src : Source_) (m : List Byte) (s : State) : Res := legendOp 0x02 src m {} s
def execLegendClose (src : Source_) (m : List Byte) (s : State) : Res := legendOp 0x03 src m {} s
def execLegendChallenge (src : Source_) (m : List Byte) (s : State) : Res := legendOp 0x04 src m {} s
def execLegendRead (src : Source_) (m : List Byte) (s : State) : Res := legendOp 0x10 src m {} s
def execLegendWrite (src : Source_) (m : List Byte) (dec : Decoded) (s : State) : Res := legendOp 0x11 src m dec s
def execLegendSegRead (src : Source_) (m : List Byte) (s : State) : Res := legendOp 0x12 src m {} s
def execLegendSegWrite (src : Source_) (m : List Byte) (s : State) : Res := legendOp 0x13 src m {} s
def execLegendBrowse (src : Source_) (m : List Byte) (s : State) : Res := legendOp 0x14 src m {} s
def execSurveyRead (src : Source_) (m : List Byte) (s : State) : Res := legendOp 0x20 src m {} s
def execSurveyWrite (src : Source_) (m : List Byte) (s : State) : Res := legendOp 0x21 src m {} s
def execSurveyFind (src : Source_) (m : List Byte) (s : State) : Res := legendOp 0x22 src m {} s
def execDirectory (src : Source_) (m : List Byte) (s : State) : Res := legendOp 0x23 src m {} s

/-- The message breaks R253. -/
def msgViolates (m : List Byte) : Bool := !msgReadable m || (msgFault m false).isSome

/-- LEGEND_MESSAGE_MALFORMED (R252, R253). -/
def execLegendMessageMalformed (src : Source_) (m : List Byte) (s : State) : Res :=
  match src with
  | .peer _ => .fault .illFormed
  | _ => if msgViolates m then whenUp s (fun s => s.legendMessage src m {}) else .fault .illFormed

/-! ## Legend over CAN (R246) -/

/-- The identifier pair is configured (R357). -/
def State.pairOn (s : State) (c k : Nat) : Bool := s.el (0x90300 + c) k 0 != 0

def State.partial_ (s : State) (c k : Nat) : Option Reassembly :=
  (s.leg.reasm.find? (fun x => x.1.1 == c && x.1.2 == k)).map (·.2)

def State.dropPartial (s : State) (c k : Nat) : State :=
  { s with leg := { s.leg with reasm := s.leg.reasm.filter (fun x => !(x.1.1 == c && x.1.2 == k)) } }

def State.keepPartial (s : State) (c k : Nat) (r : Reassembly) : State :=
  { s.dropPartial c k with leg := { s.leg with reasm := ((c, k), r) :: (s.dropPartial c k).leg.reasm } }

/-- Cut the padding off a reassembled message: the last frame has the smallest FD length that holds its bytes, padded with
zeros. `before` bytes came in earlier frames. -/
def trimPad (before : Nat) (m : List Byte) : List Byte :=
  let need := 24 + leAt m 14 2
  if before < need && need ≤ m.length && fdLen (1 + need - before) == 1 + m.length - before && (m.drop need).all (· == 0)
  then m.take need else m

/-- A frame of a Legend message on an identifier pair. -/
def State.canSegment (s : State) (c k : Fin 4) (bytes : List Byte) (dec : Decoded) : State :=
  if s.tri.cc1.inReset || !s.leg.canUp || !s.pairOn c.val k.val then s
  else
    let src := Source_.can c k
    let bad (s : State) : State := (s.dropPartial c.val k.val).violates src [] none
    -- A partial message whose next frame is more than 50 ms late is discarded before the frame is looked at.
    let s : State := match s.partial_ c.val k.val with
      | some r => if r.at_ + ticksMs 50 < s.mer.raw then bad s else s
      | none => s
    let kind := byteAt bytes 0 / 64
    let n := byteAt bytes 0 % 64
    let data := bytes.drop 1
    let full := decide (bytes.length = 64)
    if bytes.isEmpty then bad s
    else if kind ≤ 1 then
      let s := if (s.partial_ c.val k.val).isSome then bad s else s
      if n ≠ 0 || (kind = 1 && !full) then bad s
      else if kind = 0 then s.legendMessage src (trimPad 0 data) dec
      else s.keepPartial c.val k.val { bytes := data, counter := 0, at_ := s.mer.raw }
    else
      match s.partial_ c.val k.val with
      | none => bad s
      | some r =>
        if n ≠ (r.counter + 1) % 64 || 24 ≤ r.counter + 1 || (kind = 2 && !full) then bad s
        else if kind = 2 then s.keepPartial c.val k.val { bytes := r.bytes ++ data, counter := r.counter + 1, at_ := s.mer.raw }
        else (s.dropPartial c.val k.val).legendMessage src (trimPad r.bytes.length (r.bytes ++ data)) dec

/-- LEGEND_CAN_SEGMENT. -/
def execLegendCanSegment (c k : Fin 4) (bytes : List Byte) (dec : Decoded) (s : State) : Res :=
  if 64 < bytes.length then .fault .illFormed else whenUp s (fun s => s.canSegment c k bytes dec)

/-- LEGEND_CAN_REASSEMBLY_TIMEOUT. -/
def execLegendCanReassemblyTimeout (c k : Fin 4) (s : State) : Res :=
  whenUp s (fun s => match s.partial_ c.val k.val with
    | some r => if r.at_ + ticksMs 50 < s.mer.raw then (s.dropPartial c.val k.val).violates (.can c k) [] none else s
    | none => s)

/-! ## Sessions -/

/-- SESSION_PROOF_TIMEOUT (R238). -/
def execSessionProofTimeout (i : Fin 32) (s : State) : Res :=
  whenUp s (fun s => let x := s.session i.val; if x.state = 1 && s.sessionOver x then s.expireSession i.val else s)

/-- SESSION_IDLE_EXPIRY (R239). -/
def execSessionIdleExpiry (i : Fin 32) (s : State) : Res :=
  whenUp s (fun s => let x := s.session i.val; if x.state = 2 && s.sessionOver x then s.expireSession i.val else s)

/-- NONCE_EXPIRY (R240): the nonces of a session that are 120 s old. -/
def execNonceExpiry (i : Fin 32) (s : State) : Res :=
  whenUp s (fun s => if (s.session i.val).state = 0 then s
    else s.updSession i.val (fun x => { x with nonces := x.nonces.filter (fun n => !s.elapsed n.at_ (ticksMs 120000)) }))

/-! ## Forwarding -/

/-- FORWARDED_REQUEST_RECEIVED (R260). SRC names the forwarding module. -/
def execForwardedRequestReceived (idx : Fin 64) (m : List Byte) (dec : Decoded) (s : State) : Res :=
  if byteAt m 17 ≠ idx.val then .fault .illFormed else whenUp s (fun s => s.forwardedMessage idx.val m dec)

/-- FORWARDED_ANSWER_RECEIVED (R260). -/
def execForwardedAnswerReceived (idx : Fin 64) (m : List Byte) (s : State) : Res := whenUp s (fun s => s.forwardedAnswer idx.val m)

/-- FORWARD_TIMEOUT (R247). -/
def execForwardTimeout (id : Nat) (s : State) : Res :=
  whenUp s (fun s => match s.forward? id with
    | some f => if s.forwardDue f then s.timeoutForward f else s
    | none => s)

/-- ATOMIC_READ_INSTANT (R257). -/
def execAtomicReadInstant (id : Nat) (s : State) : Res :=
  whenUp s (fun s => match s.leg.atomics.find? (fun x => x.id == id) with
    | some x => if x.q ≤ s.now then s.atomicInstant x else s
    | none => s)

/-! ## The directory (R29, R261) -/

/-- The fields of a heartbeat: those of the sender's own record, and the name hashes of its points. -/
def DirRec.fields (r : DirRec) : List Nat :=
  [r.role, r.station, r.partner, r.mode, r.mq, r.ready, r.addr, r.container] ++ r.hashes.flatMap (fun x => [x.1, x.2])

/-- The module that heartbeats go to: the one serving as Datum, or the one named while none answers. -/
def State.beatTo (s : State) : Nat := if s.leg.datum = 0xFF then s.datumName else s.leg.datum

/-- DIRECTORY_HEARTBEAT_SEND: every 100 ms. The Datum keeps its own record itself. -/
def execDirectoryHeartbeatSend (s : State) : Res :=
  whenUp s (fun s =>
    if s.tri.cc0.inReset || !s.elapsed s.leg.lastBeat (ticksMs 100) then s
    else
      let s : State := { s with leg := { s.leg with lastBeat := s.mer.raw } }
      if s.isDatum || s.datumName = 0xFF then s else s.send (.heartbeat s.beatTo s.ownDirectory.fields))

/-- The record a heartbeat gives. -/
def State.beatRec (s : State) (b : Beat) : DirRec :=
  { state := 1, role := b.role % 256, station := b.station % 65536, partner := b.partner % 256, mode := b.mode % 256, mq := b.mq % 256,
    ready := b.ready % 256, addr := b.addr % 2 ^ 32, container := b.container % 2 ^ 64, lastSeen := s.now, seenAt := s.mer.raw, hashes := b.hashes }

/-- DIRECTORY_HEARTBEAT_RECEIVED: the Datum updates the record and acknowledges. A partner's record is kept by every member. -/
def execDirectoryHeartbeatReceived (idx : Fin 64) (b : Beat) (s : State) : Res :=
  whenUp s (fun s =>
    if s.tri.cc0.inReset then s
    else
      let keep (s : State) : State := { s with leg := { s.leg with directory := Table.put s.leg.directory idx.val (s.beatRec b) } }
      if s.isDatum then (keep s).send (.heartbeatAck idx.val)
      else if s.pairMember && s.partner = idx.val then keep s
      else s)

/-- DIRECTORY_MODULE_ABSENT: 500 ms without a heartbeat at the Datum. -/
def execDirectoryModuleAbsent (idx : Fin 64) (s : State) : Res :=
  whenUp s (fun s =>
    let r := Table.get s.leg.directory {} idx.val
    if s.isDatum && idx.val ≠ s.modIndex && r.state = 1 && s.elapsed r.seenAt (ticksMs 500) then
      ({ s with leg := { s.leg with directory := Table.put s.leg.directory idx.val { r with state := 2 } } } : State).evS 0xA822 0x0601 [idx.val]
    else s)

/-- HEARTBEAT_ACK_RECEIVED. -/
def execHeartbeatAckReceived (idx : Fin 64) (s : State) : Res :=
  whenUp s (fun s =>
    if s.tri.cc0.inReset then s
    else
      let lost := s.leg.datumLost
      let s : State := { s with leg := { s.leg with datum := idx.val, datumAck := s.mer.raw, datumLost := false } }
      if lost then s.evS 0xA821 0x0601 [idx.val] else s)

/-- DATUM_LOST: 500 ms without an acknowledgement, where a Datum module is named and it is not this one. -/
def execDatumLost (s : State) : Res :=
  whenUp s (fun s =>
    if s.isDatum || s.datumName = 0xFF || s.leg.datumLost || !s.elapsed s.leg.datumAck (ticksMs 500) then s
    else ({ s with leg := { s.leg with datum := 0xFF, datumLost := true } } : State).evS 0xA820 0x0601 [])

/-! ## Services, the staging buffer, the sweep -/

/-- A service waits for the triad, or runs. -/
def State.serviceBusy (s : State) (v : Nat) : Bool := decide (s.tri.unit_ = .service v) || s.tri.preempted.contains (.service v)

/-- Change a service. -/
def State.updService (s : State) (v : Nat) (f : Service → Service) : State :=
  { s with leg := { s.leg with services := Table.upd s.leg.services {} v f } }

/-- An exception in a service (R263): rung 2. -/
def State.serviceFails (s : State) (v : Nat) : State :=
  ((s.updService v (fun x => { x with state := 2 })).endUnit (.service v)).fault (0x0700 + v) 0xE001 v 2 [v]

/-- SERVICE_ACTIVATION (R263): due once a PERIOD. One that finds the service still busy is skipped and counted (Table 09-9). -/
def execServiceActivation (v : Fin 256) (exception : Bool) (s : State) : Res :=
  whenUp s (fun s =>
    let e := 0xE0000 + 0x100 * v.val
    let x := Table.get s.leg.services {} v.val
    if s.tri.dead || s.el e 0 0 = 0 || !s.elB e 1 false || 2 ≤ x.state then s
    else if exception && s.serviceBusy v.val then s.serviceFails v.val
    else if !s.elapsed x.lastAt (ticksUs (s.el e 2 1000)) then s
    else if s.serviceBusy v.val then s.updService v.val (fun x => { x with skipped := satInc 32 x.skipped })
    else
      let s := s.updService v.val (fun x => { x with state := 1, lastAt := s.mer.raw })
      if exception then s.serviceFails v.val else s.readyUnit (.service v.val))

/-- STAGING_BUFFER_CLEAR (R264). -/
def execStagingBufferClear (who : Who) (s : State) : Res :=
  request s who engineer (fun s => ({ s with leg := { s.leg with staging := [], stagingLen := 0 } } : State).okAns)

/-- SURVEY_AGE_SWEEP (R255): the sweep visits the next `n` points. A record never written has no age. -/
def execSurveyAgeSweep (n : Nat) (s : State) : Res :=
  whenUp s (fun s =>
    let lo := s.sur.sweepNext
    let visited (p : Nat) : Bool := decide ((p + 524288 - lo) % 524288 < n)
    { s with sur := { s.sur with
      image := s.sur.image.map (fun x => if visited x.1 && decide (8388608 < s.age x.2) then (x.1, { x.2 with old := true }) else x),
      sweepNext := (lo + n) % 524288 } })

end Sys2Proof.Machine
end

