-- ==== Sys2Proof/Machine/Can.lean ====
section
/-!
DEFINITION. The meanings of the CAN controllers' commands (chapter 13).
-/
namespace Sys2Proof.Machine

/-- Function code of a controller (Table 02-10). -/
def canFn (c : Nat) : Nat := 0x0100 + c

/-! ## Sending (R352) -/

/-- The transmit timestamp (R105): M at the TXD edge + TX_LAT, in whole nanoseconds. -/
def State.txStamp (s : State) (c sof : Nat) : MTime :=
  Int.fdiv (({ s with mer := { s.mer with raw := sof } } : State).mExact + s.mer.canLat.getD (4 + c) 0 * 33554432) 2199023255552

/-- The receive timestamp (R105): M(capture) − RX_LAT. -/
def State.rxStamp (s : State) (c capture : Nat) : MTime :=
  Int.fdiv (({ s with mer := { s.mer with raw := capture } } : State).mExact - s.mer.canLat.getD c 0 * 33554432) 2199023255552

/-- A placement held during the transmission takes effect (R352). -/
def State.placeHeld (s : State) (c o : Nat) (held : Option Nat) : State :=
  match held with
  | none => s
  | some pl => s.updObj c o (fun x => { x with pending := true, payload := pl, placedAt := s.mer.raw, attempts := 0, held := none })

/-- The error state follows the counters (Table 13-9, events 0x9001 and 0x9002). -/
def State.canState (s : State) (c : Nat) : State :=
  let x := s.canCtl c
  let p := decide (128 ≤ x.tec) || decide (128 ≤ x.rec_)
  if p = x.passive then s
  else
    let s := (s.updCan c (fun x => { x with passive := p })).canPend c 0
    if p then s.evS 0x9001 (canFn c) [c, x.tec, x.rec_] else s.evS 0x9002 (canFn c) [c]

/-- A transmission completes: SENT. -/
def State.txDone (s : State) (c o : Nat) : State :=
  let x := s.canObj c o
  let t := s.txStamp c x.sofAt
  let fmt := s.objEl c o 3 0
  let len := dlcLen (bitOf fmt 0) (s.objEl c o 4 0)
  let s := s.send (.can c (s.objEl c o 2 0) (leBytes len x.payload))
  let s := s.updObj c o (fun x => { x with outcome := 1, pending := false, inTx := false, held := none, frames := (x.frames + 1) % 2 ^ 32, lastTime := t })
  let s := s.updCan c (fun y => { y with txcnt := (y.txcnt + 1) % 2 ^ 32, tec := y.tec - 1 })
  -- An FD frame sent with TDC_EN set measures the transmitter delay, a free value (R348).
  let s := if bitOf fmt 0 && bitOf (s.canCtl c).tdc 7 then
      let d := s.draw
      d.2.updCan c (fun y => { y with tdcMeas := (Config.random d.1).toNat % 128 })
    else s
  (((s.writeStatusPt c o 1 t).canPend c 4).canState c).placeHeld c o x.held

/-- CAN_TX_COMPLETE (R352, R105). -/
def execCanTxComplete (c : Fin 4) (o : Fin 128) (s : State) : Res :=
  whenUp s (fun s => if (s.canObj c o).inTx && s.canMode c = 1 then (s.txDone c o).startTx c 3 1 else s)

/-- CAN_TX_ERROR (R352): an attempt ended in an error; it is retransmitted while attempts remain. -/
def execCanTxError (c : Fin 4) (o : Fin 128) (s : State) : Res :=
  whenUp s (fun s =>
    let x := s.canObj c o
    if !x.inTx then s
    else if s.objEl c o 7 0 ≤ x.attempts then ((s.objFails c o 3).placeHeld c o x.held).startTx c 3 40
    else
      (s.updObj c o (fun x => { x with
        inTx := false, attempts := x.attempts + 1, payload := x.held.getD x.payload, held := none,
        overwritten := if x.held.isSome then satInc 16 x.overwritten else x.overwritten })).startTx c 3 40)

/-- CAN_OBJECT_EXPIRED (R352): its transmission has not begun by placement + LIFETIME. -/
def execCanObjectExpired (c : Fin 4) (o : Fin 128) (s : State) : Res :=
  whenUp s (fun s =>
    let x := s.canObj c o
    let life := s.objEl c o 8 0
    if x.pending && !x.inTx && life ≠ 0 && s.elapsed x.placedAt (ticksUs life) then s.objFails c o 2 else s)

/-! ## Receiving (R354 to R356) -/

/-- The 32-bit form of a frame's identifier, as objects and pairs hold it. -/
def canIdent (f : CanFrame) : Nat := f.id + bitAt f.ide 31

/-- A frame is one that ISO 11898-1 can carry: its identifier, format bits and data length agree. -/
def canFrameOk (f : CanFrame) : Bool :=
  decide (f.id < if f.ide then 2 ^ 29 else 2 ^ 11) && (f.fdf || (!f.brs && !f.esi)) && !(f.fdf && f.rtr)
    && f.data.length == (if f.rtr then 0 else dlcLen f.fdf f.dlc)

/-- The Legend identifier pair whose request identifier a data frame carries (R354). -/
def State.legendPair (s : State) (c : Nat) (f : CanFrame) : Option (Fin 4) :=
  if f.rtr then none
  else ([0, 1, 2, 3] : List (Fin 4)).find? (fun k => s.pairOn c k && s.el (0x90300 + c) k 0 % 2 ^ 32 == canIdent f)

/-- The lowest enabled receive object with equal ID, IDE and FDF. -/
def State.rxObject (s : State) (c : Nat) (f : CanFrame) : Option Nat :=
  if f.rtr then none
  else (upto 128).find? (fun o => s.objOn c o && s.objEl c o 1 0 == 0 && s.objEl c o 2 0 == canIdent f && bitOf (s.objEl c o 3 0) 0 == f.fdf)

/-- Filter f: MATCH and MASK words. -/
def State.canFilter (s : State) (c f : Nat) : Nat × Nat := let v := Table.get (s.canCtl c).flt 0 f; (v % 2 ^ 32, v / 2 ^ 32 % 2 ^ 32)

/-- The lowest enabled filter that a frame matches (R354). IDE_SEL 3 is reserved and matches neither. -/
def State.filterHit (s : State) (c : Nat) (f : CanFrame) : Option Nat :=
  (upto 32).find? (fun i =>
    let v := s.canFilter c i
    let ide := match field v.1 30 29 with | 0 => !f.ide | 1 => f.ide | 2 => true | _ => false
    field v.2 30 29 != 0 && ide && (f.id ^^^ v.1) &&& v.2 &&& (2 ^ 29 - 1) == 0)

/-- An item of a queue bound for the triad: the header of Table 03-8, then the payload (R84). -/
def queueItem (seq type src : Nat) (payload : List Byte) : List Byte :=
  let h := leBytes 4 seq ++ leBytes 2 payload.length ++ leBytes 2 type ++ leBytes 4 src
  h ++ leBytes 4 (crc32c (h ++ payload)) ++ payload

/-- The fields of a receive-queue item (Table 13-8). -/
def State.rxqPayload (s : State) (f : CanFrame) (filter : Nat) (t : MTime) : List Byte :=
  leBytes 8 (i64 t) ++ leBytes 4 (f.id + bitAt f.ide 31 + bitAt f.fdf 30 + bitAt f.brs 29 + bitAt f.esi 28 + bitAt f.rtr 27)
    ++ leBytes 1 f.dlc ++ leBytes 1 filter ++ leBytes 1 s.mq ++ leBytes 1 0 ++ f.data

/-- The next item of a receive queue. -/
def State.rxqItem (s : State) (c key : Nat) (payload : List Byte) : List Byte × State :=
  let n := Table.get s.can.qSeq 0 key
  (queueItem n 0x0900 (canFn c) payload, { s with can := { s.can with qSeq := Table.set s.can.qSeq 0 key ((n + 1) % 2 ^ 32) } })

/-- A frame accepted into RXQ0, which CC1 reads. -/
def State.toRxq0 (s : State) (c : Nat) (payload : List Byte) : State :=
  let r := s.rxqItem c c payload
  ({ r.2 with can := { r.2.can with rxq0 := r.2.can.rxq0 ++ [r.1] } } : State).canPend c 2

/-- A frame accepted into RXQ1, the triad queue of Legend 0x90200 + c .32; one that finds no credit is dropped (R356). -/
def State.toRxq1 (s : State) (c : Nat) (payload : List Byte) : State :=
  let q := s.el (0x90200 + c) 32 0
  let item := s.rxqItem c (16 + q) payload
  match s.pushQueue q item.1 with
  | (true, s) => ({ s with can := { s.can with qSeq := item.2.can.qSeq } } : State).canPend c 3
  | (false, s) => (s.updCan c (fun x => { x with rxqDrops := satInc 32 x.rxqDrops })).evRep 0x9007 (canFn c) [q]

/-- The record value of an unpacked field. A number that is none has no integer the rule names: a free value. -/
def State.rxValue (s : State) (f : CanField) (payload : Nat) : Nat :=
  let x := unpackField f payload
  match F64.num x with
  | .nan => if refType f.ref < 2 then encodeVal (refType f.ref) x else (Config.random s.freeCtr).toNat % 2 ^ 64
  | _ => encodeVal (refType f.ref) x

/-- A frame for a receive object (R355). -/
def State.toObject (s : State) (c o : Nat) (f : CanFrame) (t : MTime) : State :=
  if f.data.length < dlcLen (bitOf (s.objEl c o 3 0) 0) (s.objEl c o 4 0) then
    (s.updCan c (fun x => { x with short := satInc 32 x.short })).evRep 0x9006 (canFn c) [c * 128 + o]
  else
    let s := (s.updObj c o (fun x => { x with
      frames := (x.frames + 1) % 2 ^ 32, lastTime := t, lastRx := s.mer.raw, rxStale := false, rxBad := false })).canPend c 1
    if s.mode.mode = .standby then s
    else s.each (s.objFields c o) (fun s g => (s.surveyWrite (refLocal g.ref) (s.rxValue g (leNat f.data)) qGood 0 t).draw.2)

/-- A received frame: its counters, then the first that matches (R354). -/
def State.rxFrame (s : State) (c : Fin 4) (f : CanFrame) (dec : Decoded) : State :=
  let t := s.rxStamp c f.capture
  let d := s.draw
  let s := d.2
  -- ISO 11898-1: a frame received well lowers REC; from above 127 it takes a value of 119 to 127, a free value.
  let s := if s.canMode c = 1 then
      (s.updCan c (fun x => { x with rec_ := if 127 < x.rec_ then 119 + (Config.random d.1).toNat % 9 else x.rec_ - 1 })).canState c
    else s
  let take (s : State) : State := s.updCan c (fun x => { x with rxcnt := (x.rxcnt + 1) % 2 ^ 32 })
  match s.legendPair c f with
  | some k => (take s).canSegment c k f.data dec
  | none =>
    match s.rxObject c f with
    | some o => (take s).toObject c o f t
    | none =>
      match s.filterHit c f with
      | none => s.updCan c (fun x => { x with noMatch := satInc 32 x.noMatch })
      | some i =>
        match field (s.canFilter c i).2 30 29 with
        | 1 => (take s).toRxq0 c (s.rxqPayload f i t)
        | 2 => (take s).toRxq1 c (s.rxqPayload f i t)
        | _ => s

/-- The object in transmission has lost arbitration to a frame of another node: no attempt (R352). A placement held meanwhile
replaces its payload. -/
def State.lostArbitration (s : State) (c : Nat) : State :=
  s.updCan c (fun x => { x with idle := true, objs := x.objs.map (fun o =>
    if o.2.inTx then (o.1, { o.2 with inTx := false, payload := o.2.held.getD o.2.payload, held := none,
                                      overwritten := if o.2.held.isSome then satInc 16 o.2.overwritten else o.2.overwritten }) else o) })

/-- CAN_FRAME_RECEIVED (R354). An FD frame is received only where FD frames are permitted. -/
def execCanFrameReceived (c : Fin 4) (f : CanFrame) (dec : Decoded) (s : State) : Res :=
  if !canFrameOk f then .fault .illFormed
  else whenUp s (fun s =>
    let x := s.canCtl c
    if s.canMode c = 0 || x.busOff || (f.fdf && !bitOf x.ctrl 2) then s
    else ((s.lostArbitration c).rxFrame c f dec).startTx c 3 1)

/-- CAN_RECEIVE_TIMEOUT (R355): STALE after TIMEOUT, BAD after 3 × TIMEOUT; a point that is BAD already stays so. -/
def execCanReceiveTimeout (c : Fin 4) (o : Fin 128) (s : State) : Res :=
  whenUp s (fun s =>
    let x := s.canObj c o
    let n := s.objEl c o 11 0
    let last := max x.lastRx s.can.since
    if !s.objOn c o || s.objEl c o 1 0 ≠ 0 || n = 0 || s.canMode c = 0 then s
    else
      let mark (s : State) (q : Nat) : State :=
        if s.mode.mode = .standby then s
        else s.each (s.objFields c o) (fun s f =>
          let p := refLocal f.ref
          if qCode (s.record p).quality = qBad then s else s.requalifyPoint p q)
      let s := if !x.rxStale && s.elapsed last (ticksMs n) then
          (mark (s.updObj c o (fun y => { y with rxStale := true })) qStale).evRep 0x900A (canFn c) [c * 128 + o]
        else s
      if !x.rxBad && s.elapsed last (ticksMs (3 * n)) then mark (s.updObj c o (fun y => { y with rxBad := true })) qBad else s)

/-! ## Errors and bus-off (R358, R359) -/

/-- Count an error by its kind and note it as the last. -/
def CanCtrl.note (x : CanCtrl) (err : CanErr) (data : Bool) : CanCtrl :=
  let x := { x with lec := err.code, lecData := data }
  match err with
  | .stuff => { x with errStuff := satInc 8 x.errStuff }
  | .form => { x with errForm := satInc 8 x.errForm }
  | .ack => { x with errAck := satInc 4 x.errAck }
  | .bitRecessive | .bitDominant => { x with errBit := satInc 8 x.errBit }
  | .crc => { x with errCrc := satInc 4 x.errCrc }

/-- The counters after an error (ISO 11898-1): a transmitter adds 8, but not for a missing acknowledgement while passive; a
receiver adds 1, or 8 for a bit error in its own error flag. -/
def CanCtrl.bump (x : CanCtrl) (err : CanErr) (transmitter : Bool) : CanCtrl :=
  if transmitter then (if x.passive && decide (err = .ack) then x else { x with tec := x.tec + 8 })
  else
    let d := match err with | .bitRecessive | .bitDominant => 8 | _ => 1
    { x with rec_ := min 255 (x.rec_ + d) }

/-- Event 0x9005: FIRST for an episode's first error, REPEAT for the later ones (R358). -/
def State.canEpisode (s : State) (c : Nat) (err : CanErr) : State :=
  let x := s.canCtl c
  let old := match x.episode with | some t => !s.elapsed t (ticksMs 10000) | none => false
  let lec := if old then x.episodeLec else err.code
  let s := s.updCan c (fun x => { x with episode := some s.mer.raw, episodeLec := lec })
  if old then s.evRep 0x9005 (canFn c) [c, lec] else s.evS 0x9005 (canFn c) [c, lec]

/-- Entry to BUS-OFF (R359): every pending object is withdrawn, and the recovery is a retry within the limits of R49. -/
def State.enterBusOff (s : State) (c : Nat) : State :=
  let l := ((s.canCtl c).objs.filter (fun o => o.2.pending)).map (·.1)
  -- A controller that was ERROR-PASSIVE leaves that state (Table 13-9).
  let s := if (s.canCtl c).passive then s.evS 0x9002 (canFn c) [c] else s
  let s := (s.updCan c (fun x => { x with busOff := true, passive := false, busoffs := x.busoffs + 1, idle := true })).canPend c 0
  let s := s.each l (fun s o => s.objFails c o 4)
  if s.el (0x90000 + c) 4 0 = 1 then
    s.fault (canFn c) 0x9003 c 2 [c]
  else
    let s := s.fault (canFn c) 0x9003 c 1 [c]
    if s.retryFree (canFn c) then (s.countRetry (canFn c)).updCan c (fun x => { x with recovering := true })
    else s.retryLimit (canFn c) 0x9003 c

/-- CAN_ERROR_DETECTED (R358). In RESTRICTED and MONITOR the counters stand still. -/
def execCanErrorDetected (c : Fin 4) (err : CanErr) (data transmitter : Bool) (s : State) : Res :=
  whenUp s (fun s =>
    let m := s.canMode c
    if m = 0 || (s.canCtl c).busOff || (transmitter && m ≠ 1) then s
    else
      let s := (s.updCan c (fun x => x.note err data)).canEpisode c err
      if m ≠ 1 then s
      else
        let s := s.updCan c (fun x => x.bump err transmitter)
        if 255 < (s.canCtl c).tec then s.enterBusOff c else s.canState c)

/-- CAN_BUS_OFF_RECOVERY (R359): 128 occurrences of 11 recessive bits have passed. -/
def execCanBusOffRecovery (c : Fin 4) (s : State) : Res :=
  whenUp s (fun s =>
    let x := s.canCtl c
    if x.busOff && x.recovering then
      let s := (s.updCan c (fun x => { x with busOff := false, passive := false, recovering := false, tec := 0, rec_ := 0 })).canPend c 0
      ((s.closeFault (canFn c) 0x9003 c).evS 0x9004 (canFn c) [c]).startTx c 0 1
    else s)

/-- CAN_ERROR_EPISODE_END (R358): 10 s without an error. -/
def execCanErrorEpisodeEnd (c : Fin 4) (s : State) : Res :=
  whenUp s (fun s =>
    match (s.canCtl c).episode with
    | some t => if s.elapsed t (ticksMs 10000) then s.updCan c (fun x => { x with episode := none }) else s
    | none => s)

end Sys2Proof.Machine
end

