-- ==== Sys2Proof/Machine/Networks.lean ====
section
/-!
DEFINITION. The meanings of the networks' commands: plant ports, the I/O ring and the tie link (chapter 14).
-/
namespace Sys2Proof.Machine

/-! ## Links (R365) -/

/-- PORT_LINK_DOWN: a fault of rung 1, of rung 2 once its retries are used up (R49, Table 02-9). -/
def execPortLinkDown (p : Port) (s : State) : Res :=
  whenUp s (fun s =>
    if !(s.net.port p).up then s
    else
      let s := (s.updNet p (fun x => { x with up := false, downs := satInc 32 x.downs })).netPend 0
      let s := s.fault (portFn p) 0xA001 p 1 [p]
      if s.retryFree (portFn p) then s.countRetry (portFn p) else s.retryLimit (portFn p) 0xA001 p)

/-- PORT_LINK_UP. -/
def execPortLinkUp (p : Port) (s : State) : Res :=
  whenUp s (fun s =>
    if (s.net.port p).up then s
    else (((s.updNet p (fun x => { x with up := true })).netPend 0).closeFn (portFn p)).evS 0xA002 (portFn p) [p])

/-! ## Plant ports (R366 to R368) -/

/-- The policing class of a frame (Table 14-3): its number and its limit in frames per second. -/
def policeClass : PlantKind → Option (Nat × Nat)
  | .ptp => some (0, 2000)
  | .arpOwn => some (1, 100)
  | .icmpEcho => some (2, 100)
  | .udpLegend => some (3, 20000)
  | .supervision | .fragment | .other => none

/-- The counts of the present second of a port. -/
def PortState.second (p : PortState) (now : Nat) : PortState :=
  if p.windowAt + ticksMs 1000 ≤ now then { p with windows := [], windowAt := now, icmpReplies := 0 } else p

/-- Police a frame (R368): the port counts it in its class, or drops it. -/
def State.police (s : State) (p : Nat) (k : PlantKind) : Bool × State :=
  let s := s.updNet p (fun x => x.second s.mer.raw)
  let x := s.net.port p
  match policeClass k with
  | none => (true, s)
  | some (c, limit) =>
    let n := Table.get x.windows 0 c
    if n < limit then (true, s.updNet p (fun x => { x with windows := Table.set x.windows 0 c (n + 1) }))
    else
      let fresh := match x.policedAt with | some t => s.elapsed t (ticksMs 10000) | none => true
      let s := s.updNet p (fun x => { x with policed := satInc 32 x.policed, policedAt := some s.mer.raw })
      (false, if fresh then s.evS 0xA004 (portFn p) [p, c] else s.evRep 0xA004 (portFn p) [p, c])

/-- Redundancy handling (Table 14-2): a duplicate is discarded, else the frame is remembered for EntryForgetTime 400 ms and its
source for NodeForgetTime 60 s, at most 256 nodes. -/
def State.redundant (s : State) (p : Nat) (f : PlantFrame) : Bool × State :=
  let seen := s.net.seen.filter (fun x => !s.elapsed x.2.2 (ticksMs 400))
  let nodes := s.net.nodes.filter (fun x => !s.elapsed x.2 (ticksMs 60000))
  let nodes := if (Table.find nodes f.src).isSome || nodes.length < 256 then Table.put nodes f.src s.mer.raw else nodes
  let s : State := { s with net := { s.net with seen := seen, nodes := nodes } }
  match f.seq with
  | none => (false, s)
  | some q =>
    if seen.any (fun x => x.1 == f.src && x.2.1 == q) then (true, s.updNet p (fun x => { x with dupdisc := satInc 32 x.dupdisc }))
    else (false, { s with net := { s.net with seen := (f.src, q, s.mer.raw) :: seen } })

/-- Answer on both plant ports: kind 1 ARP, 2 ICMP echo reply. -/
def State.plantReply (s : State) (kind : Nat) : State := (s.send (.plant 0 kind)).send (.plant 1 kind)

/-- The HSR node passes on a frame that is not for it alone (Table 14-2, DANH), by its other port. -/
def State.hsrPass (s : State) (p : Nat) : State := if s.el 0xA0000 0 0 = 1 then s.send (.plant (1 - p) 3) else s

/-- PLANT_FRAME_RECEIVED (R367). What an accepted PTP frame or datagram carries is a command of its own. -/
def execPlantFrameReceived (p : Port) (f : PlantFrame) (s : State) : Res :=
  if 2 ≤ p.val then .fault .illFormed
  else whenUp s (fun s =>
    if !(s.net.port p).up then s
    else match s.police p f.kind with
      | (false, s) => s
      | (true, s) =>
        match s.redundant p f with
        | (true, s) => s
        | (false, s) =>
          let ok (s : State) : State := s.updNet p (fun x => { x with rxok := satInc 32 x.rxok })
          match f.kind with
          | .ptp | .udpLegend => ok s
          | .arpOwn => (ok s).plantReply 1
          | .icmpEcho =>
            let s := ok s
            if (s.net.port p).icmpReplies < 10 then (s.updNet p (fun x => { x with icmpReplies := x.icmpReplies + 1 })).plantReply 2 else s
          | .supervision => (ok s).hsrPass p
          | .fragment => s.updNet p (fun x => { x with other := satInc 32 x.other })
          | .other => (s.updNet p (fun x => { x with other := satInc 32 x.other })).hsrPass p)

/-- PRP_SUPERVISION_SEND: every LifeCheckInterval (Table 14-2). -/
def execPrpSupervisionSend (s : State) : Res :=
  whenUp s (fun s =>
    if !s.elapsed s.net.lastSup (ticksMs (s.el 0xA0000 4 2000)) then s
    else
      let q := s.net.prpSeq
      let s : State := { s with net := { s.net with lastSup := s.mer.raw, prpSeq := (q + 1) % 65536 } }
      (s.send (.supervision 0 q)).send (.supervision 1 q))

/-! ## The I/O ring (R371 to R378) -/

/-- A ring frame is a violation (R378). -/
def State.ringBad (s : State) (f : RingFrame) : Bool :=
  f.ver != 1 || f.kind == 0 || 5 < f.kind || 28 < f.len || f.ring != s.ringId || !(f.src == s.modIndex || (s.pairMember && f.src == s.partner))
    || !f.fcsOk

/-- Count a violation; one record a port in 10 s, and REPEAT for the others (R252). -/
def State.ringViolation (s : State) (p : Nat) : State :=
  let fresh := match (s.net.port p).violAt with | some t => s.elapsed t (ticksMs 10000) | none => true
  let s := s.updNet p (fun x => { x with viol := satInc 32 x.viol, violAt := if fresh then some s.mer.raw else x.violAt })
  if fresh then s.evS 0xA012 (portFn p) [p] else s.evRep 0xA012 (portFn p) [p]

/-- The owner of the exchange that a frame of the module belongs to: the ring-owning task, or 16 + group. -/
def State.frameOwner (s : State) (exch : Nat) : Option Nat :=
  (s.ring.exchanges.find? (fun e => exchCode e.owner == exch)).map (·.owner)

/-- The heads of an exchange whose trailer bit is set: one bit a head position. -/
def State.bitHeads (s : State) (owner : Nat) (f : RingFrame) : List Nat :=
  (s.exchHeads owner).filter (fun h => f.bits.contains (s.headPos h))

/-- The inputs of a head, written with their own quality and the latch instant. -/
def State.headInputs (s : State) (h : Nat) (f : RingFrame) (t : MTime) : State :=
  s.each (f.inputs.filter (fun x => x.1 == h)) (fun s x =>
    s.each (s.pointsOf 2 (256 * h + x.2.1)) (fun s y => s.surveyWrite y.1 x.2.2.1 x.2.2.2 0 t))

/-- A COLLECT copy returns (R373): the first copy with a head's bit is taken. One that comes after the freeze is discarded. -/
def State.collectBack (s : State) (e : Exchange) (f : RingFrame) : State :=
  if e.collected || s.collectDue e then s
  else s.each ((s.bitHeads e.owner f).filter (fun h => !(s.head h).answered)) (fun s h =>
    ((s.updHead h (fun x => { x with answered := true })).headReadmit h).headInputs h f e.at_)

/-- A late output: the head applied it after its release instant (R376). The position of LATE among its status point's flags is
not given: a free value. -/
def State.lateOutput (s : State) (h : Nat) : State :=
  let d := s.draw
  let s := s.each (d.2.pointsOf 10 h) (fun s x =>
    s.surveyWrite x.1 (s.record x.1).value (s.record x.1).quality (Config.random d.1).toNat s.now)
  s.evRep 0xA013 (headFn h) [h]

/-- An OUTPUT copy returns: its heads have acknowledged. -/
def State.outputBack (s : State) (p : Nat) (e : Exchange) (f : RingFrame) : State :=
  if !e.sentOut then s
  else
    let s := s.updExch e.owner (fun x => if p = 2 then { x with backA := true } else { x with backB := true })
    let s := s.each (s.bitHeads e.owner f) (fun s h => s.updHead h (fun x => { x with acked := true }))
    if s.ring.isOpen then s.each (f.late.filter (fun h => (s.exchHeads e.owner).contains h)) State.lateOutput else s

/-- RING_FRAME_RECEIVED. -/
def execRingFrameReceived (p : Port) (f : RingFrame) (s : State) : Res :=
  if p.val < 2 then .fault .illFormed
  else whenUp s (fun s =>
    if !(s.net.port p).up then s
    else if f.aborted then s.updNet p (fun x => { x with aborted := satInc 32 x.aborted })
    else if s.ringBad f then s.ringViolation p
    else
      let s := s.updNet p (fun x => { x with rxok := satInc 32 x.rxok })
      if f.src ≠ s.modIndex then s
      else
        let s := if f.wrap ≠ 0xFF then s.ringOpens f.wrap else if f.full then s.ringCloses else s
        match s.frameOwner f.exch with
        | none => s
        | some o =>
          match s.exchange? o with
          | none => s
          | some e => if f.kind = 3 then s.collectBack e f else if f.kind = 4 then s.outputBack p e f else s)

/-! ## The tie link (R379, R380) -/

def State.updLane (s : State) (l : Nat) (f : Lane → Lane) : State :=
  { s with net := match l with | 0 => { s.net with tl0 := f s.net.tl0 } | _ => { s.net with tl1 := f s.net.tl1 } }

/-- A relayed message is whole: handed to the duty's server, or to the standby that waits for its answer (R28, R260). -/
def State.relayed (s : State) (m : List Byte) (dec : Decoded) : State :=
  if bitOf (msgFlags m) 0 then s.forwardedAnswer s.partner m else s.forwardedMessage s.partner m dec

/-- The payload of a RELAY block joins the message under way; the block that completes it hands it over. -/
def State.relayBlock (s : State) (payload : List Byte) (dec : Decoded) : State :=
  let m := s.net.relay ++ payload
  if m.length < 24 || m.length < 24 + leAt m 14 2 then { s with net := { s.net with relay := m } }
  else ({ s with net := { s.net with relay := [] } } : State).relayed m dec

/-- TIE_BLOCK_RECEIVED (Table 14-7). The units of TYPE 1 to 4 are commands of their own. -/
def execTieBlockReceived (l : Fin 2) (b : List Byte) (dec : Decoded) (s : State) : Res :=
  let len := byteAt b 3
  if b.length ≠ (8 + len + 7) / 8 * 8 || 120 < len then .fault .illFormed
  else whenUp s (fun s =>
    if !(s.net.lane l).up then s
    else if leAt b 4 4 ≠ crc32c (b.take 4 ++ (b.drop 8).take len) then
      (s.updLane l (fun x => { x with crc := satInc 32 x.crc })).evRep 0xA022 0 [l]
    else
      let s := s.updLane l (fun x => { x with rx := satInc 32 x.rx })
      if byteAt b 0 = 5 && s.pairMember && byteAt b 1 = s.partner && byteAt b 2 = s.modIndex then s.relayBlock ((b.drop 8).take len) dec else s)

/-- Both lanes are down (R380): a standby is not ready (R224, Table 08-4), a resynchronisation ends, a relay is lost. -/
def State.tieLost (s : State) : State :=
  let s : State := { s with net := { s.net with relay := [] }, red := { s.red with resync := false } }
  let s := s.fault 0 0xA023 0 1 []
  if s.mode.mode = .standby then s.notReady else s

/-- TIE_LANE_DOWN. -/
def execTieLaneDown (l : Fin 2) (s : State) : Res :=
  whenUp s (fun s =>
    if !(s.net.lane l).up then s
    else
      let s := (s.updLane l (fun x => { x with up := false, downs := satInc 32 x.downs })).netPend 0
      let s := s.fault 0 0xA020 l 1 [l]
      if s.tieUp then s else s.tieLost)

/-- TIE_LANE_UP. -/
def execTieLaneUp (l : Fin 2) (s : State) : Res :=
  whenUp s (fun s =>
    if (s.net.lane l).up then s
    else
      let s := (s.updLane l (fun x => { x with up := true })).netPend 0
      ((s.closeFault 0 0xA020 l).closeFault 0 0xA023 0).evS 0xA021 0 [l])

end Sys2Proof.Machine
end

