-- ==== Sys2Proof/Machine/SafetyGroup.lean ====
section
/-!
DEFINITION. The safety group's commands (R313 to R344), less the loading of its set.
-/
namespace Sys2Proof.Machine

/-- A fault of the die that enters SAFE as a module fault (R315, R341). -/
def State.dieSafe (s : State) (code obj : Nat) (args : List Nat) : State :=
  let s := (s.fault fnSafety code obj 2 args).safPend 1
  (s.enterSafe code obj true).safEval

/-- The words of the status frame (R313): channel states, pair states, speeds, feedback, reset edges, function states,
faults, enables. -/
def State.statusFields (s : State) : List Nat :=
  [ s.saf.frameSeq, packBits ((upto 12).map s.safOn), packBits ((upto 6).map s.inPairOn),
    ofSigned 32 (s.safAxis 0).speed, ofSigned 32 (s.safAxis 1).speed,
    packBits ((upto 4).map (fun p => (s.safPair p).edmOn)), s.saf.edges,
    ((upto 8).map (fun f => (s.safFn f).state * 4 ^ f)).foldl (· + ·) 0,
    packBits ((upto 12).map s.chLatched) + 4096 * packBits ((upto 6).map s.saf.disc.contains)
      + 262144 * axisBits (s.safAxis 0) + 4194304 * axisBits (s.safAxis 1)
      + 67108864 * packBits ((upto 4).map (fun p => pairFault (s.safPair p))),
    packBits ((upto 4).map s.dieEnable) ]

/-- SAFETY_STATUS_FRAME (R313): sent to the triad; the reset edges seen are reported once. -/
def execSafetyStatusFrame (s : State) : Res :=
  whenUp s (fun s =>
    if !s.safActive then s else
    let s := s.send (.safety 0 s.statusFields)
    { s with saf := { s.saf with frameSeq := (s.saf.frameSeq + 1) % 2 ^ 32, edges := 0 } })

/-- A point the triad reads as usable: configured, and neither BAD nor STALE (R326). -/
def State.usable (s : State) (p : Nat) : Bool := s.configured p && decide (qUncertain ≤ qCode (s.record p).quality)

/-- The program's demand on a function: DEM_PT at 1, or not usable (R326). -/
def State.programDemand (s : State) (f : Nat) : Bool :=
  let pt := (s.fnRec f).demPt
  (s.fnRec f).type != 0 && pt != 0xFFFFFFFF &&
    (!s.usable (pt % 524288) || (s.record (pt % 524288)).value % 2 == 1)

/-- The program withdraws its permission: PERMIT_PT at 0, or not usable (R326). -/
def State.withdrawn (s : State) (p : Nat) : Bool :=
  let pt := (s.outRec p).permitPt
  pt != 0xFFFFFFFF && (!s.usable (pt % 524288) || (s.record (pt % 524288)).value % 2 == 0)

/-- SAFETY_CHECK (R314): the triad recomputes the enables and returns a check frame with PERMIT bits and OFF demands. A
triad that commits nothing returns none (R78). -/
def execSafetyCheck (s : State) : Res :=
  whenUp s (fun s =>
    if !s.safActive || s.tri.dead then s else
    let permits := packBits ((upto 4).map (fun p => s.dieEnable p && !s.withdrawn p))
    let offs := packBits ((upto 8).map s.programDemand)
    let s := s.send (.safety 1 [s.saf.checkSeq, permits, offs, packBits ((upto 4).map s.dieEnable)])
    { s with saf := { s.saf with checkSeq := (s.saf.checkSeq + 1) % 2 ^ 32 } })

/-- SAFETY_CHECK_FRAME_RECEIVED (R314, R315, R85): CRC and sequence are checked; two consecutive frames whose enables
differ from the die's raise SAFETY-DIVERGENCE. -/
def execSafetyCheckFrameReceived (frame : CheckFrame) (s : State) : Res :=
  whenUp s (fun s =>
    if !s.safActive then s
    else if !frame.crcOk || frame.seq ≠ s.saf.expectSeq then
      { s with saf := { s.saf with expectSeq := (frame.seq + 1) % 2 ^ 32 } }
    else
      let differ := frame.enables.val != packBits ((upto 4).map s.dieEnable)
      let run := if differ then s.saf.divRun + 1 else 0
      let s : State := { s with saf := { s.saf with
        expectSeq := (frame.seq + 1) % 2 ^ 32, checks := (s.saf.checks + 1) % 2 ^ 32, lastCheck := s.mer.raw, divRun := run,
        diverge := if differ then satInc 32 s.saf.diverge else s.saf.diverge } }
      if decide (2 ≤ run) && !s.saf.divergence then
        let s : State := { s with saf := { s.saf with divergence := true } }
        let s := s.each (upto 4) (fun s p => s.updSafPair p (fun x => { x with permit := false }))
        (s.safPend 3).dieSafe 0x8040 0 []
      else
        let s := s.each (upto 4) (fun s p =>
          s.updSafPair p (fun x => { x with permit := bitOf frame.permit p && !s.saf.divergence }))
        let s := s.each (upto 8) (fun s f => s.updSafFn f (fun x => { x with triadOff := bitOf frame.off f }))
        s.safEval)

/-- SAFETY_CHANNEL_TIMEOUT (R315): no valid check frame for 1.5 ms. -/
def execSafetyChannelTimeout (s : State) : Res :=
  whenUp s (fun s =>
    if !s.safActive || s.saf.channelFault || s.mer.raw < s.saf.lastCheck + ticksUs 1500 then s else
    ({ s with saf := { s.saf with channelFault := true } } : State).dieSafe 0x8041 0 [])

/-- DIE_SELF_TEST_FAULT (R341). -/
def execDieSelfTestFault (s : State) : Res :=
  whenUp s (fun s => ({ s with saf := { s.saf with selfTest := true } } : State).dieSafe 0x8042 0 [])

/-- TEST_PULSE_FRAME (R316, R335): a frame starts at each multiple of 4 ms; the member that drives the sources sends their
pulses. -/
def execTestPulseFrame (s : State) : Res :=
  whenUp s (fun s =>
    if !s.safActive then s else
    let start : MTime := s.now - s.now % 4000000
    if start ≤ s.saf.frameAt then s else
    let s : State := { s with saf := { s.saf with frameAt := start } }
    if s.safHolder then s.send (.safety 2 [i64 start, packBits ((upto 4).map (fun t => !s.saf.sources.contains t))]) else s)

/-- An input channel in use. -/
def State.safUsed (s : State) (n : Nat) : Bool := s.safActive && s.safMode n != 0

/-- SAFETY_INPUT_ON (R317): high for 300 µs. -/
def execSafetyInputOn (ch : Fin 12) (s : State) : Res :=
  whenUp s (fun s =>
    if !s.safUsed ch || (s.safCh ch).on then s else
    let s := s.updSafCh ch (fun c => { c with on := true, raw := true, onAt := s.mer.raw })
    (s.noteDisagree ch).safEval)

/-- PULSE_MISSING (R318): a pulsed channel that is ON stays high through its ignore window in two consecutive frames. -/
def execPulseMissing (ch : Fin 12) (s : State) : Res :=
  whenUp s (fun s =>
    let c := s.safCh ch
    let m := s.safMode ch
    if !s.safUsed ch || m = 0 || 4 < m || !c.on || c.pulseMissing then s else
    let s := s.updSafCh ch (fun c => { c with pulseMissing := true, missRun := 2, missCount := (c.missCount + 1) % 2 ^ 32 })
    ((s.evRep 0x8020 fnSafety [ch]).safPend 1).safEval)

/-- DISCREPANCY (R319): the channels of a pair have disagreed for longer than DISC. -/
def execDiscrepancy (q : Fin 6) (s : State) : Res :=
  whenUp s (fun s =>
    match Table.find s.saf.disagree q with
    | none => s
    | some t =>
      if !s.safActive || s.saf.disc.contains q.val || s.mer.raw < t + ticksMs (s.inRec q).disc then s else
      let s : State := { s with saf := { s.saf with disc := s.saf.disc ++ [q.val] } }
      ((s.evS 0x8021 fnSafety [q]).safPend 1).safEval)

/-- SOURCE_SHORT (R320): at its limit for 1 ms a source switches off. -/
def execSourceShort (src : Fin 4) (s : State) : Res :=
  whenUp s (fun s =>
    if !s.safActive || s.saf.sources.contains src.val then s else
    let s : State := { s with saf := { s.saf with sources := s.saf.sources ++ [src.val] } }
    ((s.evS 0x8022 fnSafety [src]).safPend 1).safEval)

/-- The signed speed of an input over the window W, in edges per s. -/
def speedOf (edges : Int) (w : Nat) : Int := Int.tdiv (edges * 1000) (if w = 0 then 1 else (w : Int))

/-- One axis at a speed update (R321, R322). -/
def State.updateAxis (s : State) (a : Nat) (i0 i1 : SpeedIn) : State :=
  let r := s.axisRec a
  let src := r.source == 1
  let v0 := speedOf (if a = 0 then i0.edges else i1.edges) r.w
  let scaled := F64.mul (F32.widen (BitVec.ofNat 32 r.ratio)) (F64.ofInt (speedOf i1.edges r.w))
  let v1 := F64.nearest scaled
  let v := if src && decide (v0.natAbs < v1.natAbs) then v1 else v0
  let mag := F64.ofInt ((max v0.natAbs v1.natAbs : Nat) : Int)
  let tol := F64.add (F64.ofInt r.tolAbs) (F64.div (F64.mul (F32.widen (BitVec.ofNat 32 r.tolPct)) mag) (F64.ofInt 100))
  let apart := src && F64.lt tol (F64.abs (F64.sub (F64.ofInt v0) scaled))
  let one := if a = 0 then i0 else i1
  let ph := one.phase || (src && i1.phase)
  let fq := one.freq || (src && i1.freq) || decide (2000000 < v0.natAbs) || (src && decide (2000000 < (speedOf i1.edges r.w).natAbs))
  let wr := r.ttl && (one.wire || (src && i1.wire))
  let x := s.safAxis a
  let since := if apart then (match x.discSince with | some t => some t | none => some s.mer.raw) else none
  let dc := match since with | some t => decide (t + ticksMs 20 ≤ s.mer.raw) | none => false
  let new : List (Nat × Bool) := [(0, ph && !x.phase), (1, fq && !x.freq), (2, wr && !x.wire), (3, dc && !x.disc)]
  let s := s.updSafAxis a (fun x =>
    { x with speed := v, phase := x.phase || ph, freq := x.freq || fq, wire := x.wire || wr, disc := x.disc || dc,
             discSince := since, live := packBits [ph, fq, wr, apart] })
  let s := s.each (new.filter (·.2)) (fun s k => (s.evS 0x8023 fnSafety [a, k.1]).safPend 1)
  let x := s.safAxis a
  let s := s.updSafAxis a (fun x => { x with bad := axisBits x != 0 })
  if r.point = 0xFFFFFFFF then s else
  s.surveyWrite (r.point % 524288)
    (real32 (F64.mul (F64.ofInt v) (F32.widen (BitVec.ofNat 32 r.scale)))) (if axisBits x != 0 then qBad else qGood) 0 s.now

/-- The greatest whole speed within the SS1-r limit at this update (R331), in edges per s. -/
def ss1Limit (r : FnRec) (v0 : Nat) (ns : Int) : Int :=
  let d : Int := (r.tDelay : Int) * 1000000
  if ns ≤ d then (v0 + r.vTol : Nat)
  else
    let fall := Int.fdiv (-((r.decel : Int) * (ns - d))) 1000000000
    max ((v0 + r.vTol : Nat) + fall) ((r.vStill + r.vTol : Nat) : Int)

/-- The envelope check of an SS1-r function in RAMP (R331). -/
def State.checkEnvelope (s : State) (f : Nat) : State :=
  let r := s.fnRec f
  let x := s.safFn f
  if r.type ≠ 3 || x.state ≠ 3 then s else
  let v := (s.safAxis r.axis).speed.natAbs
  if axisBits (s.safAxis r.axis) ≠ 0 then s.stopFn f 0
  else if ss1Limit r x.v0 (s.now - x.t0) < (v : Int) then
    ((s.updSafFn f (fun x => { x with envelope := true })).stopFn f 3).safPend 1
  else s.updSafFn f (fun x => { x with stillSince := if v ≤ r.vStill then (match x.stillSince with | some t => some t | none => some s.mer.raw) else none })

/-- SPEED_UPDATE (R321, R322, R331). -/
def execSpeedUpdate (a0 a1 : SpeedIn) (s : State) : Res :=
  whenUp s (fun s =>
    if !s.safActive then s else
    let s := s.updateAxis 0 a0 a1
    let s := if (s.axisRec 0).source = 1 then s else s.updateAxis 1 a0 a1
    (s.each (upto 8) State.checkEnvelope).safEval)

/-- SS1T_STOP_EXPIRY (R330): at t0 + T_STOP. -/
def execSs1tStopExpiry (f : Fin 8) (s : State) : Res :=
  whenUp s (fun s =>
    let r := s.fnRec f
    let x := s.safFn f
    if !s.safActive || r.type ≠ 2 || x.state ≠ 3 || s.mer.raw < x.t0Raw + ticksMs r.tStop then s
    else (s.stopFn f 0).safDrive)

/-- SS1R_STANDSTILL (R331): v ≤ V_STILL for 10 ms continuously. -/
def execSs1rStandstill (f : Fin 8) (s : State) : Res :=
  whenUp s (fun s =>
    let x := s.safFn f
    let still := match x.stillSince with | some t => decide (t + ticksMs 10 ≤ s.mer.raw) | none => false
    if !s.safActive || (s.fnRec f).type ≠ 3 || x.state ≠ 3 || !still then s else (s.stopFn f 1).safDrive)

/-- RAMP_TIMEOUT (R331): at t0 + T_MAX. -/
def execRampTimeout (f : Fin 8) (s : State) : Res :=
  whenUp s (fun s =>
    let r := s.fnRec f
    let x := s.safFn f
    if !s.safActive || r.type ≠ 3 || x.state ≠ 3 || s.mer.raw < x.t0Raw + ticksMs r.tMax then s
    else (s.stopFn f 2).safDrive)

/-! ## Resets (R333) -/

/-- Clear the latches of a channel and its pair whose cause has ceased. -/
def State.clearChan (s : State) (n : Nat) : State :=
  let q := n / 2
  let m := (s.inRec q).mode
  let one (s : State) (k : Nat) : State :=
    let s := if (s.safCh k).missRun = 0 then s.updSafCh k (fun c => { c with pulseMissing := false }) else s
    if s.sourceOff k then { s with saf := { s.saf with sources := s.saf.sources.filter (· != s.safMode k - 1) } } else s
  if m = 0 then one s n
  else
    let s := one (one s (2 * q)) (2 * q + 1)
    if pairAgree m (s.safCh (2 * q)).on (s.safCh (2 * q + 1)).on then
      { s with saf := { s.saf with disc := s.saf.disc.filter (· != q) } }
    else s

/-- Clear an axis's latches whose cause has ceased. -/
def State.clearAxis (s : State) (a : Nat) : State :=
  s.updSafAxis a (fun x =>
    let l := x.live
    let x := { x with phase := x.phase && bitOf l 0, freq := x.freq && bitOf l 1, wire := x.wire && bitOf l 2,
                      disc := x.disc && bitOf l 3 }
    { x with bad := axisBits x != 0 })

/-- Clear an output pair's latches that a reset clears (Table 12-7): SHORT and OVERLOAD with the pair off, EDM-FAULT with
Ep ON, SWITCH-OPEN after a passing light test. -/
def State.clearPair (s : State) (p : Nat) : State :=
  let x := s.safPair p
  let s := s.updSafPair p (fun x =>
    { x with short := false, overload := false, edmFault := x.edmFault && !x.edmOn,
             edmReady := if x.edmFault && x.edmOn then true else x.edmReady,
             openH := x.openH && !x.passH, openL := x.openL && !x.passL })
  if (x.openH || x.openL) && !(s.safPair p).openH && !(s.safPair p).openL then s.closeFault fnSafety 0x8031 p else s

/-- The effect of a valid edge on one function. -/
def State.resetFn (s : State) (f : Nat) : State :=
  let s := (s.demandChans f).foldl State.clearChan s
  let s := if s.usesAxis f then s.clearAxis (s.fnRec f).axis else s
  let s := (s.fnPairs f).foldl State.clearPair s
  let s := s.updSafFn f (fun x => { x with envelope := false })
  if s.liveDemand f || s.faultDemand f then s
  else if (s.safFn f).state ≤ 1 then (s.updSafFn f (fun x => { x with demand := false })).setFn f 2 else s

/-- A channel's evaluated state falls (R317, R328): pairs and functions follow in the same sample. Where the channel resets
functions, the edge resets those without a live demand if the channel was ON for 100 ms to 2 s; any other press is discarded
and counted (R333). A demand of the same sample stands against the reset (R332). -/
def State.fallingEdge (s : State) (ch : Nat) : State :=
  let held := s.mer.raw - (s.safCh ch).onAt
  let fit := decide (ticksMs 100 ≤ held) && decide (held ≤ ticksMs 2000)
  let fs := if s.safOn ch then (upto 8).filter (fun f => (s.fnRec f).type != 0 && (s.fnRec f).resetCh == ch) else []
  let s := s.updSafCh ch (fun c => { c with on := false, raw := false, missRun := 0 })
  let s := (s.noteDisagree ch).safEval
  if fs.isEmpty then s
  else
    let s : State := { s with saf := { s.saf with edges := setBit s.saf.edges ch true } }
    let ok := if fit then fs.filter (fun f => !s.liveDemand f) else []
    if ok.isEmpty then
      ({ s with saf := { s.saf with resetsDiscarded := (s.saf.resetsDiscarded + 1) % 2 ^ 32 } } : State).evRep 0x8013 fnSafety [ch]
    else
      let s := ok.foldl State.resetFn s
      let s : State := { s with saf := { s.saf with resets := (s.saf.resets + 1) % 2 ^ 32 } }
      ((s.evS 0x8012 fnSafety [ch]).safPend 2).safEval

/-- SAFETY_INPUT_OFF (R317, R328): the channel meets its OFF count. -/
def execSafetyInputOff (ch : Fin 12) (s : State) : Res :=
  whenUp s (fun s => if !s.safUsed ch || !(s.safCh ch).on then s else s.fallingEdge ch)

/-- SAFETY_RESET_EDGE (R333): a falling edge on a reset channel. -/
def execSafetyResetEdge (ch : Fin 12) (s : State) : Res :=
  whenUp s (fun s => if !s.safUsed ch || !(s.safCh ch).on then s else s.fallingEdge ch)

/-! ## Output pairs -/

/-- SAFETY_OUTPUT_TEST (R323, Table 12-3): a dark test of an energised pair, a light test of one that is off, the switches
taking turns; a cross-short is seen on the pairs not under test. -/
def execSafetyOutputTest (p : Fin 4) (found : TestFind) (s : State) : Res :=
  whenUp s (fun s =>
    let x := s.safPair p
    if !s.safActive || !s.safHolder || (x.lastTest ≠ 0 && s.mer.raw < x.lastTest + ticksMs (s.outRec p).testInterval && !x.testLow) then s else
    let low := x.testLow
    let s := s.updSafPair p (fun x => { x with testLow := !low, lastTest := if low then x.lastTest else s.mer.raw })
    let s :=
      if found.followed then
        if x.energised then s
        else s.updSafPair p (fun x => if low then { x with passL := true } else { x with passH := true })
      else if x.energised then
        let s := s.updSafPair p (fun x => if low then { x with stuckL := true } else { x with stuckH := true })
        s.dieSafe 0x8030 p [p]
      else
        let s := s.updSafPair p (fun x => if low then { x with openL := true, passL := false } else { x with openH := true, passH := false })
        ((s.fault fnSafety 0x8031 p 2 [p, low.toNat]).safPend 1).safEval
    s.each (found.moved.filter (· != p)) (fun s q =>
      (s.updSafPair q (fun x => { x with xshort := true })).dieSafe 0x8030 q [q]))

/-- OUTPUT-SHORT and OUTPUT-OVERLOAD turn the pair off and latch (R323); event 0x8032 names the kind, 0 or 1. -/
def State.safTrip (s : State) (p : Nat) (kind : Nat) : State :=
  if s.safActive && (s.safPair p).energised then
    let s := s.updSafPair p (fun x => if kind = 0 then { x with short := true } else { x with overload := true })
    ((s.evRep 0x8032 fnSafety [p, kind]).safPend 1).safEval
  else s

/-- SAFETY_OUTPUT_SHORT (R323): above 4 A for 50 µs. -/
def execSafetyOutputShort (p : Fin 4) (s : State) : Res := whenUp s (fun s => s.safTrip p 0)

/-- SAFETY_OUTPUT_OVERLOAD (R323): above 2.4 A for 10 ms. -/
def execSafetyOutputOverload (p : Fin 4) (s : State) : Res := whenUp s (fun s => s.safTrip p 1)

/-- EDM_TIMEOUT (R324): Ep has not followed the pair within EDM_T, or is ON while the pair is energised. -/
def execEdmTimeout (p : Fin 4) (s : State) : Res :=
  whenUp s (fun s =>
    let r := s.outRec p
    let x := s.safPair p
    let due := match x.edmWait with | some t => decide (t + ticksMs r.edmT ≤ s.mer.raw) | none => x.energised
    if !s.safActive || r.edmInput = 0xFF || x.edmFault || !due then s else
    let s := s.updSafPair p (fun x => { x with edmFault := true, edmOn := x.energised, edmWait := none })
    ((s.evS 0x8034 fnSafety [p]).safPend 1).safEval)

/-- EP_ON_FOR_10_MS (R324): the de-energised pair becomes enableable. -/
def execEpOnFor10Ms (p : Fin 4) (s : State) : Res :=
  whenUp s (fun s =>
    if !s.safActive || (s.outRec p).edmInput = 0xFF || (s.safPair p).energised then s else
    (s.updSafPair p (fun x => { x with edmOn := true, edmReady := true, edmWait := none })).safEval)

/-- NON_HOLDER_CONDUCTING (R335): on a non-holder, while the staged enable is 0. -/
def execNonHolderConducting (p : Fin 4) (s : State) : Res :=
  whenUp s (fun s =>
    let x := s.safPair p
    if !s.safActive || !s.pairMember || s.red.holds || x.stagedEnable || x.nhCond then s else
    let s := s.updSafPair p (fun x => { x with nhCond := true })
    (((s.fault fnSafety 0x8035 p 2 [p]).safPend 1).notReady).safEval)

/-- SAFETY_ENABLE_STAGE_SEND (R335): the duty sends each pair's enable to the partner every 1 ms and at each change. -/
def execSafetyEnableStageSend (s : State) : Res :=
  whenUp s (fun s =>
    if !s.safActive || !s.pairMember || !s.red.holds then s else
    let en (p : Nat) : Bool := s.dieEnable p
    let changed := (upto 4).any (fun p => en p != (s.safPair p).lastSent)
    if !changed && decide (s.mer.raw < s.saf.lastEnableSend + ticksMs 1) then s else
    let s := s.each (upto 4) (fun s p => s.send (.copy 4 (0x500 + p) s.now [(en p).toNat]))
    let s := s.each (upto 4) (fun s p => s.updSafPair p (fun x => { x with lastSent := s.dieEnable p }))
    { s with saf := { s.saf with lastEnableSend := s.mer.raw } })

/-- SAFETY_STATE_MISMATCH (R336): function states that differ from the duty's staged enables for 100 ms. -/
def execSafetyStateMismatch (s : State) : Res :=
  whenUp s (fun s =>
    if !s.safActive || !s.pairMember || s.red.holds then s else
    match s.saf.mismatchSince with
    | some t => if t + ticksMs 100 ≤ s.mer.raw && s.red.ready then (s.notReady).fault 0 0x500A 0xFFFF 1 [0xFFFF] else s
    | none => s)

end Sys2Proof.Machine
end

