-- ==== Sys2Proof/Machine/Dispatch.lean ====
section
/-!
DEFINITION. The meaning of each command: one arm per constructor.
-/
namespace Sys2Proof.Machine

/-- The effect of a command on everything but the queue. -/
def exec (i : Instr) (s : State) : Host.Outcome State Fault Refusal :=
  match i with
  | .supplyReaches18v ina inb capMv => Sys2Proof.Machine.execSupplyReaches18v ina inb capMv s
  | .resetRelease fuses found => Sys2Proof.Machine.execResetRelease fuses found s
  | .modeRestore found => Sys2Proof.Machine.execModeRestore found s
  | .autostartConditionMet => Sys2Proof.Machine.execAutostartConditionMet s
  | .modeRequestBlank who => Sys2Proof.Machine.execModeRequestBlank who s
  | .modeRequestStop who => Sys2Proof.Machine.execModeRequestStop who s
  | .modeRequestRun who => Sys2Proof.Machine.execModeRequestRun who s
  | .modeRequestHold who => Sys2Proof.Machine.execModeRequestHold who s
  | .modeRequestResume who => Sys2Proof.Machine.execModeRequestResume who s
  | .modeRequestService who => Sys2Proof.Machine.execModeRequestService who s
  | .modeRequestWitness who => Sys2Proof.Machine.execModeRequestWitness who s
  | .safeDemand who => Sys2Proof.Machine.execSafeDemand who s
  | .safeToStopBoundary => Sys2Proof.Machine.execSafeToStopBoundary s
  | .breakpointHit task addr => Sys2Proof.Machine.execBreakpointHit task addr s
  | .holdLimitExpired => Sys2Proof.Machine.execHoldLimitExpired s
  | .warmReset who value => Sys2Proof.Machine.execWarmReset who value s
  | .powerCycleRequest who value => Sys2Proof.Machine.execPowerCycleRequest who value s
  | .powerCycleTimeout => Sys2Proof.Machine.execPowerCycleTimeout s
  | .pcrqGo agent => Sys2Proof.Machine.execPcrqGo agent s
  | .reinitialiseFunction who code => Sys2Proof.Machine.execReinitialiseFunction who code s
  | .lifecycleToOpen who => Sys2Proof.Machine.execLifecycleToOpen who s
  | .lifecycleToSealed who => Sys2Proof.Machine.execLifecycleToSealed who s
  | .lifecycleToRetired who => Sys2Proof.Machine.execLifecycleToRetired who s
  | .configCommitContainer who body => Sys2Proof.Machine.execConfigCommitContainer who body s
  | .configCommitElements who => Sys2Proof.Machine.execConfigCommitElements who s
  | .firmwareInstall who slot found => Sys2Proof.Machine.execFirmwareInstall who slot found s
  | .firmwareSlotSelect who slot => Sys2Proof.Machine.execFirmwareSlotSelect who slot s
  | .checkpointTaskEnd core run outs evals => Sys2Proof.Machine.execCheckpointTaskEnd core run outs evals s
  | .checkpointCommit core run outs evals => Sys2Proof.Machine.execCheckpointCommit core run outs evals s
  | .checkpointOutputRelease core run outs evals => Sys2Proof.Machine.execCheckpointOutputRelease core run outs evals s
  | .checkpointInstructionCount core run outs evals => Sys2Proof.Machine.execCheckpointInstructionCount core run outs evals s
  | .checkpointWriteSetFull core run outs evals => Sys2Proof.Machine.execCheckpointWriteSetFull core run outs evals s
  | .checkpointReadSetFull core run outs evals => Sys2Proof.Machine.execCheckpointReadSetFull core run outs evals s
  | .checkpointCsrIllegal core run value pc bits user => Sys2Proof.Machine.execCheckpointCsrIllegal core run value pc bits user s
  | .voterCommitEnd => Sys2Proof.Machine.execVoterCommitEnd s
  | .skewLimitExpired => Sys2Proof.Machine.execSkewLimitExpired s
  | .rebuildCopyEnd => Sys2Proof.Machine.execRebuildCopyEnd s
  | .sharedRead core run addr width pc user => Sys2Proof.Machine.execSharedRead core run addr width pc user s
  | .sharedStore core run addr width data pc user => Sys2Proof.Machine.execSharedStore core run addr width data pc user s
  | .sharedAmoFault core run addr pc user => Sys2Proof.Machine.execSharedAmoFault core run addr pc user s
  | .interruptDeliveryPoint core run => Sys2Proof.Machine.execInterruptDeliveryPoint core run s
  | .wfi core run => Sys2Proof.Machine.execWfi core run s
  | .queueItemCheck queue bytes => Sys2Proof.Machine.execQueueItemCheck queue bytes s
  | .ccHeartbeatTimeout cc => Sys2Proof.Machine.execCcHeartbeatTimeout cc s
  | .faultInjection who core => Sys2Proof.Machine.execFaultInjection who core s
  | .triInject agent value => Sys2Proof.Machine.execTriInject agent value s
  | .ptpSyncReceived head origin logInterval => Sys2Proof.Machine.execPtpSyncReceived head origin logInterval s
  | .ptpFollowUpReceived head origin => Sys2Proof.Machine.execPtpFollowUpReceived head origin s
  | .ptpDelayResponseReceived head peer ta tb => Sys2Proof.Machine.execPtpDelayResponseReceived head peer ta tb s
  | .ptpAnnounceReceived head ann => Sys2Proof.Machine.execPtpAnnounceReceived head ann s
  | .untrustedSourceExpiry source => Sys2Proof.Machine.execUntrustedSourceExpiry source s
  | .syncTimeout => Sys2Proof.Machine.execSyncTimeout s
  | .announceReceiptTimeout => Sys2Proof.Machine.execAnnounceReceiptTimeout s
  | .holdoverLimitExceeded => Sys2Proof.Machine.execHoldoverLimitExceeded s
  | .meridianStep => Sys2Proof.Machine.execMeridianStep s
  | .stepOnBreakCommand who => Sys2Proof.Machine.execStepOnBreakCommand who s
  | .merStepGo agent => Sys2Proof.Machine.execMerStepGo agent s
  | .merCapture agent => Sys2Proof.Machine.execMerCapture agent s
  | .merLowReadLatch agent reg => Sys2Proof.Machine.execMerLowReadLatch agent reg s
  | .ringSyncSend => Sys2Proof.Machine.execRingSyncSend s
  | .operatingSecondWrite => Sys2Proof.Machine.execOperatingSecondWrite s
  | .waypointSlotWrite who slot rec => Sys2Proof.Machine.execWaypointSlotWrite who slot rec s
  | .wptLoad agent => Sys2Proof.Machine.execWptLoad agent s
  | .wptArm agent => Sys2Proof.Machine.execWptArm agent s
  | .waypointStaging slot => Sys2Proof.Machine.execWaypointStaging slot s
  | .waypointFire => Sys2Proof.Machine.execWaypointFire s
  | .inputImageFreeze task => Sys2Proof.Machine.execInputImageFreeze task s
  | .taskCommitDeadlineMissed task => Sys2Proof.Machine.execTaskCommitDeadlineMissed task s
  | .outputStageRelease task => Sys2Proof.Machine.execOutputStageRelease task s
  | .singleValueWrite who ea value => Sys2Proof.Machine.execSingleValueWrite who ea value s
  | .constantsBatchCommit who => Sys2Proof.Machine.execConstantsBatchCommit who s
  | .containerLoad who prog => Sys2Proof.Machine.execContainerLoad who prog s
  | .ringCollectDeadline owner => Sys2Proof.Machine.execRingCollectDeadline owner s
  | .ringAckCheck owner => Sys2Proof.Machine.execRingAckCheck owner s
  | .loopGroupQueued g => Sys2Proof.Machine.execLoopGroupQueued g s
  | .loopEvaluation slot laneNs => Sys2Proof.Machine.execLoopEvaluation slot laneNs s
  | .loopGroupStaged g => Sys2Proof.Machine.execLoopGroupStaged g s
  | .loopOutputRelease g => Sys2Proof.Machine.execLoopOutputRelease g s
  | .loopSampleMissed g => Sys2Proof.Machine.execLoopSampleMissed g s
  | .loopModeRequest who slot req => Sys2Proof.Machine.execLoopModeRequest who slot req s
  | .loopOnlineChange who slot elem value => Sys2Proof.Machine.execLoopOnlineChange who slot elem value s
  | .clearObservedMaxima who => Sys2Proof.Machine.execClearObservedMaxima who s
  | .cenClrMax agent => Sys2Proof.Machine.execCenClrMax agent s
  | .contourTableCommit who t => Sys2Proof.Machine.execContourTableCommit who t s
  | .contourTableApply t => Sys2Proof.Machine.execContourTableApply t s
  | .contourCommitTimeout t => Sys2Proof.Machine.execContourCommitTimeout t s
  | .soundingAcknowledgement who slot => Sys2Proof.Machine.execSoundingAcknowledgement who slot s
  | .claimRenewalSend => Sys2Proof.Machine.execClaimRenewalSend s
  | .redPermitRefresh agent value => Sys2Proof.Machine.execRedPermitRefresh agent value s
  | .renewalPermitLapse => Sys2Proof.Machine.execRenewalPermitLapse s
  | .stageClaimReceived m => Sys2Proof.Machine.execStageClaimReceived m s
  | .stageOutputValueReceived claim latch release outs => Sys2Proof.Machine.execStageOutputValueReceived claim latch release outs s
  | .ownRenewalTimeout => Sys2Proof.Machine.execOwnRenewalTimeout s
  | .witnessRenewReceived m => Sys2Proof.Machine.execWitnessRenewReceived m s
  | .partnerRenewReceived m => Sys2Proof.Machine.execPartnerRenewReceived m s
  | .claimSuspension => Sys2Proof.Machine.execClaimSuspension s
  | .echoReceived m => Sys2Proof.Machine.execEchoReceived m s
  | .ackReceived m => Sys2Proof.Machine.execAckReceived m s
  | .higherClaimObserved m => Sys2Proof.Machine.execHigherClaimObserved m s
  | .standbySilenceDetected => Sys2Proof.Machine.execStandbySilenceDetected s
  | .claimRequestRepeat => Sys2Proof.Machine.execClaimRequestRepeat s
  | .witnessRequestReceived m => Sys2Proof.Machine.execWitnessRequestReceived m s
  | .witnessYieldReceived m => Sys2Proof.Machine.execWitnessYieldReceived m s
  | .endorseReceived m => Sys2Proof.Machine.execEndorseReceived m s
  | .refuseReceived m => Sys2Proof.Machine.execRefuseReceived m s
  | .witnessStartingWatchEnd idx => Sys2Proof.Machine.execWitnessStartingWatchEnd idx s
  | .witnessSilenceNoRequest idx => Sys2Proof.Machine.execWitnessSilenceNoRequest idx s
  | .witnessLost => Sys2Proof.Machine.execWitnessLost s
  | .claimNumberReset who idx => Sys2Proof.Machine.execClaimNumberReset who idx s
  | .copyUnitReceived seq unit bytes => Sys2Proof.Machine.execCopyUnitReceived seq unit bytes s
  | .copyEndReceived seq count crc set outs evals => Sys2Proof.Machine.execCopyEndReceived seq count crc set outs evals s
  | .stageUnitReceived chan value latch release => Sys2Proof.Machine.execStageUnitReceived chan value latch release s
  | .changeUnitReceived ea value at_ => Sys2Proof.Machine.execChangeUnitReceived ea value at_ s
  | .modeUnitReceived mode at_ => Sys2Proof.Machine.execModeUnitReceived mode at_ s
  | .plannedTransfer who => Sys2Proof.Machine.execPlannedTransfer who s
  | .transferEndorseDeadline => Sys2Proof.Machine.execTransferEndorseDeadline s
  | .claimEffectiveInstant => Sys2Proof.Machine.execClaimEffectiveInstant s
  | .resyncPass written => Sys2Proof.Machine.execResyncPass written s
  | .resyncNoConvergence => Sys2Proof.Machine.execResyncNoConvergence s
  | .resyncRestart => Sys2Proof.Machine.execResyncRestart s
  | .swapStartShadow who prog => Sys2Proof.Machine.execSwapStartShadow who prog s
  | .swapMapping => Sys2Proof.Machine.execSwapMapping s
  | .swapExecute who => Sys2Proof.Machine.execSwapExecute who s
  | .swapAbort who => Sys2Proof.Machine.execSwapAbort who s
  | .safetyStateMismatch => Sys2Proof.Machine.execSafetyStateMismatch s
  | .legendOpen src msg => Sys2Proof.Machine.execLegendOpen src msg s
  | .legendProve src msg => Sys2Proof.Machine.execLegendProve src msg s
  | .legendClose src msg => Sys2Proof.Machine.execLegendClose src msg s
  | .legendChallenge src msg => Sys2Proof.Machine.execLegendChallenge src msg s
  | .legendRead src msg => Sys2Proof.Machine.execLegendRead src msg s
  | .legendWrite src msg dec => Sys2Proof.Machine.execLegendWrite src msg dec s
  | .legendSegRead src msg => Sys2Proof.Machine.execLegendSegRead src msg s
  | .legendSegWrite src msg => Sys2Proof.Machine.execLegendSegWrite src msg s
  | .legendBrowse src msg => Sys2Proof.Machine.execLegendBrowse src msg s
  | .surveyRead src msg => Sys2Proof.Machine.execSurveyRead src msg s
  | .surveyWrite src msg => Sys2Proof.Machine.execSurveyWrite src msg s
  | .surveyFind src msg => Sys2Proof.Machine.execSurveyFind src msg s
  | .directory src msg => Sys2Proof.Machine.execDirectory src msg s
  | .legendMessageMalformed src msg => Sys2Proof.Machine.execLegendMessageMalformed src msg s
  | .legendCanSegment ctrl pair bytes dec => Sys2Proof.Machine.execLegendCanSegment ctrl pair bytes dec s
  | .legendCanReassemblyTimeout ctrl pair => Sys2Proof.Machine.execLegendCanReassemblyTimeout ctrl pair s
  | .sessionProofTimeout slot => Sys2Proof.Machine.execSessionProofTimeout slot s
  | .sessionIdleExpiry slot => Sys2Proof.Machine.execSessionIdleExpiry slot s
  | .nonceExpiry slot => Sys2Proof.Machine.execNonceExpiry slot s
  | .forwardedRequestReceived idx msg dec => Sys2Proof.Machine.execForwardedRequestReceived idx msg dec s
  | .forwardedAnswerReceived idx msg => Sys2Proof.Machine.execForwardedAnswerReceived idx msg s
  | .forwardTimeout id => Sys2Proof.Machine.execForwardTimeout id s
  | .atomicReadInstant id => Sys2Proof.Machine.execAtomicReadInstant id s
  | .directoryHeartbeatSend => Sys2Proof.Machine.execDirectoryHeartbeatSend s
  | .directoryHeartbeatReceived idx beat => Sys2Proof.Machine.execDirectoryHeartbeatReceived idx beat s
  | .directoryModuleAbsent idx => Sys2Proof.Machine.execDirectoryModuleAbsent idx s
  | .heartbeatAckReceived idx => Sys2Proof.Machine.execHeartbeatAckReceived idx s
  | .datumLost => Sys2Proof.Machine.execDatumLost s
  | .serviceActivation v exception => Sys2Proof.Machine.execServiceActivation v exception s
  | .stagingBufferClear who => Sys2Proof.Machine.execStagingBufferClear who s
  | .surveyAgeSweep n => Sys2Proof.Machine.execSurveyAgeSweep n s
  | .groupSupplyMeasure g mv => Sys2Proof.Machine.execGroupSupplyMeasure g mv s
  | .sectionRefreshLoss sec => Sys2Proof.Machine.execSectionRefreshLoss sec s
  | .dieLinkLost sec => Sys2Proof.Machine.execDieLinkLost sec s
  | .rawInputEdge ch level => Sys2Proof.Machine.execRawInputEdge ch level s
  | .debounceAccept ch => Sys2Proof.Machine.execDebounceAccept ch s
  | .chatterClear ch => Sys2Proof.Machine.execChatterClear ch s
  | .counterOverrangeClear ch => Sys2Proof.Machine.execCounterOverrangeClear ch s
  | .counterClear who ch => Sys2Proof.Machine.execCounterClear who ch s
  | .openWire ch openWire => Sys2Proof.Machine.execOpenWire ch openWire s
  | .stuckActive ch => Sys2Proof.Machine.execStuckActive ch s
  | .outputShort ch => Sys2Proof.Machine.execOutputShort ch s
  | .outputOverload ch => Sys2Proof.Machine.execOutputOverload ch s
  | .outputRetry ch good => Sys2Proof.Machine.execOutputRetry ch good s
  | .noDrive ch present => Sys2Proof.Machine.execNoDrive ch present s
  | .openLoad ch present => Sys2Proof.Machine.execOpenLoad ch present s
  | .share ch present => Sys2Proof.Machine.execShare ch present s
  | .readbackHighWhileOff pair n onset => Sys2Proof.Machine.execReadbackHighWhileOff pair n onset s
  | .wiredTogetherRecheck ch high => Sys2Proof.Machine.execWiredTogetherRecheck ch high s
  | .externalDriveClear pair n => Sys2Proof.Machine.execExternalDriveClear pair n s
  | .channelUnlatch who ch => Sys2Proof.Machine.execChannelUnlatch who ch s
  | .dioUnlatch agent mask => Sys2Proof.Machine.execDioUnlatch agent mask s
  | .patternStep => Sys2Proof.Machine.execPatternStep s
  | .aiConversionResult ch code => Sys2Proof.Machine.execAiConversionResult ch code s
  | .aiOvercurrent ch => Sys2Proof.Machine.execAiOvercurrent ch s
  | .aiLimiterRetest ch code => Sys2Proof.Machine.execAiLimiterRetest ch code s
  | .aoComplianceMonitor ch headMv => Sys2Proof.Machine.execAoComplianceMonitor ch headMv s
  | .aoReadbackCheck ch code => Sys2Proof.Machine.execAoReadbackCheck ch code s
  | .trimWrite who ch z k => Sys2Proof.Machine.execTrimWrite who ch z k s
  | .trimPoint4ma who ch entered => Sys2Proof.Machine.execTrimPoint4ma who ch entered s
  | .trimPoint20ma who ch entered => Sys2Proof.Machine.execTrimPoint20ma who ch entered s
  | .trimApply who ch => Sys2Proof.Machine.execTrimApply who ch s
  | .faceplateTrimTimeout => Sys2Proof.Machine.execFaceplateTrimTimeout s
  | .hartTransactionDue master => Sys2Proof.Machine.execHartTransactionDue master s
  | .hartResponseReceived master reply => Sys2Proof.Machine.execHartResponseReceived master reply s
  | .hartResponseTimeout master => Sys2Proof.Machine.execHartResponseTimeout master s
  | .hartBurstReceived loop reply => Sys2Proof.Machine.execHartBurstReceived loop reply s
  | .hartVariableStale master slot => Sys2Proof.Machine.execHartVariableStale master slot s
  | .hartPassThrough who master loop command data => Sys2Proof.Machine.execHartPassThrough who master loop command data s
  | .safetyStatusFrame => Sys2Proof.Machine.execSafetyStatusFrame s
  | .safetyCheck => Sys2Proof.Machine.execSafetyCheck s
  | .safetyCheckFrameReceived frame => Sys2Proof.Machine.execSafetyCheckFrameReceived frame s
  | .safetyChannelTimeout => Sys2Proof.Machine.execSafetyChannelTimeout s
  | .testPulseFrame => Sys2Proof.Machine.execTestPulseFrame s
  | .safetyInputOff ch => Sys2Proof.Machine.execSafetyInputOff ch s
  | .safetyInputOn ch => Sys2Proof.Machine.execSafetyInputOn ch s
  | .pulseMissing ch => Sys2Proof.Machine.execPulseMissing ch s
  | .discrepancy q => Sys2Proof.Machine.execDiscrepancy q s
  | .sourceShort src => Sys2Proof.Machine.execSourceShort src s
  | .speedUpdate a0 a1 => Sys2Proof.Machine.execSpeedUpdate a0 a1 s
  | .ss1tStopExpiry f => Sys2Proof.Machine.execSs1tStopExpiry f s
  | .ss1rStandstill f => Sys2Proof.Machine.execSs1rStandstill f s
  | .rampTimeout f => Sys2Proof.Machine.execRampTimeout f s
  | .safetyResetEdge ch => Sys2Proof.Machine.execSafetyResetEdge ch s
  | .safetyOutputTest p found => Sys2Proof.Machine.execSafetyOutputTest p found s
  | .safetyOutputShort p => Sys2Proof.Machine.execSafetyOutputShort p s
  | .safetyOutputOverload p => Sys2Proof.Machine.execSafetyOutputOverload p s
  | .edmTimeout p => Sys2Proof.Machine.execEdmTimeout p s
  | .nonHolderConducting p => Sys2Proof.Machine.execNonHolderConducting p s
  | .safetySetLoad who set => Sys2Proof.Machine.execSafetySetLoad who set s
  | .safetySetConfirm who crc partner => Sys2Proof.Machine.execSafetySetConfirm who crc partner s
  | .safetySetPendingExpiry => Sys2Proof.Machine.execSafetySetPendingExpiry s
  | .canTxComplete c obj => Sys2Proof.Machine.execCanTxComplete c obj s
  | .canTxError c obj => Sys2Proof.Machine.execCanTxError c obj s
  | .canObjectExpired c obj => Sys2Proof.Machine.execCanObjectExpired c obj s
  | .canFrameReceived c frame dec => Sys2Proof.Machine.execCanFrameReceived c frame dec s
  | .canReceiveTimeout c obj => Sys2Proof.Machine.execCanReceiveTimeout c obj s
  | .canErrorDetected c err data transmitter => Sys2Proof.Machine.execCanErrorDetected c err data transmitter s
  | .canBusOffRecovery c => Sys2Proof.Machine.execCanBusOffRecovery c s
  | .canErrorEpisodeEnd c => Sys2Proof.Machine.execCanErrorEpisodeEnd c s
  | .portLinkDown p => Sys2Proof.Machine.execPortLinkDown p s
  | .portLinkUp p => Sys2Proof.Machine.execPortLinkUp p s
  | .plantFrameReceived p frame => Sys2Proof.Machine.execPlantFrameReceived p frame s
  | .prpSupervisionSend => Sys2Proof.Machine.execPrpSupervisionSend s
  | .ringFrameReceived p frame => Sys2Proof.Machine.execRingFrameReceived p frame s
  | .tieBlockReceived lane bytes dec => Sys2Proof.Machine.execTieBlockReceived lane bytes dec s
  | .tieLaneDown lane => Sys2Proof.Machine.execTieLaneDown lane s
  | .tieLaneUp lane => Sys2Proof.Machine.execTieLaneUp lane s
  | .eventOffer o => Sys2Proof.Machine.execEventOffer o s
  | .eventRecordWrite => Sys2Proof.Machine.execEventRecordWrite s
  | .mergeFlush => Sys2Proof.Machine.execMergeFlush s
  | .recorderClear who => Sys2Proof.Machine.execRecorderClear who s
  | .recorderZeroingDone => Sys2Proof.Machine.execRecorderZeroingDone s
  | .keyPress key long => Sys2Proof.Machine.execKeyPress key long s
  | .crtKeyRead agent => Sys2Proof.Machine.execCrtKeyRead agent s
  | .goFp agent => Sys2Proof.Machine.execGoFp agent s
  | .goExt agent => Sys2Proof.Machine.execGoExt agent s
  | .cartoucheUpdateEnd => Sys2Proof.Machine.execCartoucheUpdateEnd s
  | .reserveReady => Sys2Proof.Machine.execReserveReady s
  | .reserveExhausted => Sys2Proof.Machine.execReserveExhausted s
  | .cartoucheTempMeasure temp => Sys2Proof.Machine.execCartoucheTempMeasure temp s
  | .reserveCapacityTest mF => Sys2Proof.Machine.execReserveCapacityTest mF s
  | .pageRefresh => Sys2Proof.Machine.execPageRefresh s
  | .fullRedraw who => Sys2Proof.Machine.execFullRedraw who s
  | .clockSourceFailure src err => Sys2Proof.Machine.execClockSourceFailure src err s
  | .loopLockLost loopB => Sys2Proof.Machine.execLoopLockLost loopB s
  | .rootSwitchComplete lost dead xb rc clkin => Sys2Proof.Machine.execRootSwitchComplete lost dead xb rc clkin s
  | .rootReturnToLoopA => Sys2Proof.Machine.execRootReturnToLoopA s
  | .clockStartupWindowEnd src err => Sys2Proof.Machine.execClockStartupWindowEnd src err s
  | .clockStartupTimeout src => Sys2Proof.Machine.execClockStartupTimeout src s
  | .rcTrimStep step ref code => Sys2Proof.Machine.execRcTrimStep step ref code s
  | .eccScrub site uncorrectable => Sys2Proof.Machine.execEccScrub site uncorrectable s
  | .memOwnWrite agent k owner => Sys2Proof.Machine.execMemOwnWrite agent k owner s
  | .ownerTransferComplete k => Sys2Proof.Machine.execOwnerTransferComplete k s
  | .tamper cause => Sys2Proof.Machine.execTamper cause s
  | .supplyInputLost input mv => Sys2Proof.Machine.execSupplyInputLost input mv s
  | .supplyInputRestored input mv => Sys2Proof.Machine.execSupplyInputRestored input mv s
  | .supplyInputOvervoltage input mv => Sys2Proof.Machine.execSupplyInputOvervoltage input mv s
  | .supplyInputReconnect input mv => Sys2Proof.Machine.execSupplyInputReconnect input mv s
  | .pfail => Sys2Proof.Machine.execPfail s
  | .powerDownReset => Sys2Proof.Machine.execPowerDownReset s
  | .supplyReturnRestart ina inb => Sys2Proof.Machine.execSupplyReturnRestart ina inb s
  | .vcoreSetWrite agent code => Sys2Proof.Machine.execVcoreSetWrite agent code s
  | .moduleInserted => Sys2Proof.Machine.execModuleInserted s
  | .moduleRemoved => Sys2Proof.Machine.execModuleRemoved s
  | .registerWrite agent addr width value => Sys2Proof.Machine.execRegisterWrite agent addr width value s
  | .bitAliasWrite agent addr value => Sys2Proof.Machine.execBitAliasWrite agent addr value s
  | .snapshotGo agent => Sys2Proof.Machine.execSnapshotGo agent s
  | .snapshotCommand who instant => Sys2Proof.Machine.execSnapshotCommand who instant s
  | .snapshotTake => Sys2Proof.Machine.execSnapshotTake s
  | .snapshotCopyEnd => Sys2Proof.Machine.execSnapshotCopyEnd s
  | .tmrScrub upsets => Sys2Proof.Machine.execTmrScrub upsets s
  | .ptpDelayRequestSend p => Sys2Proof.Machine.execPtpDelayRequestSend p s
  | .plantMasterSyncSend p => Sys2Proof.Machine.execPlantMasterSyncSend p s
  | .loopRelock => Sys2Proof.Machine.execLoopRelock s
  | .epOnFor10Ms p => Sys2Proof.Machine.execEpOnFor10Ms p s
  | .dieSelfTestFault => Sys2Proof.Machine.execDieSelfTestFault s
  | .safetyEnableStageSend => Sys2Proof.Machine.execSafetyEnableStageSend s

end Sys2Proof.Machine
end

