-- ==== Sys2Proof/Machine/Tick.lean ====
section
/-!
DEFINITION. One period of the 400 MHz timebase, which passes when no command waits (R91, R112; log entry 6).
-/
namespace Sys2Proof.Machine

/-- Count powered time: a millisecond of operating time is 400,000 periods (R112). -/
def MeridianPart.opTick (m : MeridianPart) : MeridianPart :=
  if m.opTicks + 1 = 400000 then { m with opTicks := 0, opMs := m.opMs + 1 } else { m with opTicks := m.opTicks + 1 }

/-- One tick: the raw counter counts (R91), operating time goes on (R112), and values staged for an instant reach their
channels (R210, R212). -/
def tick (s : State) : State :=
  if s.mer.running then
    let s : State := { s with mer := { s.mer.opTick with raw := s.mer.raw + 1 } }
    if s.red.staged.isEmpty then s else s.applyPresets
  else s

end Sys2Proof.Machine
end

