-- ==== Sys2Proof/WellFormed.lean ====
section
/-!
DEFINITION. Which commands an agent of the station can send: their operands fit their rows. A command that is not well formed is
the only one that stops (Fault.illFormed).
-/
namespace Sys2Proof

/-- A client of the Legend server: no other module (R260 gives a module's messages their own rows). -/
def fromClient : Source_ → Bool
  | .udp _ _ => true
  | .can _ _ => true
  | .program => true
  | .peer _ => false

/-- A client's message of an operation of Table 09-6. -/
def clientOp (op : Nat) (src : Source_) (m : List Byte) : Bool := fromClient src && Machine.msgOp m == op

/-- The operands of a command fit its row. -/
def Instr.wf : Instr → Bool
  | .supplyReaches18v _ _ _ => true
  | .resetRelease _ _ => true
  | .modeRestore _ => true
  | .autostartConditionMet => true
  | .modeRequestBlank _ => true
  | .modeRequestStop _ => true
  | .modeRequestRun _ => true
  | .modeRequestHold _ => true
  | .modeRequestResume _ => true
  | .modeRequestService _ => true
  | .modeRequestWitness _ => true
  | .safeDemand _ => true
  | .safeToStopBoundary => true
  | .breakpointHit _ _ => true
  | .holdLimitExpired => true
  | .warmReset _ _ => true
  | .powerCycleRequest _ _ => true
  | .powerCycleTimeout => true
  | .pcrqGo _ => true
  | .reinitialiseFunction _ _ => true
  | .lifecycleToOpen _ => true
  | .lifecycleToSealed _ => true
  | .lifecycleToRetired _ => true
  | .configCommitContainer _ _ => true
  | .configCommitElements _ => true
  | .firmwareInstall _ _ _ => true
  | .firmwareSlotSelect _ _ => true
  | .checkpointTaskEnd _ run _ _ => Machine.runOk run
  | .checkpointCommit _ run _ _ => Machine.runOk run
  | .checkpointOutputRelease _ run _ _ => Machine.runOk run
  | .checkpointInstructionCount _ run _ _ => Machine.runOk run
  | .checkpointWriteSetFull _ run _ _ => Machine.runOk run
  | .checkpointReadSetFull _ run _ _ => Machine.runOk run
  | .checkpointCsrIllegal _ run value _ _ _ => decide (3 ≤ value) && decide (value ≤ 7) && Machine.runOk run
  | .voterCommitEnd => true
  | .skewLimitExpired => true
  | .rebuildCopyEnd => true
  | .sharedRead _ run addr w _ _ => !Machine.isPrivate addr (2 ^ w.val) && Machine.runOk run
  | .sharedStore _ run addr w _ _ _ => !Machine.isPrivate addr (2 ^ w.val) && Machine.runOk run
  | .sharedAmoFault _ run addr _ _ => !Machine.isPrivate addr 1 && Machine.runOk run
  | .interruptDeliveryPoint _ run => Machine.runOk run
  | .wfi _ run => Machine.runOk run
  | .queueItemCheck _ bytes => decide (16 ≤ bytes.length)
  | .ccHeartbeatTimeout _ => true
  | .faultInjection _ _ => true
  | .triInject _ _ => true
  | .ptpSyncReceived _ _ _ => true
  | .ptpFollowUpReceived _ _ => true
  | .ptpDelayResponseReceived _ _ _ _ => true
  | .ptpAnnounceReceived _ _ => true
  | .untrustedSourceExpiry _ => true
  | .syncTimeout => true
  | .announceReceiptTimeout => true
  | .holdoverLimitExceeded => true
  | .meridianStep => true
  | .stepOnBreakCommand _ => true
  | .merStepGo _ => true
  | .merCapture _ => true
  | .merLowReadLatch _ _ => true
  | .ringSyncSend => true
  | .operatingSecondWrite => true
  | .waypointSlotWrite _ _ _ => true
  | .wptLoad _ => true
  | .wptArm _ => true
  | .waypointStaging _ => true
  | .waypointFire => true
  | .inputImageFreeze _ => true
  | .taskCommitDeadlineMissed _ => true
  | .outputStageRelease _ => true
  | .singleValueWrite _ _ _ => true
  | .constantsBatchCommit _ => true
  | .containerLoad _ _ => true
  | .ringCollectDeadline _ => true
  | .ringAckCheck _ => true
  | .loopGroupQueued _ => true
  | .loopEvaluation _ _ => true
  | .loopGroupStaged _ => true
  | .loopOutputRelease _ => true
  | .loopSampleMissed _ => true
  | .loopModeRequest _ _ _ => true
  | .loopOnlineChange _ _ elem _ => decide (19 ≤ elem) && decide (elem ≤ 41)
  | .clearObservedMaxima _ => true
  | .cenClrMax _ => true
  | .contourTableCommit _ _ => true
  | .contourTableApply _ => true
  | .contourCommitTimeout _ => true
  | .soundingAcknowledgement _ _ => true
  | .claimRenewalSend => true
  | .redPermitRefresh _ _ => true
  | .renewalPermitLapse => true
  | .stageClaimReceived _ => true
  | .stageOutputValueReceived _ _ _ _ => true
  | .ownRenewalTimeout => true
  | .witnessRenewReceived _ => true
  | .partnerRenewReceived _ => true
  | .claimSuspension => true
  | .echoReceived _ => true
  | .ackReceived _ => true
  | .higherClaimObserved _ => true
  | .standbySilenceDetected => true
  | .claimRequestRepeat => true
  | .witnessRequestReceived _ => true
  | .witnessYieldReceived _ => true
  | .endorseReceived _ => true
  | .refuseReceived _ => true
  | .witnessStartingWatchEnd _ => true
  | .witnessSilenceNoRequest _ => true
  | .witnessLost => true
  | .claimNumberReset _ _ => true
  | .copyUnitReceived _ _ _ => true
  | .copyEndReceived _ _ _ _ _ _ => true
  | .stageUnitReceived _ _ _ _ => true
  | .changeUnitReceived _ _ _ => true
  | .modeUnitReceived _ _ => true
  | .plannedTransfer _ => true
  | .transferEndorseDeadline => true
  | .claimEffectiveInstant => true
  | .resyncPass _ => true
  | .resyncNoConvergence => true
  | .resyncRestart => true
  | .swapStartShadow _ _ => true
  | .swapMapping => true
  | .swapExecute _ => true
  | .swapAbort _ => true
  | .safetyStateMismatch => true
  | .legendOpen src m => clientOp 0x01 src m
  | .legendProve src m => clientOp 0x02 src m
  | .legendClose src m => clientOp 0x03 src m
  | .legendChallenge src m => clientOp 0x04 src m
  | .legendRead src m => clientOp 0x10 src m
  | .legendWrite src m _ => clientOp 0x11 src m
  | .legendSegRead src m => clientOp 0x12 src m
  | .legendSegWrite src m => clientOp 0x13 src m
  | .legendBrowse src m => clientOp 0x14 src m
  | .surveyRead src m => clientOp 0x20 src m
  | .surveyWrite src m => clientOp 0x21 src m
  | .surveyFind src m => clientOp 0x22 src m
  | .directory src m => clientOp 0x23 src m
  | .legendMessageMalformed src m => fromClient src && Machine.msgViolates m
  | .legendCanSegment _ _ bytes _ => decide (bytes.length ≤ 64)
  | .legendCanReassemblyTimeout _ _ => true
  | .sessionProofTimeout _ => true
  | .sessionIdleExpiry _ => true
  | .nonceExpiry _ => true
  | .forwardedRequestReceived idx m _ => Machine.byteAt m 17 == idx.val
  | .forwardedAnswerReceived _ _ => true
  | .forwardTimeout _ => true
  | .atomicReadInstant _ => true
  | .directoryHeartbeatSend => true
  | .directoryHeartbeatReceived _ _ => true
  | .directoryModuleAbsent _ => true
  | .heartbeatAckReceived _ => true
  | .datumLost => true
  | .serviceActivation _ _ => true
  | .stagingBufferClear _ => true
  | .surveyAgeSweep _ => true
  | .groupSupplyMeasure _ _ => true
  | .sectionRefreshLoss _ => true
  | .dieLinkLost _ => true
  | .rawInputEdge _ _ => true
  | .debounceAccept _ => true
  | .chatterClear _ => true
  | .counterOverrangeClear _ => true
  | .counterClear _ _ => true
  | .openWire _ _ => true
  | .stuckActive _ => true
  | .outputShort _ => true
  | .outputOverload _ => true
  | .outputRetry _ _ => true
  | .noDrive _ _ => true
  | .openLoad _ _ => true
  | .share _ _ => true
  | .readbackHighWhileOff pair n _ => !pair || decide (n.val < 4)
  | .wiredTogetherRecheck _ _ => true
  | .externalDriveClear pair n => !pair || decide (n.val < 4)
  | .channelUnlatch _ _ => true
  | .dioUnlatch _ _ => true
  | .patternStep => true
  | .aiConversionResult _ _ => true
  | .aiOvercurrent _ => true
  | .aiLimiterRetest _ _ => true
  | .aoComplianceMonitor _ _ => true
  | .aoReadbackCheck _ _ => true
  | .trimWrite _ _ _ _ => true
  | .trimPoint4ma _ _ _ => true
  | .trimPoint20ma _ _ _ => true
  | .trimApply _ _ => true
  | .faceplateTrimTimeout => true
  | .hartTransactionDue _ => true
  | .hartResponseReceived _ _ => true
  | .hartResponseTimeout _ => true
  | .hartBurstReceived _ _ => true
  | .hartVariableStale _ _ => true
  | .hartPassThrough _ _ _ _ _ => true
  | .safetyStatusFrame => true
  | .safetyCheck => true
  | .safetyCheckFrameReceived _ => true
  | .safetyChannelTimeout => true
  | .testPulseFrame => true
  | .safetyInputOff _ => true
  | .safetyInputOn _ => true
  | .pulseMissing _ => true
  | .discrepancy _ => true
  | .sourceShort _ => true
  | .speedUpdate _ _ => true
  | .ss1tStopExpiry _ => true
  | .ss1rStandstill _ => true
  | .rampTimeout _ => true
  | .safetyResetEdge _ => true
  | .safetyOutputTest _ _ => true
  | .safetyOutputShort _ => true
  | .safetyOutputOverload _ => true
  | .edmTimeout _ => true
  | .nonHolderConducting _ => true
  | .safetySetLoad _ _ => true
  | .safetySetConfirm _ _ _ => true
  | .safetySetPendingExpiry => true
  | .canTxComplete _ _ => true
  | .canTxError _ _ => true
  | .canObjectExpired _ _ => true
  | .canFrameReceived _ f _ => Machine.canFrameOk f
  | .canReceiveTimeout _ _ => true
  | .canErrorDetected _ _ _ _ => true
  | .canBusOffRecovery _ => true
  | .canErrorEpisodeEnd _ => true
  | .portLinkDown _ => true
  | .portLinkUp _ => true
  | .plantFrameReceived p _ => decide (p.val < 2)
  | .prpSupervisionSend => true
  | .ringFrameReceived p _ => decide (2 ≤ p.val)
  | .tieBlockReceived _ b _ => b.length == (8 + Machine.byteAt b 3 + 7) / 8 * 8 && decide (Machine.byteAt b 3 ≤ 120)
  | .tieLaneDown _ => true
  | .tieLaneUp _ => true
  | .eventOffer _ => true
  | .eventRecordWrite => true
  | .mergeFlush => true
  | .recorderClear _ => true
  | .recorderZeroingDone => true
  | .keyPress _ _ => true
  | .crtKeyRead _ => true
  | .goFp _ => true
  | .goExt _ => true
  | .cartoucheUpdateEnd => true
  | .reserveReady => true
  | .reserveExhausted => true
  | .cartoucheTempMeasure _ => true
  | .reserveCapacityTest _ => true
  | .pageRefresh => true
  | .fullRedraw _ => true
  | .clockSourceFailure _ _ => true
  | .loopLockLost _ => true
  | .rootSwitchComplete _ _ _ _ _ => true
  | .rootReturnToLoopA => true
  | .clockStartupWindowEnd _ _ => true
  | .clockStartupTimeout _ => true
  | .rcTrimStep _ _ _ => true
  | .eccScrub _ _ => true
  | .memOwnWrite _ _ _ => true
  | .ownerTransferComplete _ => true
  | .tamper _ => true
  | .supplyInputLost _ _ => true
  | .supplyInputRestored _ _ => true
  | .supplyInputOvervoltage _ _ => true
  | .supplyInputReconnect _ _ => true
  | .pfail => true
  | .powerDownReset => true
  | .supplyReturnRestart _ _ => true
  | .vcoreSetWrite _ _ => true
  | .moduleInserted => true
  | .moduleRemoved => true
  | .registerWrite _ addr _ _ => Machine.inFrames addr || Machine.inAlias addr
  | .bitAliasWrite _ addr _ => Machine.inAlias addr
  | .snapshotGo _ => true
  | .snapshotCommand _ _ => true
  | .snapshotTake => true
  | .snapshotCopyEnd => true
  | .tmrScrub _ => true
  | .ptpDelayRequestSend _ => true
  | .plantMasterSyncSend _ => true
  | .loopRelock => true
  | .epOnFor10Ms _ => true
  | .dieSelfTestFault => true
  | .safetyEnableStageSend => true

end Sys2Proof
end

