-- ==== Sys2Proof/Safety.lean ====
section
/-!
DEFINITION. The terms in which the statements speak: what a command does, which parts of the state it may change, who may ask,
and the invariants of a state.
-/
namespace Sys2Proof.Machine

/-- The command completes, and the state after it satisfies `P`. -/
def Does (c : Instr) (s : State) (P : State → Prop) : Prop := ∃ t, exec c s = .next t ∧ P t

/-- The fields of the state, but for the queue of waiting commands. -/
inductive Part where
  | freeCtr | mode | evr | sys | tri | mer | wpt | tsk | ring | cen | red | wit | net | leg | sur | dio | aio | saf | can | crt | clk
  | mem | pwr | elems | sent
deriving DecidableEq, Repr

/-- A field is the same in two states. -/
def Part.Same : Part → State → State → Prop
  | .freeCtr, s, t => t.freeCtr = s.freeCtr
  | .mode, s, t => t.mode = s.mode
  | .evr, s, t => t.evr = s.evr
  | .sys, s, t => t.sys = s.sys
  | .tri, s, t => t.tri = s.tri
  | .mer, s, t => t.mer = s.mer
  | .wpt, s, t => t.wpt = s.wpt
  | .tsk, s, t => t.tsk = s.tsk
  | .ring, s, t => t.ring = s.ring
  | .cen, s, t => t.cen = s.cen
  | .red, s, t => t.red = s.red
  | .wit, s, t => t.wit = s.wit
  | .net, s, t => t.net = s.net
  | .leg, s, t => t.leg = s.leg
  | .sur, s, t => t.sur = s.sur
  | .dio, s, t => t.dio = s.dio
  | .aio, s, t => t.aio = s.aio
  | .saf, s, t => t.saf = s.saf
  | .can, s, t => t.can = s.can
  | .crt, s, t => t.crt = s.crt
  | .clk, s, t => t.clk = s.clk
  | .mem, s, t => t.mem = s.mem
  | .pwr, s, t => t.pwr = s.pwr
  | .elems, s, t => t.elems = s.elems
  | .sent, s, t => t.sent = s.sent

/-- The frame of a command: the queue and every field outside the list are as before. -/
def OnlyIn (ps : List Part) (s t : State) : Prop := t.pending = s.pending ∧ ∀ p, p ∉ ps → p.Same s t

/-- Every byte of the on-chip banks, the DRAM and the MRAM reads as before. -/
def SameMemory (s t : State) : Prop := ∀ a, Memory.read t.mem.data a = Memory.read s.mem.data a

/-- A request reaches a running module that is not RETIRED, at the level it needs (R47, R243). -/
abbrev Asked (s : State) (who : Who) (level : Nat) : Prop :=
  s.up = true ∧ s.mode.lifeCycle ≠ .retired ∧ level ≤ who.level.val

/-- A mode request that nothing holds back: no transition is in progress and the module does not run its recovery image (R37, R41). -/
abbrev ModeAsked (s : State) (who : Who) (level : Nat) : Prop :=
  Asked s who level ∧ operator ≤ who.level.val ∧ s.inTransition = false ∧ s.recovery = false

/-- What a client's request answers: the last message sent is its status. -/
abbrev Answered (t : State) (st : Status) (detail : Nat) : Prop := t.sent.head? = some (.status st.code detail 0)

/-- The event is among those this command offered, where the staging queue never filled (R385). -/
abbrev Records (s t : State) (code : Nat) (args : List Nat) : Prop :=
  t.evr.staged.length < evrDepth → ∃ o ∈ t.evr.staged.drop s.evr.staged.length, o.code = code ∧ o.args = args

/-- The invariant of memory: its canonical form (addresses rise, nothing listed that reads as blank). -/
abbrev MemOk (s : State) : Prop := s.mem.data.wf = true

end Sys2Proof.Machine
end

