-- ==== Sys2Proof/Certificates/Slice0/Obligations.lean ====
section
/-!
DEFINITION. The statements for the provers: what each command does where it completes, what it leaves unchanged, and the
invariants of the block.
-/
open Sys2Proof Sys2Proof.Machine

namespace Sys2Proof.Machine

/-- An erasure, installation or commit that needs no token, or one whose token was taken for an earlier item of its request
(R46, R240). -/
abbrev Authorised (s : State) : Prop := s.sealed_ = false ∨ s.leg.grant.isSome = true

/-- Table 02-3, the requested transitions. -/
def requestable : Mode → Mode → Bool
  | .blank, .service | .stop, .run | .stop, .service | .stop, .blank | .stop, .safe | .run, .stop | .run, .hold | .run, .safe
  | .hold, .run | .hold, .stop | .hold, .safe | .standby, .stop | .standby, .safe | .witness, .service | .witness, .blank
  | .safe, .stop | .safe, .service | .service, .stop | .service, .blank | .service, .witness => true
  | _, _ => false

/-- The command that requests a mode. -/
def requestFor (who : Who) : Mode → Option Instr
  | .blank => some (.modeRequestBlank who)
  | .stop => some (.modeRequestStop who)
  | .run => some (.modeRequestRun who)
  | .hold => some (.modeRequestHold who)
  | .service => some (.modeRequestService who)
  | .witness => some (.modeRequestWitness who)
  | .safe => some (.safeDemand who)
  | .standby => none

/-- An address where a program's initial image stands in a core's private banks (Table 01-2, R146). -/
def imageAt (p : Option Program) (a : Nat) : Bool :=
  match p with
  | none => false
  | some p => [0, 1, 2].any (fun c => p.image.any (fun x =>
      decide (privBase c + (x.1 - 0x10000000) ≤ a) && decide (a < privBase c + (x.1 - 0x10000000) + x.2.length)))

end Sys2Proof.Machine
namespace Sys2Proof.Machine

/-- A core that runs, in a running module, with a run whose listed stores are private. -/
abbrev CoreRuns (s : State) (c : Fin 3) (run : CoreRun) : Prop :=
  s.up = true ∧ runOk run = true ∧ (s.core c.val).runs = true ∧ (s.core c.val).wfi = false

/-- What the core did before its command is done. -/
abbrev afterRun (s : State) (c : Fin 3) (run : CoreRun) : State := s.applyRun c.val run

/-- Nothing stands at the voter: no core has arrived, none lags, nothing commits, no failure stands. -/
abbrev Fresh (s : State) : Prop :=
  s.tri.dead = false ∧ s.tri.lag = [] ∧ s.tri.commit = none ∧ s.tri.firstAt = none

/-- The first arrival of a core at a checkpoint of a kind (R72, R74): the voter holds what it presents, whose signature is the true one
unless a fault is injected (R88), and nothing is committed. -/
abbrev ArrivedFirst (c : Fin 3) (kind : Nat) (outs : List OutVal) (evals : List Eval) (u t : State) : Prop :=
  (t.core c.val).arrived.map (fun a => (a.kind, a.set, a.consumed)) = some (kind, (u.core c.val).set, (u.core c.val).readIdx) ∧
  (t.core c.val).arrived.map (fun a => (a.outs, a.evals)) = some (outs, evals) ∧
  (t.core c.val).arrived.map (fun a => decide (a.sig = (u.core c.val).sign kind)) = some (!(u.core c.val).inject) ∧
  t.tri.firstAt = some u.mer.raw ∧ t.tri.commit = none ∧ t.tri.ckpts = u.tri.ckpts ∧ OnlyIn [.freeCtr, .tri] u t

/-- The trap of a core: cause, value and pc stand in mcause, mtval and mepc, and nothing but the core changes (R70). -/
abbrev Trapped (c : Fin 3) (cause tval pc : Nat) (u t : State) : Prop :=
  (t.core c.val).csr 0x342 = cause ∧ (t.core c.val).csr 0x343 = tval % 2 ^ 64 ∧ (t.core c.val).csr 0x341 = pc % 2 ^ 64 ∧
  (t.core c.val).regs = (u.core c.val).regs ∧ (t.core c.val).set = (u.core c.val).set ∧ OnlyIn [.tri] u t

end Sys2Proof.Machine

namespace Sys2Proof.Machine

/-- Meridian time in ns by the formula of R92. -/
def meridian (offset : Int) (raw : Nat) (rho : Int) : Rat := (offset : Rat) / 2 ^ 32 + (raw : Rat) * (5 / 2) * (1 + (rho : Rat) / 2 ^ 40)

/-- A PTP message that breaks no rule of R106 and R109 and belongs to the port's domain. -/
abbrev PtpGood (s : State) (h : PtpHead) : Prop :=
  h.optionOk = true ∧ h.lengthOk = true ∧ h.versionOk = true ∧ 0 ≤ h.correction ∧ h.correction ≤ 1000000000 ∧ h.clock ≠ s.ownClock ∧
  h.domain = s.ptpDomain h.port

end Sys2Proof.Machine

namespace Sys2Proof.Machine

/-- Traffic of the own station with a valid tag (R209). -/
abbrev Sound (s : State) (m : ClaimMsg) : Prop := m.station = s.station ∧ s.tagOk m = true

/-- The witness serves the station of the message with a record. -/
abbrev Serves (s : State) (m : ClaimMsg) (i : Nat) : Prop := s.witIndex m.station = some i

end Sys2Proof.Machine
namespace Sys2Proof.Machine

/-- The F that a transfer has chosen. -/
abbrev chosenF (t : State) : MTime := (t.red.transfer.map (·.f)).getD 0

end Sys2Proof.Machine
namespace Sys2Proof.Machine

/-- A client: a UDP address and port, or a CAN identifier pair. -/
def isClient : Source_ → Bool
  | .udp _ _ | .can _ _ => true
  | _ => false

/-- A well-formed message of an operation reaches the server, for this module (R241, R253). -/
abbrev Message (s : State) (op : Nat) (src : Source_) (m : List Byte) : Prop :=
  s.up = true ∧ isClient src = true ∧ s.hears src = true ∧ msgReadable m = true ∧ msgFault m false = none ∧ msgOp m = op ∧ msgTarget m = 0xFF

/-- Both buckets hold what the message costs (R249). -/
def State.admits (s : State) (src : Source_) (slot : Option Nat) (observer : Bool) (m : List Byte) : Bool :=
  match s.takeIn src slot observer (s.costOf m) with
  | .ok _ => true
  | .error _ => false

/-- The hint of a request that is not admitted (R250). -/
def State.retryHint (s : State) (src : Source_) (slot : Option Nat) (observer : Bool) (m : List Byte) : Nat :=
  match s.takeIn src slot observer (s.costOf m) with
  | .ok _ => 0
  | .error r => r

/-- The message names the session in slot `i`, which belongs to its source and has not expired, and repeats no kept answer. -/
abbrev Names (s : State) (src : Source_) (m : List Byte) (i : Nat) : Prop :=
  s.findSession (msgSession m) = some i ∧ s.sessionOver (s.session i) = false ∧ (s.session i).source = some src ∧
  s.keptAnswer i (msgReqId m) = none

/-- A request of an open session that is admitted. -/
abbrev Served (s : State) (op : Nat) (src : Source_) (m : List Byte) (i : Nat) : Prop :=
  Message s op src m ∧ Names s src m i ∧ (s.session i).state = 2 ∧ s.admits src (some i) ((s.session i).level == 0) m = true

/-- The state in which an admitted request of a session is looked at: its buckets debited, its session refreshed. -/
def State.refreshed (s : State) (src : Source_) (i : Nat) (m : List Byte) : State :=
  match s.takeIn src (some i) ((s.session i).level == 0) (s.costOf m) with
  | .ok u => u.updSession i (fun x => { x with last := u.now, lastAt := if x.state = 2 then u.mer.raw else x.lastAt })
  | .error _ => s

/-- The same with the answer's time drawn. -/
def State.afterAdmission (s : State) (src : Source_) (i : Nat) (m : List Byte) : State := (s.refreshed src i m).noteTime none

/-- The first item of a request. -/
abbrev item0 (m : List Byte) : List Byte := (askItems m 0).headD []

/-- The request as the write operations see it. -/
abbrev State.askOf (s : State) (src : Source_) (m : List Byte) (i : Nat) (dec : Decoded) : Ask :=
  { src := src, msg := m, slot := some i, level := (s.session i).level, items := askItems m 0, payload := msgPayload m, dec := dec }

/-- What a WRITE's only item does where it is applied, and its answer. -/
abbrev State.itemWrite (s : State) (src : Source_) (m : List Byte) (i : Nat) (dec : Decoded) : Act :=
  (s.afterAdmission src i m).writeItem ((s.afterAdmission src i m).asker (s.askOf src m i dec)) dec (wItem (item0 m)).e (wItem (item0 m)).n
    (wItem (item0 m)).ty (wItem (item0 m)).len (wItem (item0 m)).v

/-- The last message sent is this answer, put on the port that the source is reached by. -/
abbrev Replied (s t : State) (src : Source_) (bytes : List Byte) : Prop := t.sent = (s.deliver_ src bytes).sent

end Sys2Proof.Machine
namespace Sys2Proof.Machine

/-- The state in which an admitted part of another module's request is looked at. -/
def State.afterPeer (s : State) (idx : Nat) (m : List Byte) : State :=
  match s.takeIn (peerOf idx) none false (s.costOf m) with
  | .ok u => u.noteTime none
  | .error _ => s

/-- The Survey points a request names are this module's own. -/
abbrev OwnPoints (s : State) (m : List Byte) : Prop := ∀ it ∈ askItems m 0, ptModule (leAt it 0 4) = s.modIndex % 64

/-- The items of a SURVEY_READ of own points. -/
abbrev State.ownItems (s : State) (src : Source_) (i : Nat) (m : List Byte) : List (List Byte) :=
  (askItems m 0).map (fun it => (s.refreshed src i m).readPoint (msgMeta m) (ptLocal (leAt it 0 4)))

end Sys2Proof.Machine
namespace Sys2Proof.Machine

/-- A current lies in the band of a detail (Table 11-1), whose bounds stand `m` hundredths of a mA further out. -/
def inBand (m : Int) (d : Nat) (i : F64) : Bool :=
  match d with
  | 5 => F64.lt i (f64 (50 + m) 100)
  | 3 => F64.le (f64 (50 - m) 100) i && F64.lt i (f64 (360 + m) 100)
  | 1 => F64.le (f64 (360 - m) 100) i && F64.lt i (f64 (380 + m) 100)
  | 0 => F64.le (f64 (380 - m) 100) i && F64.le i (f64 (2050 + m) 100)
  | 2 => F64.lt (f64 (2050 - m) 100) i && F64.le i (f64 (2100 + m) 100)
  | 4 => F64.lt (f64 (2100 - m) 100) i
  | _ => false

/-- The trimmed current in mA of an input's result (R290, R304). -/
abbrev inputMa (s : State) (ch code : Nat) : F64 := F64.mul (s.trimK ch) (F64.sub (f64 (25 * code) 262144) (s.trimZ ch))

/-- The engineering value of a current (R292), in the value field of a record. -/
abbrev engValue (lo hi i : F64) : Nat :=
  (F64.narrow (F64.add lo (F64.div (F64.mul (F64.sub i (F64.ofInt 4)) (F64.sub hi lo)) (F64.ofInt 16)))).toNat

/-- One point, not forced, is written from the channel's converter. -/
abbrev OnePoint (s : State) (kind writer : Nat) (x : Nat × PointMeta) : Prop := s.pointsOf kind writer = [x] ∧ s.forceOf x.1 = none

/-- A HART command goes out on a loop: the transaction is counted and the master's turn passes to the other loop (R307). -/
abbrev HartSent (l cmd : Nat) (pass : Bool) (data : List Byte) (u t : State) : Prop :=
  t.sent.head? = some (.hart l cmd data) ∧ (t.hartLoop l).out = some (cmd, pass, u.mer.raw) ∧
  (t.hartMaster (l / 2)).transactions = ((u.hartMaster (l / 2)).transactions + 1) % 2 ^ 32 ∧ (t.hartMaster (l / 2)).turn = (l % 2 == 0)

/-- The loop's turn has come: its master has no transaction out, and the loop is enabled and next in turn. -/
abbrev HartTurn (s : State) (m : Fin 8) (l : Nat) : Prop :=
  s.hartOut m = none ∧ l = 2 * m.val + (s.hartMaster m).turn.toNat ∧ s.hartOn l = true

end Sys2Proof.Machine
namespace Sys2Proof.Machine

/-- Every safety pair is de-energised. -/
abbrev PairsOff (t : State) : Prop := ∀ p, p < 4 → (t.safPair p).highClosed = false ∧ (t.safPair p).lowClosed = false

/-- A function is stopped, and no pair that it names is energised. -/
abbrev Stopped (s t : State) (f : Nat) : Prop :=
  (t.safFn f).state = 0 ∧ ∀ p, p < 4 → bitOf (s.fnRec f).outputs p = true → (t.safPair p).energised = false

/-- The bit by which a channel is named in a DEMAND (Table 12-4). -/
abbrev named (s : State) (ch : Nat) : Nat := if (s.inRec (ch / 2)).mode = 0 then ch else ch / 2 * 2

/-- Every pair is energised where the die's enable and the triad's PERMIT are both 1 (R315, R325). -/
abbrev TwoChannels (t : State) : Prop := ∀ p, p < 4 → (t.safPair p).energised = (t.dieEnable p && (t.safPair p).permit)

/-- A die fault takes every pair off and enters SAFE (R315, R341). -/
abbrev DieStops (s t : State) : Prop :=
  PairsOff t ∧ (s.mode.mode = .run ∨ s.mode.mode = .hold ∨ s.mode.mode = .stop ∨ s.mode.mode = .standby → t.mode.mode = .safe) ∧ t.red.renewing = false

/-- The measured speed of an axis stands above the limit of R331: v0 and the time since t0, in ns. -/
abbrev AboveLimit (r : FnRec) (v0 v : Nat) (ns : Int) : Prop :=
  if ns ≤ (r.tDelay : Int) * 1000000 then v0 + r.vTol < v
  else r.vStill + r.vTol < v ∧ ((v0 : Int) + r.vTol - v) * 1000000000 < (r.decel : Int) * (ns - (r.tDelay : Int) * 1000000)

/-- The modes in which a module is in SAFE's reach (R38). -/
abbrev Acting (s : State) : Prop := s.mode.mode = .run ∨ s.mode.mode = .hold ∨ s.mode.mode = .stop

end Sys2Proof.Machine
namespace Sys2Proof.Machine

/-- A frame reaches a controller that takes part on its bus (R346, R354, R359). -/
abbrev FrameTaken (s : State) (c : Fin 4) (f : CanFrame) : Prop :=
  s.up = true ∧ canFrameOk f = true ∧ s.canMode c ≠ 0 ∧ (s.canCtl c).busOff = false ∧ (f.fdf = true → bitOf (s.canCtl c).ctrl 2 = true)

/-- An error is counted by the controller: NORMAL mode, and its episode is open or opens (R358). -/
abbrev ErrorTaken (s : State) (c : Fin 4) : Prop := s.up = true ∧ s.canMode c = 1 ∧ (s.canCtl c).busOff = false

end Sys2Proof.Machine
namespace Sys2Proof.Machine

/-- A plant frame comes within its class's limit and is no duplicate (R366, R368): the counts of the second are below it. -/
abbrev PlantTaken (s : State) (p : Port) (f : PlantFrame) : Prop :=
  s.up = true ∧ p.val < 2 ∧ (s.net.port p).up = true ∧ s.mer.raw < (s.net.port p).windowAt + 400000000 ∧
  (∀ q ∈ f.seq, ∀ x ∈ s.net.seen, x.1 = f.src ∧ x.2.1 = q → x.2.2 + 160000 ≤ s.mer.raw)

/-- A frame comes back on a ring port that is up, whole and no violation (R371, R378). -/
abbrev RingTaken (s : State) (p : Port) (f : RingFrame) : Prop :=
  s.up = true ∧ 2 ≤ p.val ∧ (s.net.port p).up = true ∧ f.aborted = false ∧ f.ver = 1 ∧ 1 ≤ f.kind ∧ f.kind ≤ 5 ∧ f.len ≤ 28 ∧ f.ring = s.ringId ∧
  f.src = s.modIndex ∧ f.fcsOk = true

/-- The other ports are as before. -/
abbrev OtherPorts (p : Port) (s t : State) : Prop := ∀ q, q < 4 → q ≠ p.val → t.net.port q = s.net.port q

/-- The CRC-32C of a tie block's first four bytes and payload (Table 14-7). -/
abbrev tieCrc (b : List Byte) : Nat := crc32c (b.take 4 ++ (b.drop 8).take (byteAt b 3))

end Sys2Proof.Machine
namespace Sys2Proof.Machine

/-- A repeat finds no record to merge into (R390). -/
abbrev NoMerge (r : RecorderPart) (o : Offer) : Prop :=
  o.rep = false ∨ o.ext ≠ 0 ∨ (∀ m ∈ r.merge, (m.1, m.2.1, m.2.2.1) ≠ (o.src, o.code, o.args)) ∨
  ∃ m, r.merge.find? (fun m => (m.1, m.2.1, m.2.2.1) == (o.src, o.code, o.args)) = some m ∧
    ((r.current (m.2.2.2 % 524288)).seq ≠ m.2.2.2 ∨ (r.current (m.2.2.2 % 524288)).seq < r.epochSeq ∨
     (r.current (m.2.2.2 % 524288)).pcyc ≠ o.pcyc ∨ (r.current (m.2.2.2 % 524288)).ext ≠ 0)

end Sys2Proof.Machine
namespace Sys2Proof.Machine

/-- The clock block runs (R413). -/
abbrev Clocked (s : State) : Prop := s.mode.phase = .boot ∨ s.mode.phase = .up ∨ s.mode.phase = .pfail

/-- A source that its monitor may charge: past its window, not failed already (R416 to R418). -/
abbrev Charged (s : State) (x : Source17) : Prop := Clocked s ∧ x.failed = false ∧ x.window = false

/-- The source is failed and no fallback any more. -/
abbrev Gone (y : Source17) : Prop := y.failed = true ∧ y.ok = false ∧ y.running = false ∧ y.window = false

end Sys2Proof.Machine
namespace Sys2Proof.Machine

/-- A bus error of a write is noted with its cause, agent and address, and nothing else but the recorder's queue changes
(R438). -/
abbrev BusErr (s t : State) (agent : Agent) (cause addr : Nat) : Prop :=
  t.sys.errCause = cause ∧ t.sys.errAgent = agent.code ∧ t.sys.errWrite = true ∧ t.sys.errAddr = addr ∧ t.sys.errAlias = inAlias addr ∧
  t.sys.errCnt = min (s.sys.errCnt + 1) (2 ^ 32 - 1) ∧ OnlyIn [.sys, .evr] s t

/-- A write is refused WRITE-PROTECT: the bus error, the count of its frame, and event 0xF001 (R441). -/
abbrev Protected (s t : State) (agent : Agent) (f o : Nat) : Prop :=
  BusErr s t agent 4 (0x40000000 + f * 0x1000 + o) ∧ Table.get t.sys.wpCnt 0 f = min (Table.get s.sys.wpCnt 0 f + 1) (2 ^ 32 - 1) ∧
  Records s t 0xF001 [f, o, agent.code]

end Sys2Proof.Machine

/-- SUPPLY_REACHES_18V on an inserted module without supply starts the RC oscillators and holds reset; RESET_RELEASE ends with the boot phase and a counter that starts from zero with rho zero, or in held reset with FAULT asserted when a bank needs more spares than it has; MODE_RESTORE ends start-up in the mode of Table 02-6; AUTOSTART_CONDITION_MET starts a waiting standalone module. Each completes under the phase alone, and leaves what it does not name as it was. (R40, R41, R42, R91, R112, R424, 02_modes_startup_recovery.md Table 02-5, Table 02-6) -/
def Obligations.StartUpFollowsItsSequence : Prop :=
  (∀ (s : State) (ina inb cap : Nat),
    s.mode.phase = .off →
    s.pwr.inserted = true →
    18000 ≤ ina ∨ 18000 ≤ inb →
    Does (.supplyReaches18v ina inb cap) s (fun t =>
      t.mode = { s.mode with phase := .charging } ∧
      t.clk.fastRc.running = true ∧ t.clk.slowRc.running = true ∧
      t.pwr.ina = ina ∧ t.pwr.inb = inb ∧ t.pwr.holdMv = cap ∧ t.pwr.pfail = false ∧
      OnlyIn [.mode, .evr, .crt, .clk, .pwr] s t)) ∧
  (∀ (s : State) (fuses : Fuses) (found : BootFind),
    s.mode.phase = .charging →
    found.bist.any beyondRepair = false →
    Does (.resetRelease fuses found) s (fun t =>
      t.mode.phase = .boot ∧
      t.mer.running = true ∧ t.mer.raw = 0 ∧ t.mer.offset = 0 ∧ t.mer.rho = 0 ∧ t.mer.state = .free ∧
      t.mer.pcyc = satInc 32 s.mer.pcyc ∧
      t.sys.ident = fuses.ident ∧ t.net.mac = fuses.mac ∧
      t.mem.data = afterReset s.mem.data ∧ t.evr.recs = s.evr.recs ∧
      OnlyIn [.mode, .evr, .sys, .tri, .mer, .wpt, .tsk, .ring, .cen, .red, .wit, .net, .leg, .sur, .dio, .aio, .saf, .can, .crt, .clk, .mem, .pwr, .elems, .sent] s t)) ∧
  (∀ (s : State) (fuses : Fuses) (found : BootFind),
    s.mode.phase = .charging →
    found.bist.any beyondRepair = true →
    Does (.resetRelease fuses found) s (fun t =>
      t.mode.phase = .held ∧ t.pwr.fault = true ∧
      OnlyIn [.mode, .evr, .sys, .tri, .mer, .wpt, .tsk, .ring, .cen, .red, .wit, .net, .leg, .sur, .dio, .aio, .saf, .can, .crt, .clk, .mem, .pwr, .elems, .sent] s t)) ∧
  (∀ (s : State) (found : RestoreFind),
    s.mode.phase = .boot →
    s.recovery = true →
    Does (.modeRestore found) s (fun t =>
      t.mode.phase = .up ∧ t.mode.mode = .service ∧
      Records s t 0x1004 t.mode.durations ∧ SameMemory s t ∧
      OnlyIn [.freeCtr, .mode, .evr, .sys, .tri, .mer, .wpt, .tsk, .ring, .cen, .red, .wit, .net, .leg, .sur, .dio, .aio, .saf, .can, .crt, .clk, .mem, .pwr, .elems, .sent] s t)) ∧
  (∀ (s : State) (found : RestoreFind),
    s.mode.phase = .boot →
    s.recovery = false →
    s.mode.cfgHeld = false ∨ found.cfgOk = false →
    Does (.modeRestore found) s (fun t =>
      t.mode.phase = .up ∧ t.mode.mode = .blank ∧ t.mode.cfgHeld = false ∧ t.mode.safeStored = s.mode.safeStored ∧
      OnlyIn [.freeCtr, .mode, .evr, .sys, .tri, .mer, .wpt, .tsk, .ring, .cen, .red, .wit, .net, .leg, .sur, .dio, .aio, .saf, .can, .crt, .clk, .mem, .pwr, .elems, .sent] s t)) ∧
  (∀ (s : State) (found : RestoreFind),
    s.mode.phase = .boot →
    s.recovery = false →
    s.mode.cfgHeld = true ∧ found.cfgOk = true →
    s.mode.safeStored = true →
    Does (.modeRestore found) s (fun t =>
      t.mode.phase = .up ∧ t.mode.mode = .safe ∧ t.mode.kept = s.mode.kept ∧
      OnlyIn [.freeCtr, .mode, .evr, .sys, .tri, .mer, .wpt, .tsk, .ring, .cen, .red, .wit, .net, .leg, .sur, .dio, .aio, .saf, .can, .crt, .clk, .mem, .pwr, .elems, .sent] s t)) ∧
  (∀ (s : State),
    s.up = true →
    s.mode.autoWait = true ∧ s.mode.mode = .stop →
    s.ownsClaim = true ∧ s.syncCondition = true →
    Does (.autostartConditionMet) s (fun t =>
      t.mode.mode = .run ∧ t.mode.prev = .stop ∧ t.mode.autoWait = false ∧ t.mode.at_ = s.now ∧ t.mode.cause = 0 ∧
      OnlyIn [.mode, .evr, .wpt, .tsk, .cen, .red, .net, .mem, .elems, .sent] s t))

/-- An accepted request reports its mode at once, keeps it as the last request and answers OK. RUN to STOP and HOLD to STOP end patterns and set the transition the tasks still have to end; RUN to HOLD and HOLD to RUN leave memory, outputs and safety alone; STOP to RUN of a module that holds its claim starts the tasks and changes memory only where the program's initial image stands. An applicant in STOP that asks for STOP ends its application. (R31, R33, R34, R35, R36, R42, R144, R465, 02_modes_startup_recovery.md Table 02-3, Table 02-4) -/
def Obligations.StopRunHoldFollowTable0203 : Prop :=
  (∀ (s : State) (who : Who),
    ModeAsked s who 1 →
    s.mode.mode = .run →
    Does (.modeRequestStop who) s (fun t =>
      t.mode.mode = .stop ∧ t.mode.prev = .run ∧ t.mode.lastReq = 1 ∧ t.mode.at_ = s.now ∧ t.mode.lifeCycle = s.mode.lifeCycle ∧
      (t.mode.trans.map (fun x => (x.frm, x.dest, x.tasks))) = some (.run, .stop, s.tasks) ∧
      t.dio = { s.dio with runs := [] } ∧
      Answered t .ok 0 ∧ Records s t 0x1001 [2, 1, 0] ∧
      OnlyIn [.mode, .evr, .tsk, .red, .net, .dio, .sent] s t)) ∧
  (∀ (s : State) (who : Who),
    ModeAsked s who 1 →
    s.mode.mode = .hold →
    Does (.modeRequestStop who) s (fun t =>
      t.mode.mode = .stop ∧ t.mode.prev = .hold ∧ t.mode.lastReq = 1 ∧ t.mode.at_ = s.now ∧ t.mode.lifeCycle = s.mode.lifeCycle ∧
      (t.mode.trans.map (fun x => (x.frm, x.dest, x.tasks))) = some (.hold, .stop, s.tasks) ∧
      Answered t .ok 0 ∧ Records s t 0x1001 [3, 1, 0] ∧
      OnlyIn [.mode, .evr, .tsk, .red, .net, .dio, .sent] s t)) ∧
  (∀ (s : State) (who : Who),
    Asked s who 1 →
    s.recovery = false →
    s.mode.mode = .stop ∧ s.mode.applying = true →
    Does (.modeRequestStop who) s (fun t =>
      t.mode = { s.mode with lastReq := 1, autoWait := false, applying := false } ∧
      t.red = { s.red with request := none } ∧
      Answered t .ok 0 ∧
      OnlyIn [.mode, .red, .net, .sent] s t)) ∧
  (∀ (s : State) (who : Who),
    ModeAsked s who 1 →
    s.mode.mode = .stop →
    s.ownsClaim = true ∧ s.syncCondition = true →
    Does (.modeRequestRun who) s (fun t =>
      t.mode.mode = .run ∧ t.mode.prev = .stop ∧ t.mode.lastReq = 2 ∧ t.mode.at_ = s.now ∧ t.mode.lifeCycle = s.mode.lifeCycle ∧
      (t.mode.trans.map (fun x => (x.frm, x.dest, x.until_))) = some (.stop, .run, some (s.now + 1000000)) ∧
      Answered t .ok 0 ∧ Records s t 0x1001 [1, 2, 0] ∧
      (∀ a, imageAt (s.tsk.staged <|> s.tsk.active) a = false → Memory.read t.mem.data a = Memory.read s.mem.data a) ∧
      OnlyIn [.mode, .evr, .wpt, .tsk, .cen, .red, .net, .mem, .elems, .sent] s t)) ∧
  (∀ (s : State) (who : Who),
    ModeAsked s who 2 →
    s.mode.mode = .hold →
    Does (.modeRequestResume who) s (fun t =>
      t.mode = { s.mode with lastReq := 2, autoWait := false, prev := .hold, mode := .run, at_ := s.now, cause := 0 } ∧
      Answered t .ok 0 ∧ Records s t 0x1001 [3, 2, 0] ∧
      OnlyIn [.mode, .evr, .tsk, .red, .net, .sent] s t)) ∧
  (∀ (s : State) (who : Who),
    ModeAsked s who 2 →
    s.mode.mode = .run ∧ s.holdPermitted = true →
    Does (.modeRequestHold who) s (fun t =>
      t.mode.mode = .hold ∧ t.mode.prev = .run ∧ t.mode.lastReq = 3 ∧ t.mode.at_ = s.now ∧ t.mode.holdSince = s.mer.raw ∧
      t.mode.lifeCycle = s.mode.lifeCycle ∧ Answered t .ok 0 ∧ Records s t 0x1001 [2, 3, 0] ∧
      OnlyIn [.mode, .evr, .tsk, .red, .net, .sent] s t)) ∧
  (∀ (s : State) (task : Fin 16) (addr : Nat),
    s.up = true ∧ s.mode.mode = .run ∧ s.holdPermitted = true →
    (s.taskRun task).frozen = true →
    (Table.find s.elems (ea 0x21210 1)).isSome = true ∧ s.el 0x21210 0 0 = task.val ∧ s.el 0x21210 1 0 = addr →
    Does (.breakpointHit task addr) s (fun t =>
      t.mode.mode = .hold ∧ t.mode.prev = .run ∧ t.mode.cause = 0 ∧ t.mode.holdSince = s.mer.raw ∧ t.mode.lastReq = s.mode.lastReq ∧
      Records s t 0x1001 [2, 3, 0] ∧
      OnlyIn [.mode, .evr, .tsk, .red, .net, .sent] s t)) ∧
  (∀ (s : State),
    s.up = true ∧ s.mode.mode = .hold →
    s.el 0x10002 3 0 ≠ 0 ∧ s.mode.holdSince + s.el 0x10002 3 0 * 400000000 ≤ s.mer.raw →
    Does (.holdLimitExpired) s (fun t =>
      t.mode = { s.mode with autoWait := false, prev := .hold, mode := .run, at_ := s.now, cause := 0 } ∧
      Records s t 0x1006 [] ∧
      OnlyIn [.mode, .evr, .tsk, .red, .net, .sent] s t))

/-- SERVICE is entered from BLANK, STOP, SAFE and WITNESS, WITNESS and BLANK from SERVICE, STOP from STANDBY and SERVICE; each is reported, keeps the request and abandons what ran. BLANK from STOP or WITNESS erases: no configuration is held, only elements outside the configuration stay listed, the MRAM retentive area reads zero and every other byte of memory as before. (R31, R35, R42, R57, R464, 02_modes_startup_recovery.md Table 02-3) -/
def Obligations.ServiceBlankWitnessFollowTable0203 : Prop :=
  (∀ (s : State) (who : Who),
    ModeAsked s who 2 →
    s.mode.mode = .blank ∨ s.mode.mode = .stop ∨ s.mode.mode = .safe ∨ s.mode.mode = .witness →
    Does (.modeRequestService who) s (fun t =>
      t.mode.mode = .service ∧ t.mode.prev = s.mode.mode ∧ t.mode.lastReq = 7 ∧ t.mode.trans = none ∧ t.mode.lifeCycle = s.mode.lifeCycle ∧
      t.ring.exchanges = [] ∧ t.dio.runs = [] ∧ Answered t .ok 0 ∧ SameMemory s t ∧
      OnlyIn [.mode, .evr, .tri, .tsk, .ring, .cen, .red, .net, .sur, .dio, .aio, .saf, .mem, .sent] s t)) ∧
  (∀ (s : State) (who : Who),
    ModeAsked s who 2 →
    s.mode.mode = .service →
    s.isWitness = true ∧ s.mode.cfgHeld = true →
    Does (.modeRequestWitness who) s (fun t =>
      t.mode.mode = .witness ∧ t.mode.lastReq = 5 ∧ t.wit.since = s.mer.raw ∧ t.wit.keys = s.wit.keys ∧
      Answered t .ok 0 ∧ SameMemory s t ∧
      OnlyIn [.mode, .evr, .tri, .tsk, .ring, .cen, .red, .wit, .net, .sur, .dio, .aio, .saf, .mem, .sent] s t)) ∧
  (∀ (s : State) (who : Who),
    ModeAsked s who 2 →
    s.mode.mode = .service ∧ s.mode.cfgHeld = false →
    Does (.modeRequestBlank who) s (fun t =>
      t.mode.mode = .blank ∧ t.mode.lastReq = 0 ∧ t.mode.cfgHeld = false ∧ Answered t .ok 0 ∧ SameMemory s t ∧
      OnlyIn [.mode, .evr, .tri, .tsk, .ring, .cen, .red, .net, .sur, .dio, .aio, .saf, .mem, .elems, .sent] s t)) ∧
  (∀ (s : State) (who : Who),
    ModeAsked s who 2 →
    s.mode.mode = .stop ∨ s.mode.mode = .witness →
    Authorised s →
    Does (.modeRequestBlank who) s (fun t =>
      t.mode.mode = .blank ∧ t.mode.cfgHeld = false ∧ t.mode.cfgId = 0 ∧ t.mode.lifeCycle = s.mode.lifeCycle ∧ t.mode.safeStored = s.mode.safeStored ∧
      (∀ x ∈ t.elems, outsideConfig (x.1 / 256) = true) ∧
      (∀ x ∈ s.elems, outsideConfig (x.1 / 256) = true → x ∈ t.elems) ∧
      t.tsk.active = none ∧ t.tsk.staged = none ∧ t.saf.set = none ∧ t.sur.image = [] ∧ t.leg.keys = s.leg.keys ∧
      (∀ a, Memory.read t.mem.data a = if 0x62000000 ≤ a ∧ a < 0x63000000 then 0 else Memory.read s.mem.data a) ∧
      Answered t .ok 0 ∧
      OnlyIn [.mode, .evr, .tri, .wpt, .tsk, .ring, .cen, .red, .net, .leg, .sur, .dio, .aio, .saf, .can, .mem, .elems, .sent] s t)) ∧
  (∀ (s : State) (who : Who),
    ModeAsked s who 2 →
    s.mode.mode = .standby →
    Does (.modeRequestStop who) s (fun t =>
      t.mode.mode = .stop ∧ t.mode.prev = .standby ∧ t.red.ready = false ∧ t.red.shadowing = [] ∧ Answered t .ok 0 ∧ SameMemory s t ∧
      OnlyIn [.mode, .evr, .tri, .tsk, .ring, .cen, .red, .net, .sur, .dio, .aio, .saf, .mem, .sent] s t)) ∧
  (∀ (s : State) (who : Who),
    ModeAsked s who 2 →
    s.mode.mode = .service ∧ s.mode.cfgHeld = true ∧ s.isWitness = false →
    s.presentCauses = [] →
    Does (.modeRequestStop who) s (fun t =>
      t.mode.mode = .stop ∧ t.mode.prev = .service ∧ t.mode.lastReq = 1 ∧ Answered t .ok 0 ∧ SameMemory s t ∧
      OnlyIn [.mode, .evr, .tri, .tsk, .ring, .cen, .red, .net, .sur, .dio, .aio, .saf, .mem, .sent] s t))

/-- A safe demand in RUN, HOLD, STOP or STANDBY enters SAFE, stores it in MRAM with cause 0x1008 kept, abandons a transition in progress and ends exchanges and patterns; the acknowledge of SAFE with no remaining cause reports STOP at once, forgets the stored SAFE state and takes effect at the next 1 ms boundary of Meridian time, which SAFE_TO_STOP_BOUNDARY is. (R36, R37, R38, R39, R42, 02_modes_startup_recovery.md Table 02-3, Table 02-4) -/
def Obligations.SafeIsEnteredStoredAndAcknowledged : Prop :=
  (∀ (s : State) (who : Who),
    Asked s who 1 →
    s.recovery = false →
    s.mode.mode = .run ∨ s.mode.mode = .hold ∨ s.mode.mode = .stop ∨ s.mode.mode = .standby →
    Does (.safeDemand who) s (fun t =>
      t.mode.mode = .safe ∧ t.mode.prev = s.mode.mode ∧ t.mode.cause = 0x1008 ∧ t.mode.lastReq = 6 ∧
      (t.mode.safeStored = true ∧ (s.mode.safeStored = false → t.mode.kept = [{ code := 0x1008 }]) ∧ ({ code := 0x1008 } : Cause) ∈ t.mode.kept ∧ t.mode.trans = none ∧ t.mode.applying = false) ∧
      t.ring.exchanges = [] ∧ t.dio.runs = [] ∧ Answered t .ok 0 ∧ Records s t 0x1008 [0x1008] ∧ SameMemory s t ∧
      OnlyIn [.mode, .evr, .tri, .tsk, .ring, .cen, .red, .net, .sur, .dio, .aio, .saf, .mem, .sent] s t)) ∧
  (∀ (s : State) (who : Who),
    ModeAsked s who 2 →
    s.mode.mode = .safe ∧ s.firstCause = none →
    Does (.modeRequestStop who) s (fun t =>
      t.mode.mode = .stop ∧ t.mode.prev = .safe ∧ t.mode.safeStored = false ∧ t.mode.kept = [] ∧ t.mode.lastReq = 1 ∧
      t.mode.trans = some { frm := .safe, dest := .stop, until_ := some (nextMs s.now) } ∧
      Answered t .ok 0 ∧ Records s t 0x1009 [] ∧
      OnlyIn [.mode, .evr, .red, .net, .sent] s t)) ∧
  (∀ (s : State) (x : MTime),
    s.up = true →
    s.mode.trans = some { frm := .safe, dest := .stop, until_ := some x } →
    x ≤ s.now →
    Does (.safeToStopBoundary) s (fun t =>
      t.mode.trans = none ∧ t.mode.mode = s.mode.mode ∧ t.mode.prev = s.mode.prev ∧ t.mode.at_ = s.mode.at_ ∧ SameMemory s t ∧
      OnlyIn [.mode, .evr, .tsk, .sur, .dio, .aio, .saf, .mem] s t))

/-- The warm reset value 0xA5C3 is recorded and restarts the module from step 3: the reset count goes up, the counter runs from zero, banks and DRAM lose their bytes while MRAM keeps them, mode, life cycle, stored SAFE and keys stand. The power-cycle value 0xC3A5 records, drives PCRQ for 500 ms and notes its instant, and nothing else; 2 s without a fall of the supply below 9 V the module resets itself. A write of PWR_CTRL.PCRQ_GO drives PCRQ alone. (R43, R52, R53, R91, 02_modes_startup_recovery.md Table 02-8, Table 02-9) -/
def Obligations.ResetsAndPowerCyclesFollowTheLadder : Prop :=
  (∀ (s : State) (who : Who),
    Asked s who 2 →
    Does (.warmReset who 0xA5C3) s (fun t =>
      t.mode.phase = .boot ∧ t.mode.mode = s.mode.mode ∧ t.mode.lifeCycle = s.mode.lifeCycle ∧ t.mode.kept = s.mode.kept ∧ t.mode.safeStored = s.mode.safeStored ∧
      t.mode.warmCount = satInc 32 s.mode.warmCount ∧ t.mer.running = true ∧ t.mer.raw = 0 ∧ t.mer.opSecs = s.mer.opSecs ∧
      t.mem.data = afterReset s.mem.data ∧ t.leg.keys = s.leg.keys ∧ t.leg.sessions = [] ∧ t.tsk.active = s.tsk.active ∧
      t.tri = {} ∧ Answered t .ok 0 ∧
      OnlyIn [.freeCtr, .mode, .evr, .sys, .tri, .mer, .wpt, .tsk, .ring, .cen, .red, .wit, .net, .leg, .sur, .dio, .aio, .saf, .can, .crt, .clk, .mem, .pwr, .elems, .sent] s t)) ∧
  (∀ (s : State) (who : Who),
    Asked s who 2 →
    Does (.powerCycleRequest who 0xC3A5) s (fun t =>
      t.pwr = { s.pwr with pcrq := true, pcrqUntil := s.mer.raw + 200000000 } ∧
      t.mode = { s.mode with pcrqAt := some s.mer.raw } ∧
      Answered t .ok 0 ∧ Records s t 0x100D [] ∧
      OnlyIn [.mode, .evr, .net, .pwr, .sent] s t)) ∧
  (∀ (s : State) (x : Nat),
    s.up = true →
    s.mode.pcrqAt = some x →
    x + 800000000 ≤ s.mer.raw ∧ 9000 ≤ max s.pwr.ina s.pwr.inb →
    Does (.powerCycleTimeout) s (fun t =>
      t.mode.phase = .boot ∧ t.mode.warmCount = satInc 32 s.mode.warmCount ∧ t.mode.pcrqAt = none ∧ t.mem.data = afterReset s.mem.data ∧
      OnlyIn [.freeCtr, .mode, .evr, .sys, .tri, .mer, .wpt, .tsk, .ring, .cen, .red, .wit, .net, .leg, .sur, .dio, .aio, .saf, .can, .crt, .clk, .mem, .pwr, .elems, .sent] s t)) ∧
  (∀ (s : State) (agent : Agent),
    s.up = true →
    Does (.pcrqGo agent) s (fun t =>
      t.pwr = { s.pwr with pcrq := true, pcrqUntil := s.mer.raw + 200000000 } ∧
      OnlyIn [.pwr] s t))

/-- For a code of Table 02-10 whose condition is met the request answers OK, leaves no open fault and no retry of that function and result 0, with event 0x100B; where the condition is not met it answers OK with result 1 and touches nothing else; an unknown code is answered RANGE and touches nothing. For a CAN controller the error counts return to zero, for the Legend server no session stays open. (R49, R51, R359, 02_modes_startup_recovery.md Table 02-10) -/
def Obligations.ReinitialisationClosesTheFunctionsFaults : Prop :=
  (∀ (s : State) (who : Who) (code : Nat),
    Asked s who 2 →
    (s.reinitOf code).map (·.1) = some true →
    Does (.reinitialiseFunction who code) s (fun t =>
      t.mode.reinitResult = 0 ∧ t.mode.mode = s.mode.mode ∧ t.mode.lifeCycle = s.mode.lifeCycle ∧
      (∀ g ∈ t.mode.faults, g.fn ≠ code) ∧
      Table.find t.mode.retries code = none ∧
      Answered t .ok 0 ∧ Records s t 0x100B [code, 0] ∧ SameMemory s t ∧
      OnlyIn [.freeCtr, .mode, .evr, .tri, .mer, .tsk, .ring, .red, .net, .leg, .sur, .dio, .aio, .saf, .can, .crt, .mem, .sent] s t)) ∧
  (∀ (s : State) (who : Who) (code : Nat),
    Asked s who 2 →
    (s.reinitOf code).map (·.1) = some false →
    Does (.reinitialiseFunction who code) s (fun t =>
      t.mode = { s.mode with reinitResult := 1 } ∧
      Answered t .ok 0 ∧ Records s t 0x100B [code, 1] ∧
      OnlyIn [.mode, .evr, .net, .sent] s t)) ∧
  (∀ (s : State) (who : Who) (code : Nat),
    Asked s who 2 →
    (s.reinitOf code).isNone = true →
    Does (.reinitialiseFunction who code) s (fun t =>
      Answered t .range 0 ∧
      OnlyIn [.net, .sent] s t)) ∧
  (∀ (s : State) (who : Who) (k : Fin 4),
    Asked s who 2 →
    Does (.reinitialiseFunction who (0x0100 + k.val)) s (fun t =>
      (t.canCtl k.val).tec = 0 ∧ (t.canCtl k.val).rec_ = 0 ∧ (t.canCtl k.val).busOff = false ∧
      OnlyIn [.freeCtr, .mode, .evr, .net, .can, .sent] s t)) ∧
  (∀ (s : State) (who : Who),
    Asked s who 2 →
    Does (.reinitialiseFunction who 0x0601) s (fun t =>
      t.leg.sessions = [] ∧ t.leg.forwards = [] ∧ t.leg.keys = s.leg.keys ∧ t.leg.staging = s.leg.staging ∧
      OnlyIn [.mode, .evr, .net, .leg, .sent] s t))

/-- From SERVICE and with an accepted token (or from FACTORY without one), OPEN to SEALED, SEALED to OPEN and OPEN or SEALED to RETIRED take effect and end in a warm reset with the asset tag writable once more; OPEN to SEALED needs an Engineer and a Custodian key and keeps memory's retentive bytes; OPEN and RETIRED wipe the configuration, the stored SAFE state and the retentive area. A transition Table 02-7 does not permit is refused STATE-REFUSED and changes nothing. (R44, R45, R46, R47, R237, R240, R441, 02_modes_startup_recovery.md Table 02-7) -/
def Obligations.LifeCycleMovesOnlyAlongTable0207 : Prop :=
  (∀ (s : State) (who : Who),
    s.up = true ∧ s.mode.mode = .service ∧ s.recovery = false →
    s.mode.lifeCycle = .sealed ∧ s.leg.grant.isSome = true →
    Does (.lifecycleToOpen who) s (fun t =>
      t.mode.lifeCycle = .opened ∧ t.mode.phase = .boot ∧ t.mode.cfgHeld = false ∧ t.mode.safeStored = false ∧ t.mode.kept = [] ∧
      t.sys.assetWritten = false ∧ t.leg.keys = s.leg.keys ∧ t.tsk.active = none ∧
      (∀ a, 0x62000000 ≤ a → a < 0x63000000 → Memory.read t.mem.data a = 0) ∧
      Answered t .ok 0 ∧
      OnlyIn [.freeCtr, .mode, .evr, .sys, .tri, .mer, .wpt, .tsk, .ring, .cen, .red, .wit, .net, .leg, .sur, .dio, .aio, .saf, .can, .crt, .clk, .mem, .pwr, .elems, .sent] s t)) ∧
  (∀ (s : State) (who : Who),
    s.up = true ∧ s.mode.mode = .service ∧ s.recovery = false →
    s.mode.lifeCycle = .factory →
    Does (.lifecycleToOpen who) s (fun t =>
      t.mode.lifeCycle = .opened ∧ t.mode.phase = .boot ∧ t.leg.keys = [] ∧ Answered t .ok 0 ∧
      OnlyIn [.freeCtr, .mode, .evr, .sys, .tri, .mer, .wpt, .tsk, .ring, .cen, .red, .wit, .net, .leg, .sur, .dio, .aio, .saf, .can, .crt, .clk, .mem, .pwr, .elems, .sent] s t)) ∧
  (∀ (s : State) (who : Who),
    s.up = true ∧ s.mode.mode = .service ∧ s.recovery = false →
    s.mode.lifeCycle = .opened ∧ s.leg.grant.isSome = true →
    s.hasKey (· == 2) = true ∧ s.hasKey (· == 3) = true →
    Does (.lifecycleToSealed who) s (fun t =>
      t.mode.lifeCycle = .sealed ∧ t.mode.phase = .boot ∧ t.sys.assetWritten = false ∧ t.leg.keys = s.leg.keys ∧ t.mode.cfgHeld = s.mode.cfgHeld ∧
      t.mem.data = afterReset s.mem.data ∧ Answered t .ok 0 ∧
      OnlyIn [.freeCtr, .mode, .evr, .sys, .tri, .mer, .wpt, .tsk, .ring, .cen, .red, .wit, .net, .leg, .sur, .dio, .aio, .saf, .can, .crt, .clk, .mem, .pwr, .elems, .sent] s t)) ∧
  (∀ (s : State) (who : Who),
    s.up = true ∧ s.mode.mode = .service ∧ s.recovery = false →
    s.mode.lifeCycle = .opened ∨ s.mode.lifeCycle = .sealed →
    s.leg.grant.isSome = true →
    Does (.lifecycleToRetired who) s (fun t =>
      t.mode.lifeCycle = .retired ∧ t.mode.phase = .boot ∧ t.mode.cfgHeld = false ∧ t.mode.safeStored = false ∧
      (∀ a, 0x62000000 ≤ a → a < 0x63000000 → Memory.read t.mem.data a = 0) ∧
      Answered t .ok 0 ∧
      OnlyIn [.freeCtr, .mode, .evr, .sys, .tri, .mer, .wpt, .tsk, .ring, .cen, .red, .wit, .net, .leg, .sur, .dio, .aio, .saf, .can, .crt, .clk, .mem, .pwr, .elems, .sent] s t)) ∧
  (∀ (s : State) (who : Who),
    s.up = true →
    s.mode.mode ≠ .service ∨ s.lifePermitted .opened = false →
    Does (.lifecycleToOpen who) s (fun t =>
      Answered t .stateRefused s.stateDetail ∧
      OnlyIn [.net, .sent] s t))

/-- A configuration commit that its checks accept holds the configuration under the container's identity (or one of the module's own), forgets what was written since the last one and records 0x1011, in STOP and SERVICE without a change of memory; one that fails a check keeps the configuration as it was and records 0x1012. Installation into the slot that does not run writes that slot alone with its result, and slot selection changes the slot to start from alone. (R54, R55, R464, 02_modes_startup_recovery.md Table 02-8) -/
def Obligations.CommitsAndFirmwareTakeEffect : Prop :=
  (∀ (s : State) (who : Who) (body : ConfigBody),
    Asked s who 2 →
    s.recovery = false ∧ (s.mode.mode = .stop ∨ s.mode.mode = .service) →
    Authorised s →
    s.containerFault "OPSC" = none ∧ (s.withBody body).configFault = none →
    Does (.configCommitContainer who body) s (fun t =>
      t.mode.cfgHeld = true ∧ t.mode.cfgId = body.ident ∧ t.mode.modIndex = body.index ∧ t.mode.cfgElems = [] ∧ t.mode.mode = s.mode.mode ∧
      t.elems = (s.withBody body).elems ∧ t.sur.points = (s.withBody body).sur.points ∧
      Answered t .ok 0 ∧ Records s t 0x1011 [body.ident] ∧ SameMemory s t ∧
      OnlyIn [.mode, .evr, .tri, .mer, .wpt, .tsk, .cen, .red, .net, .leg, .sur, .dio, .aio, .saf, .can, .crt, .clk, .mem, .pwr, .elems, .sent] s t)) ∧
  (∀ (s : State) (who : Who),
    Asked s who 2 →
    s.recovery = false ∧ (s.mode.mode = .stop ∨ s.mode.mode = .service) →
    Authorised s →
    s.configFault = none →
    Does (.configCommitElements who) s (fun t =>
      t.mode.cfgHeld = true ∧ t.mode.cfgElems = [] ∧ t.mode.mode = s.mode.mode ∧ t.freeCtr = s.freeCtr + 1 ∧
      t.elems = s.elems ∧ Answered t .ok 0 ∧ SameMemory s t ∧
      OnlyIn [.freeCtr, .mode, .evr, .tri, .mer, .wpt, .tsk, .cen, .red, .net, .leg, .sur, .dio, .aio, .saf, .can, .crt, .clk, .mem, .pwr, .sent] s t)) ∧
  (∀ (s : State) (who : Who) (a : Ans),
    Asked s who 2 →
    s.recovery = false ∧ (s.mode.mode = .stop ∨ s.mode.mode = .service) →
    Authorised s →
    s.configFault = some a →
    Does (.configCommitElements who) s (fun t =>
      (Answered t a.status a.detail ∨ a.retry ≠ 0) ∧
      Records s t 0x1012 [a.detail / 2 ^ 28] ∧
      OnlyIn [.evr, .net, .leg, .sent] s t)) ∧
  (∀ (s : State) (who : Who) (version : Nat),
    Asked s who 2 →
    s.mode.mode = .stop ∨ s.mode.mode = .blank ∨ s.mode.mode = .service ∨ s.mode.mode = .witness →
    s.mode.image ≠ 1 →
    Authorised s →
    Does (.firmwareInstall who 1 { version := version }) s (fun t =>
      t.mode = { s.mode with slotB := { valid := true, version := version }, installResult := 0 } ∧
      Answered t .ok 0 ∧ Records s t 0x1013 [1, version] ∧
      OnlyIn [.mode, .evr, .net, .leg, .sent] s t)) ∧
  (∀ (s : State) (who : Who),
    Asked s who 2 →
    Authorised s →
    s.mode.slotA.valid = true →
    Does (.firmwareSlotSelect who 0) s (fun t =>
      t.mode = { s.mode with slotSel := 0 } ∧
      Answered t .ok 0 ∧
      OnlyIn [.mode, .evr, .net, .leg, .sent] s t))

/-- For each kind of Table 03-4, the first core to arrive leaves at the voter its kind, write-set, read count, task outputs and its signature (the true one exactly when no fault is injected), starts A_1 and commits nothing; kinds 3 to 5 arrive only when the instruction count, the write-set or the read set is full. Everything but the triad is as the core's own run left it. (R67, R69, R72, R73, R74, R88, 03_triad_execution.md Table 03-4, Table 03-5) -/
def Obligations.CheckpointsOfEveryKindArriveAtTheVoter : Prop :=
  (∀ (s : State) (core : Fin 3) (run : CoreRun) (outs : List OutVal) (evals : List Eval),
    CoreRuns s core run →
    Fresh (afterRun s core run) ∧ (afterRun s core run).arrivals = [] →
    Does (.checkpointTaskEnd core run outs evals) s (fun t =>
      ArrivedFirst core 0 outs evals (afterRun s core run) t)) ∧
  (∀ (s : State) (core : Fin 3) (run : CoreRun) (outs : List OutVal) (evals : List Eval),
    CoreRuns s core run →
    Fresh (afterRun s core run) ∧ (afterRun s core run).arrivals = [] →
    Does (.checkpointCommit core run outs evals) s (fun t =>
      ArrivedFirst core 1 outs evals (afterRun s core run) t)) ∧
  (∀ (s : State) (core : Fin 3) (run : CoreRun) (outs : List OutVal) (evals : List Eval),
    CoreRuns s core run →
    Fresh (afterRun s core run) ∧ (afterRun s core run).arrivals = [] →
    Does (.checkpointOutputRelease core run outs evals) s (fun t =>
      ArrivedFirst core 2 outs evals (afterRun s core run) t)) ∧
  (∀ (s : State) (core : Fin 3) (run : CoreRun) (outs : List OutVal) (evals : List Eval),
    CoreRuns s core run →
    Fresh (afterRun s core run) ∧ (afterRun s core run).arrivals = [] →
    ((afterRun s core run).core core.val).since = (afterRun s core run).tri.ckint →
    Does (.checkpointInstructionCount core run outs evals) s (fun t =>
      ArrivedFirst core 3 outs evals (afterRun s core run) t)) ∧
  (∀ (s : State) (core : Fin 3) (run : CoreRun) (outs : List OutVal) (evals : List Eval),
    CoreRuns s core run →
    Fresh (afterRun s core run) ∧ (afterRun s core run).arrivals = [] →
    1023 ≤ ((afterRun s core run).core core.val).set.length →
    Does (.checkpointWriteSetFull core run outs evals) s (fun t =>
      ArrivedFirst core 4 outs evals (afterRun s core run) t)) ∧
  (∀ (s : State) (core : Fin 3) (run : CoreRun) (outs : List OutVal) (evals : List Eval),
    CoreRuns s core run →
    Fresh (afterRun s core run) ∧ (afterRun s core run).arrivals = [] →
    4096 ≤ ((afterRun s core run).core core.val).readIdx →
    Does (.checkpointReadSetFull core run outs evals) s (fun t =>
      ArrivedFirst core 5 outs evals (afterRun s core run) t))

/-- When the second of two cores presents the same kind, signature, read count and write-set as the first, a commit of that write-set by the two begins at that instant. When two have arrived and differ and the third agrees with the first, the other is quarantined and the commit begins. When the triad runs in duplex and the two differ, nothing is committed any more, renewals stop, the three write-sets are empty and a module in RUN is in SAFE. (R74, R75, R77, R78, R79, 03_triad_execution.md Table 03-5) -/
def Obligations.TheVoterComparesArrivals : Prop :=
  (∀ (s : State) (core other : Fin 3) (outs : List OutVal) (evals : List Eval) (b : Arrival) (f : Nat),
    CoreRuns s core {} →
    s.tri.dead = false ∧ s.tri.lag = [] ∧ s.tri.commit = none ∧ s.tri.firstAt = some f →
    s.arrivals = [(other.val, b)] →
    (s.core core.val).inject = false →
    b.kind = 0 ∧ b.sig = (s.core core.val).sign 0 ∧ b.consumed = (s.core core.val).readIdx ∧ b.set = (s.core core.val).set →
    Does (.checkpointTaskEnd core {} outs evals) s (fun t =>
      (t.tri.commit.map (fun k => (k.arrival.set, k.from_))) = some (b.set, s.now) ∧
      t.tri.commit.map (fun k => k.cores.contains core.val && k.cores.contains other.val) = some true ∧
      t.tri.ckpts = s.tri.ckpts ∧
      OnlyIn [.tri, .mer, .wpt, .wit, .leg, .can, .crt, .clk, .pwr, .elems] s t)) ∧
  (∀ (s : State) (outs : List OutVal) (evals : List Eval) (a b : Arrival) (f : Nat),
    CoreRuns s 2 {} →
    s.tri.dead = false ∧ s.tri.duplex = false ∧ s.tri.lag = [] ∧ s.tri.commit = none ∧ s.tri.firstAt = some f →
    (s.core 0).arrived = some a ∧ (s.core 1).arrived = some b ∧ a.agrees b = false →
    (s.core 2).inject = false ∧ (s.core 1).injected = false →
    a.kind = 0 ∧ a.sig = (s.core 2).sign 0 ∧ a.consumed = (s.core 2).readIdx ∧ a.set = (s.core 2).set →
    Does (.checkpointTaskEnd 2 {} outs evals) s (fun t =>
      (t.core 1).state = .quarantined ∧ (t.core 1).set = [] ∧ (t.core 0).state = (s.core 0).state ∧ (t.core 2).state = .active ∧
      (t.tri.commit.map (fun k => (k.arrival.set, k.cores))) = some (a.set, [0, 2]) ∧
      t.tri.disCore = 1 ∧ t.tri.disCause = 1 ∧ t.tri.disAt = s.now ∧ SameMemory s t ∧
      OnlyIn [.mode, .evr, .tri, .mer, .wpt, .wit, .leg, .can, .crt, .clk, .pwr, .elems] s t)) ∧
  (∀ (s : State) (core other : Fin 3) (outs : List OutVal) (evals : List Eval) (b : Arrival) (f : Nat),
    CoreRuns s core {} →
    s.tri.dead = false ∧ s.tri.duplex = true ∧ s.tri.lag = [] ∧ s.tri.commit = none ∧ s.tri.firstAt = some f →
    s.arrivals = [(other.val, b)] ∧ other ≠ core →
    (s.core core.val).inject = false →
    b.kind ≠ 0 ∨ b.sig ≠ (s.core core.val).sign 0 ∨ b.consumed ≠ (s.core core.val).readIdx ∨ b.set ≠ (s.core core.val).set →
    s.mode.mode = .run →
    Does (.checkpointTaskEnd core {} outs evals) s (fun t =>
      t.tri.dead = true ∧ t.tri.commit = none ∧ t.tri.ckpts = s.tri.ckpts ∧ (t.core 0).set = [] ∧ (t.core 1).set = [] ∧ (t.core 2).set = [] ∧
      t.mode.mode = .safe ∧ t.mode.cause = 0x2004 ∧ t.red.renewing = false ∧ SameMemory s t ∧
      OnlyIn [.mode, .evr, .tri, .mer, .wpt, .tsk, .ring, .cen, .red, .wit, .net, .leg, .sur, .dio, .aio, .saf, .can, .crt, .clk, .mem, .pwr, .elems, .sent] s t))

/-- VOTER_COMMIT_END of a commit whose write-set is one doubleword of the retentive MRAM writes exactly its masked bytes, counts one checkpoint and releases the agreeing cores with a fresh signature, an empty write-set and read index zero. REBUILD_COPY_END makes every byte of the rebuilt core's banks the donor's and leaves all other memory. SKEW_LIMIT_EXPIRED quarantines a core that lags, or, with no majority at A_1 + K, stops commits and enters SAFE. (R66, R72, R73, R74, R77, R78, R80, 03_triad_execution.md Table 03-5) -/
def Obligations.CommitsAndRebuildsEnd : Prop :=
  (∀ (s : State) (k : Commit) (e : WEntry),
    s.up = true ∨ s.mode.phase = .pfail →
    s.tri.commit = some k →
    s.tri.unit_ = .idle ∧ s.tri.rebuild = none ∧ k.old = [] →
    k.arrival.set = [e] ∧ 0x62000000 ≤ e.addr ∧ e.addr < 0x64000000 →
    Does (.voterCommitEnd) s (fun t =>
      t.mem.data = s.mem.data.writeMasked e.addr e.mask (leBytes 8 e.data) ∧
      t.tri.ckpts = (s.tri.ckpts + 1) % 2 ^ 64 ∧ t.tri.commit = none ∧ t.tri.firstAt = none ∧ t.tri.queue = [] ∧
      (∀ c ∈ k.cores, c < 3 → (t.core c).crc = crc64Ones ∧ (t.core c).set = [] ∧ (t.core c).since = 0 ∧ (t.core c).readIdx = 0 ∧ (t.core c).arrived = none ∧ (t.core c).regs = (s.core c).regs) ∧
      OnlyIn [.freeCtr, .mode, .evr, .tri, .mer, .wpt, .tsk, .ring, .cen, .red, .wit, .net, .leg, .sur, .dio, .aio, .saf, .can, .crt, .clk, .mem, .pwr, .elems, .sent] s t)) ∧
  (∀ (s : State) (r : Rebuild),
    s.up = true ∧ MemOk s →
    s.tri.rebuild = some r ∧ r.copied = false →
    Does (.rebuildCopyEnd) s (fun t =>
      (∀ i, i < 0x200000 → Memory.read t.mem.data (privBase r.core + i) = Memory.read s.mem.data (privBase r.donor + i)) ∧
      (∀ a, a < privBase r.core ∨ privBase r.core + 0x200000 ≤ a → Memory.read t.mem.data a = Memory.read s.mem.data a) ∧
      t.tri = { s.tri with rebuild := some { r with copied := true } } ∧
      OnlyIn [.mode, .tri, .mem] s t)) ∧
  (∀ (s : State) (l : Lag),
    s.up = true ∧ s.tri.duplex = false ∧ l.core < 3 →
    s.tri.lag.head? = some l ∧ l.firstAt + s.tri.skewK * 400 ≤ s.mer.raw →
    Does (.skewLimitExpired) s (fun t =>
      (t.core l.core).state = .quarantined ∧ t.tri.disCore = l.core ∧ t.tri.disCause = 2 ∧
      (∀ c, c < 3 → c ≠ l.core → t.core c = s.core c) ∧
      (∀ x ∈ t.tri.lag, x.core ≠ l.core) ∧
      OnlyIn [.freeCtr, .mode, .evr, .tri, .mer, .wpt, .wit, .leg, .can, .crt, .clk, .pwr, .elems] s t)) ∧
  (∀ (s : State) (f : Nat),
    s.up = true ∧ s.tri.dead = false ∧ s.tri.lag = [] ∧ s.tri.commit = none →
    s.tri.firstAt = some f ∧ f + s.tri.skewK * 400 ≤ s.mer.raw →
    s.mode.mode = .run ∨ s.mode.mode = .stop →
    Does (.skewLimitExpired) s (fun t =>
      t.tri.dead = true ∧ t.tri.firstAt = none ∧ t.mode.mode = .safe ∧ t.mode.cause = (if s.tri.duplex then 0x2004 else 0x2005) ∧ SameMemory s t ∧
      OnlyIn [.freeCtr, .mode, .evr, .tri, .mer, .wpt, .tsk, .ring, .cen, .red, .wit, .net, .leg, .sur, .dio, .aio, .saf, .can, .crt, .clk, .mem, .pwr, .elems, .sent] s t))

/-- The first core's nth shared read of DRAM makes one entry with the bytes in memory and returns them; a later core's read of the same address and width returns the entry's value whatever memory then holds; both advance that core's read index by one. A read that no region or PMP entry grants raises a load access fault and makes no entry. (R61, R64, R65, R66, 03_triad_execution.md Table 03-1) -/
def Obligations.SharedReadsGoThroughTheSampleQueue : Prop :=
  (∀ (s : State) (core : Fin 3) (run : CoreRun) (addr pc : Nat) (width : Fin 4) (user : Bool),
    CoreRuns s core run →
    0x100000000 ≤ addr ∧ addr + 2 ^ width.val ≤ 0x200000000 →
    s.tri.dead = false ∧ (afterRun s core run).tri.lag = [] →
    (afterRun s core run).mayReach addr (2 ^ width.val) user false = true →
    (ownBytes ((afterRun s core run).core core.val).set addr (2 ^ width.val)) = List.replicate (2 ^ width.val) none →
    ((afterRun s core run).core core.val).readIdx = (afterRun s core run).tri.queue.length ∧ (afterRun s core run).tri.queue.length < 4096 →
    Does (.sharedRead core run addr width pc user) s (fun t =>
      t.sent = .coreRead core.val addr (leNat ((afterRun s core run).mem.data.readN addr (2 ^ width.val))) :: s.sent ∧
      t.tri.queue.length = (afterRun s core run).tri.queue.length + 1 ∧
      (t.core core.val).readIdx = ((afterRun s core run).core core.val).readIdx + 1 ∧ OnlyIn [.tri, .sent] (afterRun s core run) t)) ∧
  (∀ (s : State) (core : Fin 3) (run : CoreRun) (addr pc : Nat) (width : Fin 4) (user : Bool) (e : QEntry),
    CoreRuns s core run →
    0x100000000 ≤ addr ∧ addr + 2 ^ width.val ≤ 0x200000000 →
    s.tri.dead = false ∧ (afterRun s core run).tri.lag = [] →
    (afterRun s core run).mayReach addr (2 ^ width.val) user false = true →
    (ownBytes ((afterRun s core run).core core.val).set addr (2 ^ width.val)) = List.replicate (2 ^ width.val) none →
    (afterRun s core run).tri.queue[((afterRun s core run).core core.val).readIdx]? = some e ∧ ((afterRun s core run).core core.val).readIdx < 4096 →
    e.addr = addr ∧ e.width = width.val ∧ e.err = 0 ∧ e.value < 2 ^ (8 * 2 ^ width.val) →
    (afterRun s core run).waiter core.val ((afterRun s core run).core core.val).readIdx = none →
    Does (.sharedRead core run addr width pc user) s (fun t =>
      t.sent = .coreRead core.val addr e.value :: s.sent ∧
      t.tri.queue = (afterRun s core run).tri.queue ∧
      (t.core core.val).readIdx = ((afterRun s core run).core core.val).readIdx + 1 ∧ OnlyIn [.tri, .sent] (afterRun s core run) t)) ∧
  (∀ (s : State) (core : Fin 3) (run : CoreRun) (addr pc : Nat) (width : Fin 4) (user : Bool),
    CoreRuns s core run →
    isPrivate addr (2 ^ width.val) = false ∧ addr ≠ timeCsr →
    (afterRun s core run).mayReach addr (2 ^ width.val) user false = false →
    Does (.sharedRead core run addr width pc user) s (fun t =>
      Trapped core 5 addr pc (afterRun s core run) t))

/-- A store to a shared address that is granted merges into or extends the core's write-set and folds one signature item; memory and everything outside the triad is as the run left it. An AMO, LR or SC on a shared address and a store out of reach raise a store/AMO access fault, and a write of 3 to 7 to CSR 0x8C0 an illegal-instruction exception with the instruction in mtval; each changes nothing but the core's trap registers. (R61, R62, R69, R70, R72, R73, 03_triad_execution.md Table 03-3) -/
def Obligations.SharedStoresWaitInTheWriteSet : Prop :=
  (∀ (s : State) (core : Fin 3) (run : CoreRun) (addr data pc : Nat) (width : Fin 4) (user : Bool),
    CoreRuns s core run →
    isPrivate addr (2 ^ width.val) = false ∧ storeCause addr width.val = none →
    (afterRun s core run).mayReach addr (2 ^ width.val) user true = true →
    (storeInto ((afterRun s core run).core core.val).set addr (2 ^ width.val) (data % 2 ^ (8 * 2 ^ width.val))).length ≤ 1024 →
    Does (.sharedStore core run addr width data pc user) s (fun t =>
      (t.core core.val).set = storeInto ((afterRun s core run).core core.val).set addr (2 ^ width.val) (data % 2 ^ (8 * 2 ^ width.val)) ∧
      (t.core core.val).crc = foldWords ((afterRun s core run).core core.val).crc (4 * 2 ^ 60 + width.val * 2 ^ 56 + addr % 2 ^ 48, data % 2 ^ (8 * 2 ^ width.val)) ∧
      (t.core core.val).regs = ((afterRun s core run).core core.val).regs ∧
      OnlyIn [.tri] (afterRun s core run) t)) ∧
  (∀ (s : State) (core : Fin 3) (run : CoreRun) (addr data pc : Nat) (width : Fin 4) (user : Bool),
    CoreRuns s core run →
    isPrivate addr (2 ^ width.val) = false →
    (afterRun s core run).mayReach addr (2 ^ width.val) user true = false →
    Does (.sharedStore core run addr width data pc user) s (fun t =>
      Trapped core 7 addr pc (afterRun s core run) t)) ∧
  (∀ (s : State) (core : Fin 3) (run : CoreRun) (addr pc : Nat) (user : Bool),
    CoreRuns s core run →
    isPrivate addr 1 = false →
    Does (.sharedAmoFault core run addr pc user) s (fun t =>
      Trapped core 7 addr pc (afterRun s core run) t)) ∧
  (∀ (s : State) (core : Fin 3) (run : CoreRun) (value pc bits : Nat) (user : Bool),
    CoreRuns s core run →
    3 ≤ value ∧ value ≤ 7 →
    Does (.checkpointCsrIllegal core run value pc bits user) s (fun t =>
      Trapped core 2 bits pc (afterRun s core run) t))

/-- At a delivery point the first core makes an entry with the pending-interrupt state, takes it, and the events that have no pending bit are taken up. A core at WFI with nothing pending waits and nothing else changes; with something pending it makes its entry and goes on. (R64, R68, R439, R444) -/
def Obligations.InterruptsAreReadThroughTheQueue : Prop :=
  (∀ (s : State) (core : Fin 3) (run : CoreRun),
    CoreRuns s core run →
    s.tri.dead = false ∧ (afterRun s core run).tri.lag = [] ∧ ((afterRun s core run).core core.val).since % 256 = 0 →
    ((afterRun s core run).core core.val).readIdx = (afterRun s core run).tri.queue.length ∧ (afterRun s core run).tri.queue.length < 4096 →
    Does (.interruptDeliveryPoint core run) s (fun t =>
      (t.core core.val).irqTaken = (afterRun s core run).pendingIrq ∧ (t.core core.val).readIdx = ((afterRun s core run).core core.val).readIdx + 1 ∧
      t.tri.queue = (afterRun s core run).tri.queue ++ [{ addr := pendingState, width := 3, value := (afterRun s core run).pendingIrq, maker := core.val }] ∧
      t.sys = { s.sys with busIrq := false, snapIrq := false } ∧ t.clk = { s.clk with nmi := false } ∧
      OnlyIn [.tri, .sys, .clk] (afterRun s core run) t)) ∧
  (∀ (s : State) (core : Fin 3) (run : CoreRun),
    CoreRuns s core run →
    ((afterRun s core run).queueOf core.val)[((afterRun s core run).core core.val).readIdx]? = none ∧ (afterRun s core run).pendingIrq = 0 →
    Does (.wfi core run) s (fun t =>
      (t.core core.val).wfi = true ∧ (t.core core.val).regs = ((afterRun s core run).core core.val).regs ∧
      OnlyIn [.tri] (afterRun s core run) t)) ∧
  (∀ (s : State) (core : Fin 3),
    s.up = true ∧ s.tri.dead = false ∧ s.tri.lag = [] ∧ (s.core core.val).runs = true ∧ (s.core core.val).wfi = true →
    s.pendingIrq ≠ 0 ∧ (s.core core.val).readIdx = s.tri.queue.length ∧ s.tri.queue.length < 4096 →
    Does (.wfi core {}) s (fun t =>
      (t.core core.val).wfi = false ∧ (t.core core.val).irqTaken = s.pendingIrq ∧
      OnlyIn [.tri, .sys, .clk] s t))

/-- An item with a good CRC and the expected SEQ is accepted and the next SEQ is expected; a RESTART item with SEQ 0 resets the expectation; one with a bad CRC or another SEQ is discarded and counted in its counter, the received SEQ + 1 is expected, and the discard is recorded, the first of a run as itself and the rest as repeats. (R85) -/
def Obligations.QueueItemsAreAcceptedInSequence : Prop :=
  (∀ (s : State) (q : Fin 256) (b : List Byte),
    s.up = true ∧ 16 ≤ b.length ∧ itemCrcOk b = true →
    itemSeq b = Table.get s.tri.expect 0 q.val →
    Does (.queueItemCheck q b) s (fun t =>
      Table.get t.tri.expect 0 q.val = (itemSeq b + 1) % 2 ^ 32 ∧ t.tri.discCrc = s.tri.discCrc ∧ t.tri.discSeq = s.tri.discSeq ∧
      q.val ∉ t.tri.discarding ∧
      OnlyIn [.tri] s t)) ∧
  (∀ (s : State) (q : Fin 256) (b : List Byte),
    s.up = true ∧ 16 ≤ b.length ∧ itemCrcOk b = true →
    itemType b = 0xFFFF ∧ itemSeq b = 0 →
    Does (.queueItemCheck q b) s (fun t =>
      Table.get t.tri.expect 0 q.val = 1 ∧ t.tri.discCrc = s.tri.discCrc ∧ t.tri.discSeq = s.tri.discSeq ∧
      OnlyIn [.tri] s t)) ∧
  (∀ (s : State) (q : Fin 256) (b : List Byte),
    s.up = true ∧ 16 ≤ b.length ∧ itemCrcOk b = false →
    Does (.queueItemCheck q b) s (fun t =>
      Table.get t.tri.expect 0 q.val = (itemSeq b + 1) % 2 ^ 32 ∧ t.tri.discCrc = satInc 32 s.tri.discCrc ∧ t.tri.discSeq = s.tri.discSeq ∧
      Records s t 0x2010 [q.val] ∧
      (t.evr.staged.length < evrDepth → ∃ o ∈ t.evr.staged.drop s.evr.staged.length, o.rep = s.tri.discarding.contains q.val) ∧
      OnlyIn [.evr, .tri] s t)) ∧
  (∀ (s : State) (q : Fin 256) (b : List Byte),
    s.up = true ∧ 16 ≤ b.length ∧ itemCrcOk b = true →
    itemSeq b ≠ Table.get s.tri.expect 0 q.val ∧ ¬(itemType b = 0xFFFF ∧ itemSeq b = 0) →
    Does (.queueItemCheck q b) s (fun t =>
      Table.get t.tri.expect 0 q.val = (itemSeq b + 1) % 2 ^ 32 ∧ t.tri.discSeq = satInc 32 s.tri.discSeq ∧ t.tri.discCrc = s.tri.discCrc ∧
      Records s t 0x2010 [q.val] ∧
      (t.evr.staged.length < evrDepth → ∃ o ∈ t.evr.staged.drop s.evr.staged.length, o.rep = s.tri.discarding.contains q.val) ∧
      OnlyIn [.evr, .tri] s t))

/-- A communication core whose heartbeat is 10 ms old and that has retries left is reset alone: its resets count, its heartbeat counts anew, and the voted part of the triad is untouched. FAULT_INJECTION where it is enabled, at Engineer level in STOP or RUN outside duplex, and TRI_INJECT mark the next signature of an active core for corruption and change nothing else; a core number above 2 is answered RANGE. (R49, R86, R88) -/
def Obligations.CommunicationCoresAndInjection : Prop :=
  (∀ (s : State),
    s.up = true ∧ s.tri.cc1.inReset = false ∧ s.tri.cc1.lastBeat + 4000000 ≤ s.mer.raw →
    s.retryFree 0x0604 = true →
    Does (.ccHeartbeatTimeout 1) s (fun t =>
      t.tri = { s.tri with cc1 := { inReset := false, lastBeat := s.mer.raw, resets := satInc 32 s.tri.cc1.resets } } ∧
      t.leg.reasm = [] ∧ t.leg.sessions = s.leg.sessions ∧
      OnlyIn [.mode, .evr, .tri, .leg, .aio] s t)) ∧
  (∀ (s : State),
    s.up = true ∧ s.tri.cc0.inReset = false ∧ s.tri.cc0.lastBeat + 4000000 ≤ s.mer.raw →
    s.retryFree 0x0603 = true →
    Does (.ccHeartbeatTimeout 0) s (fun t =>
      t.tri = { s.tri with cc0 := { inReset := false, lastBeat := s.mer.raw, resets := satInc 32 s.tri.cc0.resets } } ∧
      t.leg.sessions = [] ∧ t.leg.directory = [] ∧
      OnlyIn [.mode, .evr, .tri, .mer, .leg] s t)) ∧
  (∀ (s : State) (who : Who) (core : Nat),
    Asked s who 2 ∧ core < 3 ∧ s.elB 0x2000C 1 false = true →
    s.mode.mode = .stop ∨ s.mode.mode = .run →
    s.tri.duplex = false ∧ (s.tri.core core).state = .active →
    Does (.faultInjection who core) s (fun t =>
      t.core core = { s.core core with inject := true } ∧
      (∀ d, d < 3 → d ≠ core → t.core d = s.core d) ∧
      Answered t .ok 0 ∧
      OnlyIn [.tri, .net, .sent] s t)) ∧
  (∀ (s : State) (who : Who) (core : Nat),
    Asked s who 0 ∧ 3 ≤ core →
    Does (.faultInjection who core) s (fun t =>
      Answered t .range 0 ∧
      OnlyIn [.net, .sent] s t)) ∧
  (∀ (s : State) (agent : Agent) (core : Fin 4),
    s.up = true ∧ core.val < 3 ∧ (s.tri.core core.val).state = .active →
    Does (.triInject agent core) s (fun t =>
      t.core core.val = { s.core core.val with inject := true } ∧
      (∀ d, d < 3 → d ≠ core.val → t.core d = s.core d) ∧
      OnlyIn [.tri] s t))

/-- For every state the reported Meridian time is the formula of R92 rounded down to whole nanoseconds; a change of ρ keeps the raw count, sets ρ, moves M by at most 2⁻³³ ns, and leaves the rest of Meridian alone; a ρ that the servo clamps fits 32 signed bits. (R92) -/
def Obligations.MeridianTimeIsTheFormulaAndSurvivesRhoChanges : Prop :=
  (∀ s : State, (s.now : Rat) ≤ meridian s.mer.offset s.mer.raw s.mer.rho ∧ meridian s.mer.offset s.mer.raw s.mer.rho < (s.now : Rat) + 1) ∧
  (∀ (m : MeridianPart) (r : Int), (m.setRho r).rho = r ∧ (m.setRho r).raw = m.raw ∧
    meridian (m.setRho r).offset m.raw r ≤ meridian m.offset m.raw m.rho + 1 / 2 ^ 33 ∧
    meridian m.offset m.raw m.rho ≤ meridian (m.setRho r).offset m.raw r + 1 / 2 ^ 33 ∧
    m.setRho r = { m with rho := r, offset := (m.setRho r).offset }) ∧
  (∀ r : Int, -(2 ^ 31) ≤ clampRho r ∧ clampRho r < 2 ^ 31 ∧ (-(2 ^ 31) ≤ r → r < 2 ^ 31 → clampRho r = r))

/-- On a plant port a two-step Sync waits for its Follow_Up and changes only Meridian; a one-step Sync of the selected master with a path delay is a valid measurement, which in FREE starts ACQUIRING with that offset; a matching Follow_Up ends the wait; a delay response that matches its request gives the path delay of R104. On a ring port a Sync leaves by the other ring port. A message of bad length, version or correction is counted and recorded as a violation, and one with an unsupported option is counted only. (R96, R97, R104, R106, R107, R109, 04_meridian_and_waypoints.md Table 04-1, Table 04-3) -/
def Obligations.PtpMessagesAreMeasuredForwardedOrCounted : Prop :=
  (∀ (s : State) (h : PtpHead) (l : Int),
    s.up = true ∧ PtpGood s h ∧ h.port.val < 2 →
    Does (.ptpSyncReceived h none l) s (fun t =>
      (t.mer.port h.port).sync = some (h.seq, s.ingress h.port - h.correction * 65536) ∧
      t.mer.state = s.mer.state ∧ t.mer.offset = s.mer.offset ∧ t.mer.rho = s.mer.rho ∧ t.mer.master = s.mer.master ∧
      OnlyIn [.mer] s t)) ∧
  (∀ (s : State) (h : PtpHead) (l : Int) (o : MTime) (d : Int),
    s.up = true ∧ PtpGood s h ∧ h.port.val < 2 →
    s.mer.master = some (sourceKey h.source h.port) ∧ (s.mer.port h.port).delay = some d →
    s.mer.state = .free ∧ s.mer.plan = none →
    Does (.ptpSyncReceived h (some o) l) s (fun t =>
      t.mer.state = .acquiring ∧ t.mer.lastMeas = s.mer.raw ∧
      t.mer.count = [s.ingress h.port - h.correction * 65536 - o * 65536 - d - (s.mer.port h.port).asym] ∧
      OnlyIn [.mer] s t)) ∧
  (∀ (s : State) (h : PtpHead) (l : Int) (o : Option MTime),
    s.up = true ∧ PtpGood s h ∧ 2 ≤ h.port.val →
    Does (.ptpSyncReceived h o l) s (fun t =>
      t.sent = .ptp (5 - h.port.val) 0 h.seq s.now :: s.sent ∧
      OnlyIn [.net, .sent] s t)) ∧
  (∀ (s : State) (h : PtpHead) (l : Int) (o : Option MTime),
    s.up = true ∧ h.optionOk = true ∧ h.clock ≠ s.ownClock →
    h.lengthOk = false ∨ h.versionOk = false ∨ h.correction < 0 ∨ 1000000000 < h.correction →
    Does (.ptpSyncReceived h o l) s (fun t =>
      t.mer.violations = satInc 32 s.mer.violations ∧ t.mer.offset = s.mer.offset ∧ t.mer.rho = s.mer.rho ∧ t.mer.state = s.mer.state ∧
      Records s t 0x4009 [h.source] ∧
      OnlyIn [.evr, .mer] s t)) ∧
  (∀ (s : State) (h : PtpHead) (l : Int) (o : Option MTime),
    s.up = true ∧ h.optionOk = false →
    Does (.ptpSyncReceived h o l) s (fun t =>
      t.mer = { s.mer with unsupported := satInc 32 s.mer.unsupported } ∧
      OnlyIn [.mer] s t)) ∧
  (∀ (s : State) (h : PtpHead) (o : MTime) (x : Int),
    s.up = true ∧ PtpGood s h ∧ h.port.val < 2 →
    (s.mer.port h.port).sync = some (h.seq, x) →
    s.mer.master ≠ some (sourceKey h.source h.port) →
    Does (.ptpFollowUpReceived h o) s (fun t =>
      (t.mer.port h.port).sync = none ∧ (t.mer.port h.port).t1 = o * 65536 ∧ (t.mer.port h.port).t2 = x - h.correction * 65536 ∧
      t.mer.state = s.mer.state ∧ t.mer.rho = s.mer.rho ∧ t.mer.offset = s.mer.offset ∧
      OnlyIn [.mer] s t)) ∧
  (∀ (s : State) (h : PtpHead) (ta tb : MTime) (x : Int),
    s.up = true ∧ PtpGood s h →
    (s.mer.port h.port).req = some (h.seq, x) →
    Does (.ptpDelayResponseReceived h true ta tb) s (fun t =>
      (t.mer.port h.port).req = none ∧
      (t.mer.port h.port).delay = some (Int.fdiv ((s.ingress h.port - x) - (tb - ta) * 65536 - h.correction * 65536) 2) ∧
      t.mer.state = s.mer.state ∧ t.mer.rho = s.mer.rho ∧ t.mer.offset = s.mer.offset ∧
      OnlyIn [.mer] s t)) ∧
  (∀ (s : State) (h : PtpHead) (ta tb : MTime) (x : Int),
    s.up = true ∧ PtpGood s h →
    (s.mer.port h.port).req = some (h.seq, x) →
    Does (.ptpDelayResponseReceived h false ta tb) s (fun t =>
      (t.mer.port h.port).req = none ∧
      (t.mer.port h.port).delay = some (Int.fdiv (((s.mer.port h.port).t2 - (s.mer.port h.port).t1) + (ta * 65536 - x - h.correction * 65536)) 2) ∧
      OnlyIn [.mer] s t))

/-- An Announce on a plant port is kept with its instant; where it is the only source, trusted, and the module may not be master, its source is the master. An untrusted source is trusted again 600 s after its last violation. Three Sync intervals of silence empty the count of ACQUIRING and take LOCKED, TRACKING or BREAK to HOLDOVER from that instant; three Announce intervals of the master's silence forget it. A holdover beyond its limit is reported once. A plan to step keeps the state. (R96, R97, R98, R103, R108, R109, 04_meridian_and_waypoints.md Table 04-1) -/
def Obligations.MastersAreChosenAndLost : Prop :=
  (∀ (s : State) (h : PtpHead) (a : Announce),
    s.up = true ∧ PtpGood s h ∧ h.port.val < 2 →
    s.mer.sources = [] ∧ s.trusted h.source = true ∧ s.elB 0x40002 3 false = false →
    Does (.ptpAnnounceReceived h a) s (fun t =>
      t.mer.sources = [(sourceKey h.source h.port, { announce := some a, heard := s.mer.raw, clock := h.clock })] ∧
      t.mer.master = some (sourceKey h.source h.port) ∧ t.mer.gm = some a.gm ∧ t.mer.plantMaster = false ∧
      t.mer.utcValid = a.utcValid ∧ t.mer.leap = a.leap ∧ t.mer.ptpScale = (a.ptpTimescale && s.mer.stepped) ∧
      OnlyIn [.evr, .mer] s t)) ∧
  (∀ (s : State) (source : Nat),
    s.up = true ∧ (Table.get s.mer.offenders {} source).untrusted = true →
    (Table.get s.mer.offenders {} source).violations.headD 0 + 240000000000 ≤ s.mer.raw →
    Does (.untrustedSourceExpiry source) s (fun t =>
      t.trusted source = true ∧ t.mer.violations = s.mer.violations ∧ t.mer.sources = s.mer.sources ∧
      OnlyIn [.evr, .mer] s t)) ∧
  (∀ (s : State),
    s.up = true ∧ s.mer.plan = none ∧ s.mer.lastMeas + 3 * s.syncTicks ≤ s.mer.raw →
    s.mer.state = .locked ∨ s.mer.state = .tracking ∨ s.mer.state = .broken →
    Does (.syncTimeout) s (fun t =>
      t.mer.state = .holdover ∧ t.mer.holdSince = s.mer.raw ∧ t.mer.holdReported = false ∧ t.mer.raw = s.mer.raw ∧
      OnlyIn [.evr, .mer] s t)) ∧
  (∀ (s : State),
    s.up = true ∧ s.mer.plan = none ∧ s.mer.lastMeas + 3 * s.syncTicks ≤ s.mer.raw →
    s.mer.state = .acquiring →
    Does (.syncTimeout) s (fun t =>
      t.mer = { s.mer with count := [], points := [] } ∧
      OnlyIn [.mer] s t)) ∧
  (∀ (s : State) (k : Nat),
    s.up = true ∧ s.mer.master = some k →
    (Table.get s.mer.sources {} k).heard + 3 * s.announceTicks ≤ s.mer.raw →
    s.mer.plan = none ∧ s.mer.state = .locked →
    Does (.announceReceiptTimeout) s (fun t =>
      Table.find t.mer.sources k = none ∧ t.mer.master ≠ some k ∧ t.mer.state = .holdover ∧ t.mer.holdSince = s.mer.raw ∧
      OnlyIn [.evr, .mer] s t)) ∧
  (∀ (s : State),
    s.up = true ∧ s.mer.state = .holdover ∧ s.mer.holdReported = false →
    s.mer.holdSince + s.el 0x40004 1 60 * 400000000 ≤ s.mer.raw →
    Does (.holdoverLimitExceeded) s (fun t =>
      t.mer = { s.mer with holdReported := true } ∧ Records s t 0x4007 [] ∧
      OnlyIn [.mer, .evr] s t))

/-- MER_STEP_GO with no step planned plans the value of MER_STEP at the first multiple of 400,000 raw counts at least 400,000 ahead. At that count the step enters TRACKING with OFFSET moved by Δ, is counted and recorded, and no slot stays staged. The Custodian's step command is accepted in BREAK. A capture copies RAW and M of the tick. A completed operating second goes to MRAM once the recorder runs. Everything else of the state is as before. (R95, R97, R99, R100, R112, 04_meridian_and_waypoints.md Table 04-10) -/
def Obligations.StepsAreCommandedPlannedAndTaken : Prop :=
  (∀ (s : State) (agent : Agent),
    s.up = true ∧ s.mer.plan = none →
    Does (.merStepGo agent) s (fun t =>
      (t.mer.plan.map (fun p => (p.delta, p.code))) = some (s.mer.stepReg, if s.mer.stepped then 0x4004 else 0x4001) ∧
      (t.mer.plan.map (fun p => (p.atRaw % 400000, decide (s.mer.raw + 400000 ≤ p.atRaw), decide (p.atRaw < s.mer.raw + 800000)))) = some (0, true, true) ∧
      t.mer.offset = s.mer.offset ∧ t.mer.rho = s.mer.rho ∧ t.mer.raw = s.mer.raw ∧ OnlyIn [.mer] s t)) ∧
  (∀ (s : State) (p : StepPlan),
    s.up = true ∧ s.mer.plan = some p ∧ p.atRaw ≤ s.mer.raw →
    Does (.meridianStep) s (fun t =>
      t.mer.offset = (s.mer.setRho (clampRho s.mer.rhoF)).offset + p.delta * 2 ^ 32 ∧ t.mer.rho = clampRho s.mer.rhoF ∧ t.mer.raw = s.mer.raw ∧
      t.mer.plan = none ∧ t.mer.steps = s.mer.steps + 1 ∧ t.mer.stepped = true ∧ t.mer.state = .tracking ∧ t.wpt.staged = [] ∧
      Records s t p.code [i64 p.delta] ∧
      OnlyIn [.evr, .mer, .wpt, .tsk] s t)) ∧
  (∀ (s : State) (who : Who),
    s.up = true ∧ s.mode.lifeCycle ≠ .retired ∧ s.mer.state = .broken ∧ s.leg.grant.isSome = true →
    Does (.stepOnBreakCommand who) s (fun t =>
      t.mer = { s.mer with stepCmd := true } ∧ Answered t .ok 0 ∧
      OnlyIn [.mer, .net, .sent] s t)) ∧
  (∀ (s : State) (who : Who),
    s.up = true ∧ s.mer.state ≠ .broken →
    Does (.stepOnBreakCommand who) s (fun t =>
      Answered t .stateRefused s.stateDetail ∧
      OnlyIn [.net, .sent] s t)) ∧
  (∀ (s : State) (agent : Agent),
    s.up = true →
    Does (.merCapture agent) s (fun t =>
      t.mer = { s.mer with capRaw := s.mer.raw, capNow := s.now, capDone := true } ∧
      OnlyIn [.mer] s t)) ∧
  (∀ (s : State),
    s.evr.ready = true ∧ s.mer.opSecs < s.mer.opMs / 1000 →
    Does (.operatingSecondWrite) s (fun t =>
      t.mer = { s.mer with opSecs := s.mer.opMs / 1000 } ∧
      OnlyIn [.mer] s t)) ∧
  (∀ (s : State) (agent : Agent) (reg : Fin 2),
    s.up = true →
    Does (.merLowReadLatch agent reg) s (fun t =>
      Table.find (t.sys.bank agent).latchedHigh (0x4000400C + 8 * reg.val) = some (s.regRead (s.sys.bank agent) 4 (0x00C + 8 * reg.val)) ∧
      t.sent.head? = some (.busRead agent.code (0x40004008 + 8 * reg.val) (s.readValue agent (0x40004008 + 8 * reg.val) 2)) ∧
      OnlyIn [.sys, .sent] s t))

/-- A delay request leaves its port with the next sequence number and its egress time is kept; a plant master's due two-step Sync leaves with its Follow_Up; the claim's holder with a head on the ring sends a due ring Sync of one originTimestamp in both directions. Only Meridian, the ports' counts and the messages sent change. (R96, R104, R107, R108) -/
def Obligations.MasterRolesSendTheirMessages : Prop :=
  (∀ (s : State) (p : Port),
    s.up = true →
    Does (.ptpDelayRequestSend p) s (fun t =>
      (t.mer.port p).reqSeq = ((s.mer.port p).reqSeq + 1) % 65536 ∧ (t.mer.port p).req = some (((s.mer.port p).reqSeq + 1) % 65536, s.egress p) ∧
      (t.sent = .ptp p (if 2 ≤ p.val ∨ s.el 0x40002 0 0 = 2 then 2 else 1) (((s.mer.port p).reqSeq + 1) % 65536) s.now :: s.sent) ∧
      OnlyIn [.mer, .net, .sent] s t)) ∧
  (∀ (s : State) (p : Port),
    s.up = true ∧ s.mer.plantMaster = true ∧ p.val < 2 ∧ Table.find s.mer.plantSyncAt p = none →
    Does (.plantMasterSyncSend p) s (fun t =>
      t.mer.syncSeq = (s.mer.syncSeq + 1) % 65536 ∧ Table.find t.mer.plantSyncAt p = some s.mer.raw ∧
      t.sent = .ptp p 8 t.mer.syncSeq (Int.fdiv (s.egress p) 65536) :: .ptp p 0 t.mer.syncSeq s.now :: s.sent ∧
      OnlyIn [.mer, .net, .sent] s t)) ∧
  (∀ (s : State),
    s.up = true ∧ s.ownsClaim = true ∧ s.heads.isEmpty = false ∧ s.mer.ringSyncAt = none →
    Does (.ringSyncSend) s (fun t =>
      t.mer = { s.mer with syncSeq := (s.mer.syncSeq + 1) % 65536, ringSyncAt := some s.mer.raw } ∧
      t.sent = .ringSync s.now ((s.mer.syncSeq + 1) % 65536) :: s.sent ∧
      OnlyIn [.mer, .net, .sent] s t))

/-- A host's write of a slot from 384 up that no check of R115 refuses stands in the slot with its read-only fields kept; one of a firmware slot is refused PROTECTED and changes nothing. Staging notes whether Meridian was locked. A slot that is due and has no action, is held by the mode, or skips an unsynchronised instant, fires: FIRED counts, a one-shot is disarmed, a series moves to its next instant; nothing outside the slot acts. A due pattern start in RUN starts its table. (R113, R114, R115, R116, R117, R118, R449, 04_meridian_and_waypoints.md Table 04-6, Table 04-7) -/
def Obligations.WaypointSlotsAreWrittenStagedAndFired : Prop :=
  (∀ (s : State) (who : Who) (slot : Fin 1024) (r : WptRec),
    Asked s who 2 ∧ s.slotFault slot r = none →
    Does (.waypointSlotWrite who slot r) s (fun t =>
      t.slot slot = { r with suppressed := (s.slot slot).suppressed, unsync := (s.slot slot).unsync, late := (s.slot slot).late, fired := (s.slot slot).fired, missed := (s.slot slot).missed } ∧
      (∀ n, n ≠ slot.val → t.slot n = s.slot n) ∧
      Answered t .ok 0 ∧ slot.val ∉ t.wpt.staged ∧
      OnlyIn [.wpt, .net, .sent] s t)) ∧
  (∀ (s : State) (who : Who) (slot : Fin 1024) (r : WptRec),
    Asked s who 2 ∧ slot.val < 384 →
    Does (.waypointSlotWrite who slot r) s (fun t =>
      Answered t .protected_ 0 ∧
      OnlyIn [.net, .sent] s t)) ∧
  (∀ (s : State) (agent : Agent),
    s.up = true →
    Does (.wptLoad agent) s (fun t =>
      (t.sys.bank agent).wptRec = wordsOf 8 (wptBytes (s.slot (s.sys.bank agent).wptSel)) ∧ (t.sys.bank agent).wptResult = 2 ^ 31 ∧
      OnlyIn [.sys] s t)) ∧
  (∀ (s : State) (agent : Agent),
    s.up = true ∧ 384 ≤ (s.sys.bank agent).wptSel ∧ (s.sys.bank agent).wptSel < 1024 →
    s.slotFault (s.sys.bank agent).wptSel (wptOfBytes ((s.sys.bank agent).wptRec.flatMap (leBytes 4))) = none →
    Does (.wptArm agent) s (fun t =>
      (t.slot (s.sys.bank agent).wptSel).instant = (wptOfBytes ((s.sys.bank agent).wptRec.flatMap (leBytes 4))).instant ∧
      (t.slot (s.sys.bank agent).wptSel).enable = (wptOfBytes ((s.sys.bank agent).wptRec.flatMap (leBytes 4))).enable ∧
      OnlyIn [.sys, .wpt] s t)) ∧
  (∀ (s : State) (slot : Fin 1024),
    s.up = true ∧ (s.slot slot).enable = true ∧ (s.slot slot).instant ≤ s.now + 4000 ∧ s.wpt.staged.contains slot.val = false →
    Does (.waypointStaging slot) s (fun t =>
      t.slot slot = { s.slot slot with unsync := decide (s.mer.state ≠ .locked) } ∧ t.wpt.staged = s.wpt.staged ++ [slot.val] ∧
      OnlyIn [.wpt] s t)) ∧
  (∀ (s : State) (n : Nat),
    s.up = true ∧ s.dueSlots = [n] ∧ s.wpt.lates.contains n = false →
    (s.slot n).action = 0 ∧ (s.slot n).skipUnsync = false →
    Does (.waypointFire) s (fun t =>
      (t.slot n).fired = ((s.slot n).fired + 1) % 65536 ∧ (t.slot n).missed = (s.slot n).missed ∧ (t.slot n).late = false ∧
      ((s.slot n).period = 0 → (t.slot n).enable = false ∧ (t.slot n).instant = (s.slot n).instant) ∧
      ((s.slot n).period ≠ 0 → (s.slot n).count = 1 → (t.slot n).enable = false ∧ (t.slot n).count = 0) ∧
      ((s.slot n).period ≠ 0 → (s.slot n).count ≠ 1 → (t.slot n).enable = true ∧ (t.slot n).instant = (s.slot n).instant + (s.slot n).period ∧ (t.slot n).count = (s.slot n).count - 1) ∧
      OnlyIn [.wpt] s t)) ∧
  (∀ (s : State) (n : Nat),
    s.up = true ∧ s.dueSlots = [n] ∧ s.wpt.lates.contains n = false ∧ s.wpt.staged.contains n = false →
    (s.slot n).skipUnsync = true ∧ s.mer.state ≠ .locked →
    Does (.waypointFire) s (fun t =>
      (t.slot n).fired = ((s.slot n).fired + 1) % 65536 ∧ (t.slot n).missed = satAdd 16 (s.slot n).missed 1 ∧ t.wpt.last = n ∧
      Records s t 0x4011 [n, 1] ∧ OnlyIn [.wpt, .evr] s t)) ∧
  (∀ (s : State) (n : Nat),
    s.up = true ∧ s.dueSlots = [n] ∧ s.wpt.lates.contains n = false →
    (s.slot n).skipUnsync = false ∧ (s.slot n).action = 5 ∧ (s.mode.mode = .stop ∨ s.mode.mode = .safe) →
    Does (.waypointFire) s (fun t =>
      (t.slot n).fired = ((s.slot n).fired + 1) % 65536 ∧ (t.slot n).suppressed = true ∧
      OnlyIn [.wpt] s t)) ∧
  (∀ (s : State) (n : Nat),
    s.up = true ∧ s.dueSlots = [n] ∧ s.wpt.lates.contains n = false ∧ s.mode.mode = .run →
    (s.slot n).skipUnsync = false ∧ (s.slot n).action = 5 ∧ s.el (0x60300 + (s.slot n).target) 0 0 ≠ 0 →
    Does (.waypointFire) s (fun t =>
      t.dio = { s.dio with runs := s.dio.runs ++ [{ table := (s.slot n).target, mask := (s.slot n).arg, slot := n, at_ := (s.slot n).instant }] } ∧
      (t.slot n).fired = ((s.slot n).fired + 1) % 65536 ∧ (t.slot n).suppressed = false ∧
      OnlyIn [.wpt, .dio] s t))

/-- At its freeze instant a latched cycle's image is frozen and the task takes an idle triad or waits behind what runs. A cycle past C + L - G that has not committed is noted missed and late, and nothing else changes for a task that does not own the ring. At the release instant a value handed over for a digital output stage is the stage's command and is no longer handed over; memory is as before. (R20, R21, R126, R127, R131, R135, R277, 05_cyclic_program_model.md R126 to R135) -/
def Obligations.TaskCyclesFreezeMissAndRelease : Prop :=
  (∀ (s : State) (task : Fin 16),
    s.up = true ∧ s.mode.mode = .run ∧ (s.taskRun task).latched = true ∧ (s.taskRun task).freeze ≤ s.now ∧ s.tri.unit_ = .idle →
    Does (.inputImageFreeze task) s (fun t =>
      t.taskRun task = { s.taskRun task with latched := false, frozen := true, inset := [], state := .running } ∧
      t.tri = { s.tri with unit_ := .task task } ∧
      (∀ k, k ≠ task.val → t.taskRun k = s.taskRun k) ∧
      OnlyIn [.tsk, .tri] s t)) ∧
  (∀ (s : State) (task : Fin 16),
    s.up = true ∧ s.mode.mode = .run ∧ (s.taskRun task).latched = true ∧ (s.taskRun task).freeze ≤ s.now ∧ s.tri.unit_ ≠ .idle →
    Does (.inputImageFreeze task) s (fun t =>
      (t.taskRun task).frozen = true ∧ t.tri = { s.tri with preempted := s.tri.preempted ++ [.task task] } ∧
      OnlyIn [.tsk, .tri] s t)) ∧
  (∀ (s : State) (task : Fin 16),
    s.up = true ∧ s.mode.mode = .run ∧ (s.taskRun task).busy = true ∧ (s.taskRun task).missed = false ∧ s.taskDeadline task ≤ s.now →
    (s.taskRec task).ringOwner = false →
    Does (.taskCommitDeadlineMissed task) s (fun t =>
      t.taskRun task = { s.taskRun task with missed := true, state := .late } ∧
      OnlyIn [.tsk] s t)) ∧
  (∀ (s : State) (task : Fin 16),
    s.up = true ∧ s.mode.mode = .run ∧ (s.taskRun task).busy = true ∧ (s.taskRun task).missed = false ∧ s.taskDeadline task ≤ s.now →
    (s.taskRec task).ringOwner = true ∧ (s.exchHeads task).isEmpty = false →
    Does (.taskCommitDeadlineMissed task) s (fun t =>
      (t.taskRun task).missed = true ∧ (t.taskRun task).state = .late ∧ t.sent.length = s.sent.length + 1 ∧
      OnlyIn [.tsk, .ring, .net, .sent] s t)) ∧
  (∀ (s : State) (task : Fin 16) (n : Fin 32) (v : Nat) (i : MTime),
    s.up = true ∧ v ≤ 1 ∧ i ≤ s.now ∧ s.red.staged = [] ∧ s.sur.cmdPts = [] →
    (s.taskRun task).handed = [{ at_ := i, outs := [{ chan := .dio n, value := v }] }] ∧ (s.taskRun task).stopAt = none →
    s.dioMode n = 2 ∧ (s.dioCh n).unlatch = false →
    Does (.outputStageRelease task) s (fun t =>
      (t.dioCh n).cmd = (v == 1) ∧ (t.taskRun task).handed = [] ∧
      (∀ k, k ≠ n.val → t.dioCh k = s.dioCh k) ∧
      OnlyIn [.mode, .tsk, .dio, .sur, .mem] s t ∧
      SameMemory s t))

/-- A single value in range, from a client of its declared privilege, stands at once where no task runs and waits for its task's cycle start where tasks run; one below that privilege is refused PRIVILEGE. The commit of the staged constants empties the staging entry and, where no task runs, gives each reading task its constant. A program container that passes its checks in STOP is staged and nothing else changes; one in another mode is refused STATE-REFUSED. (R147, R148, R149, R150) -/
def Obligations.OnlineValuesAndContainersAreAccepted : Prop :=
  (∀ (s : State) (who : Who) (e n value : Nat) (d : SingleDecl) (x : Desc),
    s.up = true ∧ s.mode.lifeCycle ≠ .retired ∧ n < 256 →
    s.single? e n = some d ∧ s.desc e n = some x ∧ d.ea = ea e n →
    d.priv ≤ who.level.val ∧ x.fits value = true →
    s.tasksLive = false →
    Does (.singleValueWrite who (ea e n) value) s (fun t =>
      Table.get t.tsk.values 0 (ea e n) = value ∧ t.tsk.singles = s.tsk.singles ∧
      Answered t .ok 0 ∧ Records s t 0x2107 [e] ∧
      OnlyIn [.evr, .tsk, .net, .sent] s t)) ∧
  (∀ (s : State) (who : Who) (e n value : Nat) (d : SingleDecl) (x : Desc),
    s.up = true ∧ s.mode.lifeCycle ≠ .retired ∧ n < 256 →
    s.single? e n = some d ∧ s.desc e n = some x ∧ d.ea = ea e n →
    d.priv ≤ who.level.val ∧ x.fits value = true →
    s.tasksLive = true ∧ s.taskOn d.task = true →
    Does (.singleValueWrite who (ea e n) value) s (fun t =>
      t.tsk = { s.tsk with singles := s.tsk.singles ++ [(ea e n, value)] } ∧
      Answered t .ok 0 ∧
      OnlyIn [.tsk, .net, .sent] s t)) ∧
  (∀ (s : State) (who : Who) (e n value : Nat) (d : SingleDecl) (x : Desc),
    s.up = true ∧ s.mode.lifeCycle ≠ .retired ∧ n < 256 →
    s.single? e n = some d ∧ s.desc e n = some x →
    who.level.val < d.priv →
    Does (.singleValueWrite who (ea e n) value) s (fun t =>
      Answered t .privilege d.priv ∧
      OnlyIn [.net, .sent] s t)) ∧
  (∀ (s : State) (who : Who) (i v : Nat) (d : ConstDecl) (k : Nat),
    Asked s who 2 ∧ s.tasksLive = false →
    s.stagedConsts = [(i, v)] ∧ s.const? i = some d ∧ d.tasks = [k] →
    Does (.constantsBatchCommit who) s (fun t =>
      Table.get t.tsk.consts 0 (64 * k + i) = v ∧ t.stagedConsts = [] ∧
      Answered t .ok 0 ∧ Records s t 0x2107 [0x22010] ∧
      OnlyIn [.evr, .tsk, .net, .elems, .sent] s t)) ∧
  (∀ (s : State) (who : Who) (prog : Program),
    Asked s who 2 ∧ s.mode.mode = .stop ∧ Authorised s →
    s.loadFault prog = none →
    Does (.containerLoad who prog) s (fun t =>
      t.tsk = { s.tsk with staged := some prog } ∧ Answered t .ok 0 ∧
      OnlyIn [.evr, .tsk, .net, .leg, .sent] s t)) ∧
  (∀ (s : State) (who : Who) (prog : Program),
    Asked s who 2 ∧ s.mode.mode ≠ .stop →
    Does (.containerLoad who prog) s (fun t =>
      Answered t .stateRefused s.stateDetail ∧
      OnlyIn [.net, .sent] s t))

/-- At the collection deadline with every head answered only the exchange is marked; a missing head that has used up its missed-cycle count and stays silent is in fail-safe, and its points are BAD. At the acknowledgement check the exchange ends: heads that acknowledged have no missed cycle, one that did not is missing, and for the ring owner's exchange its missed cycles count. (R152, R373, R375, 05_cyclic_program_model.md Table 05-3) -/
def Obligations.RingDeadlinesJudgeTheHeads : Prop :=
  (∀ (s : State) (owner : Fin 272) (x : Exchange),
    s.up = true ∧ s.exchange? owner = some x ∧ s.collectDue x = true →
    (s.exchHeads owner).all (fun h => (s.head h).answered) = true →
    Does (.ringCollectDeadline owner) s (fun t =>
      (t.exchange? owner).map (·.collected) = some true ∧ t.ring.heads = s.ring.heads ∧
      OnlyIn [.ring] s t)) ∧
  (∀ (s : State) (owner : Fin 272) (x : Exchange) (h : Nat),
    s.up = true ∧ s.exchange? owner = some x ∧ s.collectDue x = true →
    (s.exchHeads owner).filter (fun h => !(s.head h).answered) = [h] →
    (s.head h).state = .missing ∧ s.headMiss h ≤ (s.head h).missed →
    Does (.ringCollectDeadline owner) s (fun t =>
      (t.head h).state = .failSafe ∧ (t.head h).missed = (s.head h).missed ∧ (t.exchange? owner).map (·.collected) = some true ∧
      (∀ k, k ≠ h → t.head k = s.head k) ∧
      SameMemory s t ∧
      OnlyIn [.freeCtr, .mode, .evr, .tri, .tsk, .ring, .sur, .mem] s t)) ∧
  (∀ (s : State) (owner : Fin 272) (x : Exchange) (h : Nat),
    s.up = true ∧ s.exchange? owner = some x ∧ x.sentOut = true ∧ x.checkAt ≤ s.now →
    s.exchHeads owner = [h] ∧ (s.head h).acked = true ∧ (s.head h).state = .present →
    Does (.ringAckCheck owner) s (fun t =>
      t.head h = { s.head h with missed := 0 } ∧ t.exchange? owner = none ∧
      OnlyIn [.ring] s t)) ∧
  (∀ (s : State) (owner : Fin 16) (x : Exchange) (h : Nat),
    s.up = true ∧ s.exchange? owner = some x ∧ x.sentOut = true ∧ x.checkAt ≤ s.now →
    s.exchHeads owner = [h] ∧ (s.head h).acked = false ∧ (s.head h).state = .present →
    Does (.ringAckCheck (owner.castLE (by decide))) s (fun t =>
      (t.head h).state = .missing ∧ (t.head h).missed = min 255 ((s.head h).missed + 1) ∧ t.exchange? owner = none ∧
      Records s t 0x2104 [h] ∧ SameMemory s t ∧
      OnlyIn [.freeCtr, .mode, .evr, .tri, .tsk, .ring, .sur, .mem] s t))

/-- At S + T_RDY a latched group of running loops is queued with its loops and the backlog grows by them. The evaluation of the loop that stands first takes it from the queue, counts one evaluation and keeps its new state aside, and no output, memory or element changes. With no loop left and the commit deadline ahead the group is staged: every loop takes its evaluated state and its value is due at S + L. (R163, R169, R170, R171, R174) -/
def Obligations.LoopSamplesAreQueuedEvaluatedAndStaged : Prop :=
  (∀ (s : State) (g : Fin 256),
    s.up = true ∧ s.loopsRun = true ∧ (s.group g).latched = true ∧ (s.group g).todo = [] →
    ∀ h, h < 256 → (s.group h).latched = true → (s.group h).s = (s.group g).s → (s.group g).s + s.groupTRdy h ≤ s.now →
    Does (.loopGroupQueued g) s (fun t =>
      t.group g = { s.group g with latched := false, queued := true, todo := s.groupSlots g, done := [], staged := false, missedNow := false } ∧
      t.cen.backlog = s.cen.backlog + (s.groupSlots g).length ∧ t.cen.loops = s.cen.loops ∧
      OnlyIn [.cen] s t)) ∧
  (∀ (s : State) (slot : Fin 4096) (ns : Nat),
    s.up = true ∧ s.loopsRun = true ∧ s.cen.changes = [] ∧ s.cen.acks = [] ∧ s.lN slot 41 0 ≠ 2 →
    (s.group (s.loopGroup slot)).queued = true ∧ (s.group (s.loopGroup slot)).missedNow = false ∧ (s.group (s.loopGroup slot)).todo.head? = some slot.val →
    Does (.loopEvaluation slot ns) s (fun t =>
      (t.group (s.loopGroup slot)).todo = (s.group (s.loopGroup slot)).todo.filter (· != slot.val) ∧
      (Table.get (t.group (s.loopGroup slot)).done {} slot).lastNs = ns ∧ (t.group (s.loopGroup slot)).due = (s.group (s.loopGroup slot)).due ∧
      t.cen.evals = s.cen.evals + 1 ∧ t.cen.laneMax = max s.cen.laneMax ns ∧ t.cen.loops = s.cen.loops ∧
      OnlyIn [.mode, .evr, .cen, .mem] s t ∧
      SameMemory s t)) ∧
  (∀ (s : State) (g : Fin 256),
    s.up = true ∧ s.loopsRun = true ∧ (s.group g).queued = true ∧ (s.group g).todo = [] ∧ (s.group g).staged = false ∧ (s.group g).missedNow = false →
    s.now ≤ s.groupDeadline g ∧ ((s.group g).done.map (·.1)).Nodup →
    Does (.loopGroupStaged g) s (fun t =>
      (∀ d ∈ (s.group g).done, t.loop d.1 = d.2) ∧
      (t.group g).staged = true ∧ (t.group g).queued = false ∧ (t.group g).done = [] ∧
      (t.group g).due = (s.group g).due ++ (s.group g).done.map (fun d => (d.1, (s.group g).s + s.loopLNs d.1, 0)) ∧
      OnlyIn [.mode, .ring, .cen, .red, .net, .sent] s t)) ∧
  (∀ (s : State) (g : Fin 256),
    s.up = true ∧ (s.group g).queued = true ∧ (s.group g).staged = false ∧ (s.group g).missedNow = false →
    s.groupDeadline g ≤ s.now →
    Does (.loopSampleMissed g) s (fun t =>
      (t.group g).missedNow = true ∧ (t.group g).missed = satInc 32 (s.group g).missed ∧
      t.cen.missed = satInc 32 s.cen.missed ∧ t.cen.lastMiss = g.val ∧ SameMemory s t ∧
      OnlyIn [.freeCtr, .mode, .evr, .tsk, .ring, .cen, .sur, .dio, .aio, .saf, .can, .mem] s t)) ∧
  (∀ (s : State) (g : Fin 256) (slot n : Nat) (i : MTime),
    s.up = true ∧ i ≤ s.now ∧ slot < 4096 ∧ n < 8 →
    (s.group g).due = [(slot, i, 0)] ∧ s.loopChan slot = some (.ao n) ∧ s.sur.points = [] ∧ s.objs 0 = [] ∧ s.objs 1 = [] ∧ s.objs 2 = [] ∧ s.objs 3 = [] →
    Does (.loopOutputRelease g) s (fun t =>
      (t.group g).due = [] ∧ (t.group g).samples = (s.group g).samples + 1 ∧ (t.loop slot).missCnt = 0 ∧
      (∀ k, k ≠ n → t.aoCh k = s.aoCh k) ∧
      OnlyIn [.mode, .tsk, .cen, .aio, .sur, .mem, .evr] s t ∧
      SameMemory s t))

/-- An accepted mode request or on-line change of a loop that is not evaluated stands at once and is recorded; of a loop that is evaluated it waits for the first sample at least 1 ms on, and nothing else of the engine changes; a value out of range is answered RANGE and changes nothing. Clearing the maxima zeroes the backlog, lane and finish maxima alone. An acknowledgement of a latched Sounding fault unlatches it; one that finds nothing latched changes nothing. (R157, R161, R168, R175, R179, R180, R198) -/
def Obligations.LoopRecordsAreChangedOnline : Prop :=
  (∀ (s : State) (who : Who) (slot : Fin 4096) (req : Nat),
    Asked s who 1 ∧ 1 ≤ req ∧ req ≤ 3 ∧ s.changeAt slot = none →
    Does (.loopModeRequest who slot req) s (fun t =>
      (t.el (0x31000 + slot) 2 0 = req ∧ (∀ x n, ea x n ≠ ea (0x31000 + slot.val) 2 → t.el x n 0 = s.el x n 0)) ∧
      Answered t .ok 0 ∧ Records s t 0x3008 [slot.val, 2] ∧
      OnlyIn [.mode, .evr, .cen, .net, .elems, .sent] s t)) ∧
  (∀ (s : State) (who : Who) (slot : Fin 4096) (req : Nat) (i : MTime),
    Asked s who 1 ∧ 1 ≤ req ∧ req ≤ 3 ∧ s.changeAt slot = some i →
    Does (.loopModeRequest who slot req) s (fun t =>
      t.cen = { s.cen with changes := s.cen.changes ++ [{ slot := slot, elem := 2, value := req, at_ := i }] } ∧
      Answered t .ok 0 ∧
      OnlyIn [.cen, .net, .sent] s t)) ∧
  (∀ (s : State) (who : Who) (slot : Fin 4096) (elem value : Nat),
    Asked s who 2 ∧ 19 ≤ elem ∧ elem ≤ 41 →
    s.loopCheck slot elem value = none ∧ s.changeAt slot = none →
    Does (.loopOnlineChange who slot elem value) s (fun t =>
      t.el (0x31000 + slot) elem 0 = value ∧
      Answered t .ok 0 ∧ Records s t 0x3008 [slot.val, elem] ∧
      OnlyIn [.mode, .evr, .cen, .net, .elems, .sent] s t)) ∧
  (∀ (s : State) (who : Who) (slot : Fin 4096) (elem value : Nat),
    Asked s who 2 ∧ 19 ≤ elem ∧ elem ≤ 41 →
    s.loopCheck slot elem value = some ansRange →
    Does (.loopOnlineChange who slot elem value) s (fun t =>
      Answered t .range 0 ∧
      OnlyIn [.net, .sent] s t)) ∧
  (∀ (s : State) (who : Who),
    Asked s who 2 →
    Does (.clearObservedMaxima who) s (fun t =>
      t.cen.backlogMax = 0 ∧ t.cen.laneMax = 0 ∧ t.cen.loops = s.cen.loops ∧ t.cen.backlog = s.cen.backlog ∧
      (∀ g, t.group g = { s.group g with finish := 0 }) ∧
      Answered t .ok 0 ∧
      OnlyIn [.cen, .net, .sent] s t)) ∧
  (∀ (s : State) (agent : Agent),
    s.up = true →
    Does (.cenClrMax agent) s (fun t =>
      t.cen.backlogMax = 0 ∧ t.cen.laneMax = 0 ∧ t.cen.loops = s.cen.loops ∧ t.cen.tables = s.cen.tables ∧
      (∀ g, t.group g = { s.group g with finish := 0 }) ∧
      OnlyIn [.cen] s t)) ∧
  (∀ (s : State) (who : Who) (slot : Fin 4096),
    Asked s who 1 ∧ (s.loop slot).latched = true ∧ s.changeAt slot = none →
    Does (.soundingAcknowledgement who slot) s (fun t =>
      (t.loop slot).latched = false ∧ bitOf (t.loop slot).heldSet 4 = false ∧ (t.loop slot).modeAct = (s.loop slot).modeAct ∧
      (∀ k, k ≠ slot.val → t.loop k = s.loop k) ∧
      Answered t .ok 0 ∧ Records s t 0x3013 [slot.val, 1] ∧
      OnlyIn [.evr, .cen, .net, .sent] s t)) ∧
  (∀ (s : State) (who : Who) (slot : Fin 4096),
    Asked s who 1 ∧ (s.loop slot).latched = false →
    Does (.soundingAcknowledgement who slot) s (fun t =>
      Answered t .ok 0 ∧
      OnlyIn [.net, .sent] s t))

/-- In STOP a commit of a staged table without fault puts it into force at once and records 0x3015; one with a fault is answered CHECK-FAILED 9 with the table and offset, recorded, and changes no table. In RUN an accepted commit waits for its instant; at that instant the copy comes into force and the commit is gone. A commit that found no idle instant within 1 s is dropped. (R183, R184, R191) -/
def Obligations.ContourTablesAreCommittedAndApplied : Prop :=
  (∀ (s : State) (who : Who) (k : Fin 512),
    Asked s who 2 ∧ s.mode.mode = .stop ∧ s.contourFault k (s.stagedTable k) = none →
    Does (.contourTableCommit who k) s (fun t =>
      (t.ctable k = s.stagedTable k ∧ ∀ j, j ≠ k.val → t.ctable j = s.ctable j) ∧
      t.cen.loops = s.cen.loops ∧ Answered t .ok 0 ∧ Records s t 0x3015 [k.val, i64 s.now] ∧
      OnlyIn [.evr, .cen, .net, .sent] s t)) ∧
  (∀ (s : State) (who : Who) (k : Fin 512) (o : Nat),
    Asked s who 2 ∧ s.contourFault k (s.stagedTable k) = some o ∧ o < 4096 →
    Does (.contourTableCommit who k) s (fun t =>
      Answered t .checkFailed (9 * 2 ^ 28 + k.val * 4096 + o) ∧ Records s t 0x3011 [k.val, o] ∧
      OnlyIn [.evr, .net, .sent] s t)) ∧
  (∀ (s : State) (k : Fin 512) (x : TableCommit) (i : MTime),
    s.up = true ∧ s.cen.commits = [x] ∧ x.table = k.val ∧ x.at_ = some i ∧ i ≤ s.now →
    Does (.contourTableApply k) s (fun t =>
      (t.ctable k = x.copy ∧ t.cen.commits = [] ∧ ∀ j, j ≠ k.val → t.ctable j = s.ctable j) ∧
      Records s t 0x3015 [k.val, i64 i] ∧
      OnlyIn [.evr, .cen] s t)) ∧
  (∀ (s : State) (k : Fin 512) (x : TableCommit),
    s.up = true ∧ s.cen.commits = [x] ∧ x.table = k.val ∧ x.at_ = none ∧ x.accepted + 1000000000 ≤ s.now →
    Does (.contourCommitTimeout k) s (fun t =>
      t.cen = { s.cen with commits := [] } ∧
      OnlyIn [.cen] s t))

/-- A member that may renew, whose last renewal is 2 µs old, sends one renewal with the next sequence number to its stages, its ring, its partner and the witness, and restarts its own stages' watchdog where they hold its claim. A standalone module that has just started first sends CLAIM 1. A module that may not renew sends nothing and nothing changes. Writing 0xC1A1 refreshes the permit; any other value and an expired permit's lapse do what R203 says. A member whose own renewals stop for 4 µs drives no output. (R203, R209, R211, R216, 18_register_interface.md Table 18-13) -/
def Obligations.RenewalsNeedThePermit : Prop :=
  (∀ (s : State),
    s.up = true ∧ s.pairMember = true ∧ s.renews = true ∧ s.now < s.red.lastRenewM + 2000 ∧ s.red.lastRenewM ≤ s.now ∧ s.red.seq ≠ 0 →
    Does (.claimRenewalSend) s (fun t =>
      t = s)) ∧
  (∀ (s : State),
    s.up = true ∧ s.pairMember = true ∧ s.renews = true ∧ s.red.lastRenewM + 2000 ≤ s.now →
    s.red.cur.holder = s.modIndex ∧ s.red.ownRenew.isSome = true →
    Does (.claimRenewalSend) s (fun t =>
      t.red = { s.red with seq := (s.red.seq + 1) % 2 ^ 32, lastRenewM := s.now, ownRenew := some s.mer.raw } ∧
      ((∀ d, d = 1 ∨ d = 2 ∨ d = 3 ∨ (d = 0 ∧ s.heads ≠ []) → OutMsg.claim d 1 s.station s.modIndex s.red.cur.claim s.red.heldF ((s.red.seq + 1) % 2 ^ 32) (claimTag s.red.key s.station s.modIndex s.red.cur.claim s.red.heldF) 0 ∈ t.sent)) ∧
      t.sent.length = s.sent.length + (if s.heads = [] then 3 else 4) ∧
      OnlyIn [.red, .net, .sent] s t)) ∧
  (∀ (s : State),
    s.up = true ∧ s.role = 0 ∧ s.renews = true ∧ s.red.seq = 0 ∧ s.red.cur = {} ∧ s.modIndex ≠ 0xFF →
    Does (.claimRenewalSend) s (fun t =>
      t.red.cur = { claim := 1, holder := s.modIndex, f := s.now } ∧ t.red.seq = 1 ∧ t.red.ownRenew = some s.mer.raw ∧
      OutMsg.claim 3 2 0 s.modIndex 1 0 0 (claimTag s.red.key 0 s.modIndex 1 0) 0 ∈ t.sent ∧
      OnlyIn [.freeCtr, .mode, .evr, .tsk, .ring, .red, .net, .sur, .dio, .aio, .saf, .can, .mem, .sent] s t)) ∧
  (∀ (s : State),
    s.up = true ∧ s.renews = false →
    Does (.claimRenewalSend) s (fun t =>
      t = s)) ∧
  (∀ (s : State) (agent : Agent) (value : Nat),
    s.up = true ∧ value < 2 ^ 32 →
    Does (.redPermitRefresh agent value) s (fun t =>
      t.red = { s.red with permitAt := if value = 0xC1A1 then some s.mer.raw else s.red.permitAt } ∧
      OnlyIn [.red] s t)) ∧
  (∀ (s : State) (p : Nat),
    s.up = true ∧ s.red.permitAt = some p ∧ p + 400000 ≤ s.mer.raw →
    Does (.renewalPermitLapse) s (fun t =>
      t.red = { s.red with permitAt := none } ∧ t.renews = false ∧
      OnlyIn [.red] s t)) ∧
  (∀ (s : State) (r : Nat),
    s.up = true ∧ s.pairMember = true ∧ s.red.ownRenew = some r ∧ r + 1600 ≤ s.mer.raw →
    Does (.ownRenewalTimeout) s (fun t =>
      t.red = { s.red with ownRenew := none } ∧ t.stagesOpen = false ∧ t.mode.mode = s.mode.mode ∧
      ((∀ n, n < 8 → bitOf (s.aoCfg n) 0 = true → (t.aoCh n).highZ = true)) ∧
      OnlyIn [.mode, .tsk, .red, .sur, .dio, .aio, .saf, .mem] s t))

/-- Of a module that is no witness: a higher claim of a configured holder with a valid tag becomes current at once, or at its F, and the current one becomes the previous one; the current holder's renewal restarts the watchdog; a lower claim, another holder of the same claim, and a bad tag or station change no claim, are counted, and are recorded with event 0x5008 (log entry 118). A value under the current claim latched since its instant is staged or released; any other claim or latch is rejected and counted. (R209, R210, R211, R212, 08_duty_standby_witness.md Table 08-3) -/
def Obligations.StagesObeyTable0803 : Prop :=
  (∀ (s : State) (m : ClaimMsg),
    s.up = true ∧ (m.kind = 1 ∨ m.kind = 2) ∧ s.isWitness = false ∧ m.claim < 2 ^ 32 →
    Sound s m ∧ s.red.cur.claim < m.claim ∧ s.mayHold m.holder = true ∧ (m.f = 0 ∨ m.f ≤ s.now) →
    Does (.stageClaimReceived m) s (fun t =>
      t.red.cur = { claim := m.claim, holder := m.holder, f := if m.f = 0 then s.now else m.f } ∧ t.red.prev = s.red.cur ∧ t.red.next_ = none ∧
      t.red.lastChange = s.now ∧ t.red.ownRenew = (if m.holder = s.modIndex then some s.mer.raw else none) ∧
      t.red.rejTag = s.red.rejTag ∧ t.red.rejHolder = s.red.rejHolder ∧ t.red.rejLower = s.red.rejLower ∧
      OnlyIn [.freeCtr, .mode, .evr, .tsk, .ring, .red, .sur, .dio, .aio, .saf, .can, .mem] s t)) ∧
  (∀ (s : State) (m : ClaimMsg),
    s.up = true ∧ (m.kind = 1 ∨ m.kind = 2) ∧ s.isWitness = false ∧ m.claim < 2 ^ 32 →
    Sound s m ∧ s.red.cur.claim < m.claim ∧ s.mayHold m.holder = true ∧ m.f ≠ 0 ∧ s.now < m.f →
    Does (.stageClaimReceived m) s (fun t =>
      t.red = { s.red with next_ := some { claim := m.claim, holder := m.holder, f := m.f } } ∧
      OnlyIn [.red] s t)) ∧
  (∀ (s : State) (m : ClaimMsg),
    s.up = true ∧ (m.kind = 1 ∨ m.kind = 2) ∧ s.isWitness = false ∧ m.claim < 2 ^ 32 →
    Sound s m ∧ m.claim = s.red.cur.claim ∧ m.holder = s.red.cur.holder ∧ (m.holder = s.modIndex → s.red.ownRenew.isSome = true) →
    Does (.stageClaimReceived m) s (fun t =>
      t.red = { s.red with ownRenew := if m.holder = s.modIndex then some s.mer.raw else s.red.ownRenew } ∧
      OnlyIn [.red] s t)) ∧
  (∀ (s : State) (m : ClaimMsg),
    s.up = true ∧ (m.kind = 1 ∨ m.kind = 2) ∧ s.isWitness = false ∧ m.claim < 2 ^ 32 →
    Sound s m ∧ m.claim < s.red.cur.claim →
    Does (.stageClaimReceived m) s (fun t =>
      t.red = { s.red with rejLower := satInc 32 s.red.rejLower, pend := setBit s.red.pend 2 true } ∧ Records s t 0x5008 [] ∧
      OnlyIn [.red, .evr] s t)) ∧
  (∀ (s : State) (m : ClaimMsg),
    s.up = true ∧ (m.kind = 1 ∨ m.kind = 2) ∧ s.isWitness = false ∧ m.claim < 2 ^ 32 →
    Sound s m ∧ (m.claim = s.red.cur.claim ∧ m.holder ≠ s.red.cur.holder ∨ s.red.cur.claim < m.claim ∧ s.mayHold m.holder = false) →
    Does (.stageClaimReceived m) s (fun t =>
      t.red = { s.red with rejHolder := satInc 32 s.red.rejHolder, pend := setBit s.red.pend 2 true } ∧ Records s t 0x5008 [] ∧
      OnlyIn [.red, .evr] s t)) ∧
  (∀ (s : State) (m : ClaimMsg),
    s.up = true ∧ (m.kind = 1 ∨ m.kind = 2) ∧ s.isWitness = false ∧ m.claim < 2 ^ 32 →
    m.station ≠ s.station ∨ s.tagOk m = false →
    Does (.stageClaimReceived m) s (fun t =>
      t.red = { s.red with rejTag := satInc 32 s.red.rejTag, pend := setBit s.red.pend 2 true } ∧ Records s t 0x5008 [] ∧
      OnlyIn [.red, .evr] s t)) ∧
  (∀ (s : State) (claim : Nat) (latch release : MTime) (outs : List OutVal),
    s.up = true ∧ claim < 2 ^ 32 →
    (claim = s.red.cur.claim ∧ s.red.cur.f ≤ latch) ∨ (claim = s.red.prev.claim ∧ latch < s.red.cur.f) →
    s.now < release →
    Does (.stageOutputValueReceived claim latch release outs) s (fun t =>
      ((∀ o ∈ outs, ({ chan := o.chan, value := o.value, ma := false, latch := latch, release := release } : StagedPreset) ∈ t.red.staged)) ∧
      t.red.cur = s.red.cur ∧ t.red.rejValue = s.red.rejValue ∧
      OnlyIn [.freeCtr, .mode, .evr, .tsk, .ring, .red, .sur, .dio, .aio, .saf, .can, .mem] s t)) ∧
  (∀ (s : State) (claim : Nat) (latch release : MTime) (outs : List OutVal),
    s.up = true ∧ claim < 2 ^ 32 →
    ¬ (claim = s.red.cur.claim ∧ s.red.cur.f ≤ latch) ∧ ¬ (claim = s.red.prev.claim ∧ latch < s.red.cur.f) →
    Does (.stageOutputValueReceived claim latch release outs) s (fun t =>
      t.red = { s.red with rejValue := satInc 32 s.red.rejValue, pend := setBit s.red.pend 2 true } ∧
      OnlyIn [.red] s t)) ∧
  (∀ (s : State) (c : StageClaim),
    s.up = true ∧ s.red.next_ = some c ∧ c.f ≤ s.now ∧ c.holder ≠ s.modIndex ∧ s.red.holds = false →
    Does (.claimEffectiveInstant) s (fun t =>
      t.red.cur = c ∧ t.red.prev = s.red.cur ∧ t.red.next_ = none ∧ t.red.ownRenew = none ∧ t.red.highest = max s.red.highest c.claim ∧
      t.mode.mode = s.mode.mode ∧
      OnlyIn [.freeCtr, .mode, .evr, .tsk, .ring, .red, .sur, .dio, .aio, .saf, .can, .mem] s t)) ∧
  (∀ (s : State) (c : StageClaim),
    s.up = true ∧ s.red.next_ = some c ∧ c.f ≤ s.now ∧ c.holder ≠ s.modIndex ∧ s.red.holds = true →
    Does (.claimEffectiveInstant) s (fun t =>
      t.red.cur = c ∧ t.mode.mode = .standby ∧ t.red.holds = false ∧ t.red.ownRenew = none ∧ t.red.transfer = none ∧ t.red.renewing = false ∧
      OnlyIn [.freeCtr, .mode, .evr, .wpt, .tsk, .ring, .red, .net, .sur, .dio, .aio, .saf, .can, .mem, .elems, .sent] s t)) ∧
  (∀ (s : State) (c : StageClaim),
    s.up = true ∧ s.pairMember = true ∧ s.red.next_ = some c ∧ c.f ≤ s.now ∧ c.holder = s.modIndex ∧ s.red.dutyMode = Mode.hold.code →
    Does (.claimEffectiveInstant) s (fun t =>
      t.red.cur = c ∧ t.mode.mode = .hold ∧ t.red.holds = true ∧ t.red.ownRenew = some s.mer.raw ∧ t.red.request = none ∧ t.red.lapse = false ∧ t.red.transfer = none ∧
      OnlyIn [.freeCtr, .mode, .evr, .tsk, .ring, .cen, .red, .net, .sur, .dio, .aio, .saf, .can, .mem, .sent] s t))

/-- A member answers its partner's renewal with an ACK that names the claim and whether a request is outstanding. A duty with neither ECHO nor ACK for 4 µs suspends its claim (event 0x5004, mode unchanged) and resumes on an ECHO with INFO 1 or an ACK of its claim with nothing outstanding. A ready standby requests the next claim after 6 µs of silence and repeats it every 10 µs; one that is not ready only records the lapse. An ENDORSE makes it duty in the reported mode; a REFUSE is recorded with its reason; a higher claim of the partner ends in STANDBY, not ready. (R35, R213, R214, R218, R221, R224, R465, 08_duty_standby_witness.md Table 08-6) -/
def Obligations.MembersWatchEachOther : Prop :=
  (∀ (s : State) (m : ClaimMsg),
    s.up = true ∧ s.pairMember = true ∧ m.claim < 2 ^ 32 ∧ m.kind = 1 ∧ m.station = s.station ∧ m.holder = s.partner →
    Does (.partnerRenewReceived m) s (fun t =>
      t.sent = .claim 1 4 s.station m.holder m.claim m.f 0 0 s.red.request.isSome.toNat :: s.sent ∧
      t.red = { s.red with peerRenew := some s.mer.raw, lapse := false, seq := m.seq, lastRenewM := s.now, request := if s.red.lapse then none else s.red.request } ∧
      OnlyIn [.red, .net, .sent] s t)) ∧
  (∀ (s : State),
    s.up = true ∧ s.pairMember = true ∧ s.red.holds = true ∧ s.red.renewing = true ∧ s.red.suspended = false ∧ s.red.seq ≠ 0 →
    (∀ e, s.red.lastEcho = some e → e + 1600 ≤ s.mer.raw) ∧ (∀ a, s.red.lastAck = some a → a + 1600 ≤ s.mer.raw) →
    Does (.claimSuspension) s (fun t =>
      t.red = { s.red with suspended := true, pend := setBit s.red.pend 1 true } ∧ t.renews = false ∧ t.mode.mode = s.mode.mode ∧
      Records s t 0x5004 [] ∧ OnlyIn [.mode, .red, .evr] s t)) ∧
  (∀ (s : State) (m : ClaimMsg),
    s.up = true ∧ s.pairMember = true ∧ m.claim < 2 ^ 32 ∧ m.kind = 3 ∧ m.station = s.station ∧ m.holder = s.modIndex →
    Does (.echoReceived m) s (fun t =>
      t.red = { s.red with lastEcho := some s.mer.raw, witnessLost := false, suspended := s.red.suspended && !bitOf m.info 0 } ∧
      (if s.red.suspended && bitOf m.info 0 then Records s t 0x5005 [] else OnlyIn [.red] s t) ∧
      t.mode.mode = s.mode.mode ∧ OnlyIn [.mode, .red, .evr] s t)) ∧
  (∀ (s : State) (m : ClaimMsg),
    s.up = true ∧ s.pairMember = true ∧ m.claim < 2 ^ 32 ∧ m.kind = 4 ∧ m.station = s.station →
    Does (.ackReceived m) s (fun t =>
      t.red = { s.red with lastAck := some s.mer.raw, suspended := s.red.suspended && !(m.claim == s.heldClaim.1 && !bitOf m.info 0) } ∧
      t.mode.mode = s.mode.mode ∧ OnlyIn [.mode, .red, .evr] s t)) ∧
  (∀ (s : State) (m : ClaimMsg),
    s.up = true ∧ s.pairMember = true ∧ m.claim < 2 ^ 32 ∧ (m.kind = 1 ∨ m.kind = 2) ∧ m.holder = s.partner →
    Sound s m ∧ s.red.holds = false ∧ s.red.highest < m.claim ∧ (m.f = 0 ∨ m.f ≤ s.now) →
    s.mode.mode = .run ∨ s.mode.mode = .hold ∨ s.mode.mode = .stop ∨ s.mode.mode = .safe →
    Does (.higherClaimObserved m) s (fun t =>
      t.mode.mode = .standby ∧ t.mode.cause = 0x5003 ∧ t.red.highest = m.claim ∧ t.red.ready = false ∧ t.red.holds = false ∧ t.red.renewing = false ∧ t.red.request = none ∧ t.red.suspended = false ∧
      OnlyIn [.mode, .evr, .tri, .wpt, .tsk, .ring, .cen, .red, .net, .sur, .dio, .aio, .saf, .mem, .elems, .sent] s t)) ∧
  (∀ (s : State) (m : ClaimMsg),
    s.up = true ∧ s.pairMember = true ∧ m.claim < 2 ^ 32 ∧ (m.kind = 1 ∨ m.kind = 2) ∧ m.holder = s.partner →
    Sound s m ∧ s.red.holds = true ∧ s.heldClaim.1 < m.claim ∧ (m.f = 0 ∨ m.f ≤ s.now) ∧ (s.mode.mode = .run ∨ s.mode.mode = .hold) →
    Does (.higherClaimObserved m) s (fun t =>
      t.mode.mode = .standby ∧ t.red.highest = m.claim ∧ t.red.ready = false ∧ t.red.holds = false ∧ t.red.renewing = false ∧
      OnlyIn [.mode, .evr, .tri, .wpt, .tsk, .ring, .cen, .red, .net, .sur, .dio, .aio, .saf, .mem, .elems, .sent] s t)) ∧
  (∀ (s : State),
    s.up = true ∧ s.mode.mode = .standby ∧ s.red.lapse = false ∧ s.red.ready = false →
    ∀ p, s.red.peerRenew = some p → p + 2400 ≤ s.mer.raw →
    Does (.standbySilenceDetected) s (fun t =>
      t.red = { s.red with lapse := true } ∧
      OnlyIn [.red] s t)) ∧
  (∀ (s : State),
    s.up = true ∧ s.mode.mode = .standby ∧ s.red.lapse = false ∧ s.red.ready = true →
    ∀ p, s.red.peerRenew = some p → p + 2400 ≤ s.mer.raw →
    Does (.standbySilenceDetected) s (fun t =>
      t.red = { s.red with lapse := true, request := some (s.known + 1, 0, s.mer.raw) } ∧
      t.sent = .claim 2 5 s.station s.modIndex (s.known + 1) 0 0 0 1 :: s.sent ∧
      OnlyIn [.red, .net, .sent] s t)) ∧
  (∀ (s : State) (c r : Nat),
    s.up = true ∧ s.red.request = some (c, 0, r) ∧ s.red.lapse = true ∧ r + 4000 ≤ s.mer.raw →
    Does (.claimRequestRepeat) s (fun t =>
      t.red = { s.red with request := some (s.known + 1, 0, s.mer.raw) } ∧
      t.sent = .claim 2 5 s.station s.modIndex (s.known + 1) 0 0 0 (s.red.ready || s.mode.applying).toNat :: s.sent ∧
      OnlyIn [.red, .net, .sent] s t)) ∧
  (∀ (s : State) (m : ClaimMsg) (r : Nat),
    s.up = true ∧ s.pairMember = true ∧ s.red.request = some (m.claim, 0, r) ∧ m.kind = 6 ∧ m.holder = s.modIndex ∧ Sound s m ∧ m.claim < 2 ^ 32 →
    s.mode.mode = .standby ∧ s.mode.applying = false ∧ s.red.cur.claim < m.claim ∧ s.mem.tamper = false ∧ s.red.dutyMode = Mode.run.code →
    s.red.swap = 0 →
    Does (.endorseReceived m) s (fun t =>
      t.mode.mode = .run ∧ t.red.holds = true ∧ t.red.cur = { claim := m.claim, holder := s.modIndex, f := s.now } ∧ t.red.prev = s.red.cur ∧ t.red.ownRenew = some s.mer.raw ∧
      t.red.request = none ∧ t.red.lapse = false ∧ t.red.ready = false ∧ Records s t 0x5001 [m.claim, i64 s.red.lastRenewM] ∧
      OnlyIn [.freeCtr, .mode, .evr, .tsk, .ring, .cen, .red, .net, .sur, .dio, .aio, .saf, .can, .mem, .sent] s t)) ∧
  (∀ (s : State) (m : ClaimMsg) (f : MTime) (r : Nat),
    s.up = true ∧ s.red.request = some (m.claim, f, r) ∧ m.kind = 6 ∧ m.holder = s.modIndex ∧ Sound s m ∧ m.claim < 2 ^ 32 →
    s.mode.applying = false ∧ f ≠ 0 ∧ s.now ≤ f - 1000000 ∧ s.red.cur.claim < m.claim →
    Does (.endorseReceived m) s (fun t =>
      t.red = { s.red with request := none, heldF := f, transfer := some { f := f, swap := decide (2 ≤ s.red.swap) }, next_ := some { claim := m.claim, holder := s.modIndex, f := f } } ∧
      OutMsg.claim 1 2 s.station s.modIndex m.claim f 0 (claimTag s.red.key s.station s.modIndex m.claim f) 0 ∈ t.sent ∧
      OnlyIn [.red, .net, .sent] s t)) ∧
  (∀ (s : State) (m : ClaimMsg),
    s.up = true ∧ s.red.request.isSome = true ∧ m.kind = 7 ∧ m.station = s.station ∧ m.claim < 2 ^ 32 ∧ s.mode.applying = false →
    Does (.refuseReceived m) s (fun t =>
      t.red = { s.red with highest := max s.red.highest m.claim } ∧ Records s t 0x5007 [m.info] ∧
      OnlyIn [.red, .evr] s t)) ∧
  (∀ (s : State),
    s.up = true ∧ s.pairMember = true ∧ s.red.holds = true ∧ s.red.witnessLost = false →
    (∀ e, s.red.lastEcho = some e → e + 1600 ≤ s.mer.raw) ∧ (∃ a, s.red.lastAck = some a ∧ s.mer.raw < a + 1600) →
    Does (.witnessLost) s (fun t =>
      t.red = { s.red with witnessLost := true } ∧ Records s t 0x5006 [] ∧
      OnlyIn [.red, .evr] s t))

/-- The witness echoes a renewal and says whether its HOLDER holds E. A YIELD of E by its holder is held with its F. A REQUEST that no condition of R214 refuses is endorsed: E becomes E + 1 with the requester as holder, and the ENDORSE leaves with the station's tag. One that a condition refuses is answered REFUSE with the first reason and E stays. The watch of 10 µs ends the STARTING refusals; a silent holder with no request is recorded once; a reset of the numbers by the Engineer sets E to 0 after 1 s without a renewal. (R213, R214, R215, R217, R218, 08_duty_standby_witness.md Table 08-6) -/
def Obligations.TheWitnessEndorsesEachClaimOnce : Prop :=
  (∀ (s : State) (m : ClaimMsg) (i : Nat),
    s.up = true ∧ Serves s m i ∧ m.claim < 2 ^ 32 →
    Does (.witnessRenewReceived m) s (fun t =>
      (t.witStation i).lastAny = some s.mer.raw ∧ (t.witStation i).e = (s.witStation i).e ∧ (t.witStation i).holder = (s.witStation i).holder ∧
      (t.witStation i).lastRenew = (if (s.witStation i).holder = m.holder ∧ (s.witStation i).e ≠ 0 ∧ m.claim = (s.witStation i).e then some s.mer.raw else (s.witStation i).lastRenew) ∧
      t.sent = .claim (16 + m.holder) 3 m.station m.holder m.claim m.f m.seq 0 (if (s.witStation i).holder = m.holder ∧ (s.witStation i).e ≠ 0 then 1 else 0) :: s.sent ∧
      OnlyIn [.wit, .net, .sent] s t)) ∧
  (∀ (s : State) (m : ClaimMsg) (i : Nat),
    s.up = true ∧ Serves s m i ∧ m.claim < 2 ^ 32 ∧ m.kind = 8 ∧ m.claim = (s.witStation i).e ∧ m.holder = (s.witStation i).holder →
    Does (.witnessYieldReceived m) s (fun t =>
      t.witStation i = { s.witStation i with yield_ := some m.f } ∧
      ((∀ j, j ≠ i → t.witStation j = s.witStation j) ∧ OnlyIn [.wit] s t))) ∧
  (∀ (s : State) (m : ClaimMsg) (i : Nat),
    s.up = true ∧ m.kind = 5 ∧ Serves s m i ∧ m.claim < 2 ^ 32 ∧ s.witRefusal i m = none ∧ s.mem.tamper = false →
    Does (.witnessRequestReceived m) s (fun t =>
      (t.witStation i).e = m.claim ∧ m.claim = (s.witStation i).e + 1 ∧ (t.witStation i).holder = m.holder ∧ (t.witStation i).lastEndorse = s.now ∧ (t.witStation i).yield_ = none ∧
      OutMsg.claim (16 + m.holder) 6 m.station m.holder m.claim m.f 0 (claimTag (Table.get s.wit.keys 0 i) m.station m.holder m.claim m.f) 0 ∈ t.sent ∧
      ((∀ j, j ≠ i → t.witStation j = s.witStation j) ∧ OnlyIn [.wit, .net, .sent, .evr] s t))) ∧
  (∀ (s : State) (m : ClaimMsg) (i : Nat),
    s.up = true ∧ m.kind = 5 ∧ Serves s m i ∧ m.claim < 2 ^ 32 ∧ (s.witStation i).watched = true →
    (s.witStation i).e = 0xFFFFFFFF →
    Does (.witnessRequestReceived m) s (fun t =>
      t.sent = .claim (16 + m.holder) 7 m.station m.holder 0xFFFFFFFF 0 0 0 6 :: s.sent ∧
      t.witStation i = { s.witStation i with refusals := satInc 32 (s.witStation i).refusals } ∧ Records s t 0x5007 [m.station, 6] ∧
      OnlyIn [.wit, .net, .sent, .evr] s t)) ∧
  (∀ (s : State) (m : ClaimMsg) (i why : Nat),
    s.up = true ∧ m.kind = 5 ∧ Serves s m i ∧ m.claim < 2 ^ 32 ∧ s.witRefusal i m = some why →
    Does (.witnessRequestReceived m) s (fun t =>
      t.sent = .claim (16 + m.holder) 7 m.station m.holder (s.witStation i).e 0 0 0 why :: s.sent ∧
      t.witStation i = { s.witStation i with refusals := satInc 32 (s.witStation i).refusals } ∧ Records s t 0x5007 [m.station, why] ∧
      OnlyIn [.wit, .net, .sent, .evr] s t)) ∧
  (∀ (s : State) (i : Fin 16),
    s.up = true ∧ s.mode.mode = .witness ∧ s.wit.since + 4000 ≤ s.mer.raw →
    Does (.witnessStartingWatchEnd i) s (fun t =>
      t.witStation i = { s.witStation i with watched := true } ∧
      ((∀ j, j ≠ i.val → t.witStation j = s.witStation j) ∧ OnlyIn [.wit] s t))) ∧
  (∀ (s : State) (i : Fin 16) (r : Nat),
    s.up = true ∧ s.mode.mode = .witness ∧ s.el (0x50030 + i) 0 0 ≠ 0 ∧ (s.witStation i).silent = false →
    (s.witStation i).lastRenew = some r ∧ r + 2000 ≤ s.mer.raw →
    Does (.witnessSilenceNoRequest i) s (fun t =>
      t.witStation i = { s.witStation i with silent := true } ∧ Records s t 0x5011 [s.el (0x50030 + i) 0 0] ∧
      ((∀ j, j ≠ i.val → t.witStation j = s.witStation j) ∧ OnlyIn [.wit, .evr] s t))) ∧
  (∀ (s : State) (who : Who) (i : Fin 16),
    Asked s who 2 ∧ s.isWitness = true ∧ Authorised s →
    ∀ r, (s.witStation i).lastAny = some r → r + 400000000 ≤ s.mer.raw →
    Does (.claimNumberReset who i) s (fun t =>
      t.witStation i = { s.witStation i with e := 0, holder := 0xFF, yield_ := none } ∧ Records s t 0x5014 [s.el (0x50030 + i) 0 0] ∧
      (Answered t .ok 0 ∧ (∀ j, j ≠ i.val → t.witStation j = s.witStation j)) ∧
      OnlyIn [.wit, .evr, .net, .sent] s t)) ∧
  (∀ (s : State) (who : Who) (i : Fin 16),
    Asked s who 2 ∧ (s.isWitness = false ∨ ∃ r, (s.witStation i).lastAny = some r ∧ s.mer.raw < r + 400000000) →
    Does (.claimNumberReset who i) s (fun t =>
      Answered t .stateRefused s.stateDetail ∧ t.wit = s.wit ∧
      OnlyIn [.net, .sent] s t))

/-- At a standby a unit is kept with its copy until END, and the pages of a pass of their own are written at once. A copy whose byte count, CRC or order is wrong is discarded and counted, and the standby is not ready. A complete TASK copy of a task that shadows runs its cycle with the copy's task time: an equal SIG counts as one match, another is SHADOW-DIVERGENCE. A STAGE unit waits for its release instant; a CHANGE unit waits for its instant; a MODE unit says what mode the duty is in. (R204, R205, R207, R208, R212, R225, R227, R301, R335) -/
def Obligations.CopiesFeedTheShadow : Prop :=
  (∀ (s : State) (seq : Nat) (u : CopyUnit) (bytes : List Byte),
    s.up = true ∧ s.shadows = true ∧ (match u with | .pages 0xFFFF _ => False | _ => True) →
    Does (.copyUnitReceived seq u bytes) s (fun t =>
      Table.get t.red.copies {} seq = { units := (Table.get s.red.copies {} seq).units ++ [u], bytes := (Table.get s.red.copies {} seq).bytes ++ bytes } ∧
      s.red.copyMax ≤ t.red.copyMax ∧ t.red.copyBytes ≤ t.red.copyMax ∧ t.red.ready = s.red.ready ∧
      OnlyIn [.red] s t)) ∧
  (∀ (s : State) (seq : Nat) (p : PageSet) (_bytes : List Byte) (a k : Nat) (v : Byte) (l : LoopState),
    s.up = true ∧ s.shadows = true ∧ p = { bytes := [(a, [v])], loops := [(k, l)] } ∧ 0x20000000 ≤ a →
    Does (.copyUnitReceived seq (.pages 0xFFFF p) _bytes) s (fun t =>
      (Memory.read t.mem.data a = v ∧ (∀ b, b ≠ a → Memory.read t.mem.data b = Memory.read s.mem.data b)) ∧
      (t.loop k = l ∧ (∀ j, j ≠ k → t.loop j = s.loop j) ∧ t.red.copies = s.red.copies) ∧
      OnlyIn [.tri, .mer, .wpt, .tsk, .cen, .red, .sur, .dio, .aio, .can, .crt, .clk, .mem, .pwr, .elems] s t)) ∧
  (∀ (s : State) (seq count crc : Nat) (set : List WEntry) (outs : List OutVal) (evals : List Eval),
    s.up = true ∧ s.shadows = true ∧ count < 2 ^ 32 ∧ crc < 2 ^ 64 ∧ seq < 2 ^ 32 →
    (Table.get s.red.copies {} seq).bytes.length ≠ count ∨ crc64 (Table.get s.red.copies {} seq).bytes ≠ crc ∨ (s.red.nextUnit ≠ 0 ∧ s.red.nextUnit ≠ seq + 1) →
    Does (.copyEndReceived seq count crc set outs evals) s (fun t =>
      t.red.copyDisc = satInc 32 s.red.copyDisc ∧ t.red.ready = false ∧ t.red.copies = [] ∧ t.red.shadowing = [] ∧ t.red.cur = s.red.cur ∧
      Records s t 0x5009 [] ∧ OnlyIn [.red, .evr] s t)) ∧
  (∀ (s : State) (seq count crc : Nat) (set : List WEntry) (own : List OutVal) (evals : List Eval) (k : Nat) (c : MTime) (image : List (Nat × SurveyRec)) (ret : List WEntry) (outs : List OutVal) (sig : Nat),
    s.up = true ∧ s.shadows = true ∧ count < 2 ^ 32 ∧ crc < 2 ^ 64 ∧ seq < 2 ^ 32 ∧ (Table.get s.red.copies {} seq).units = [.task k c image ret outs sig] →
    (Table.get s.red.copies {} seq).bytes.length = count ∧ crc64 (Table.get s.red.copies {} seq).bytes = crc ∧ (s.red.nextUnit = 0 ∨ s.red.nextUnit = seq + 1) →
    s.red.changes = [] ∧ s.red.swap ≠ 2 ∧ s.red.shadowing.contains k = true ∧ setSig set = sig →
    Does (.copyEndReceived seq count crc set own evals) s (fun t =>
      (Table.get t.red.matched 0 k = Table.get s.red.matched 0 k + 1 ∧ t.red.divergences = s.red.divergences ∧ t.red.nextUnit = seq + 2) ∧
      (t.taskRun k).c = c ∧ (t.taskRun k).cycles = (s.taskRun k).cycles + 1 ∧ t.mode.mode = .standby ∧
      ((16 ≤ Table.get s.red.matched 0 k + 1 → (∀ o ∈ s.owners, o ≠ k → 16 ≤ Table.get s.red.matched 0 o) → s.setDiffers = false → t.red.ready = true)) ∧
      OnlyIn [.freeCtr, .mode, .evr, .tri, .mer, .tsk, .ring, .red, .sur, .dio, .aio, .saf, .can, .crt, .clk, .mem, .pwr, .elems] s t)) ∧
  (∀ (s : State) (seq count crc : Nat) (set : List WEntry) (own : List OutVal) (evals : List Eval) (k : Nat) (c : MTime) (image : List (Nat × SurveyRec)) (ret : List WEntry) (outs : List OutVal) (sig : Nat),
    s.up = true ∧ s.shadows = true ∧ count < 2 ^ 32 ∧ crc < 2 ^ 64 ∧ seq < 2 ^ 32 ∧ (Table.get s.red.copies {} seq).units = [.task k c image ret outs sig] →
    (Table.get s.red.copies {} seq).bytes.length = count ∧ crc64 (Table.get s.red.copies {} seq).bytes = crc ∧ (s.red.nextUnit = 0 ∨ s.red.nextUnit = seq + 1) →
    s.red.changes = [] ∧ s.red.swap ≠ 2 ∧ s.red.shadowing.contains k = true ∧ setSig set ≠ sig →
    Does (.copyEndReceived seq count crc set own evals) s (fun t =>
      t.red.ready = false ∧ t.red.divergences = satInc 32 s.red.divergences ∧ Records s t 0x500A [k] ∧ Records s t 0x500B [1] ∧
      t.mode.mode = .standby ∧ t.red.cur = s.red.cur ∧
      OnlyIn [.freeCtr, .mode, .evr, .tri, .mer, .tsk, .ring, .red, .sur, .dio, .aio, .saf, .can, .crt, .clk, .mem, .pwr, .elems] s t)) ∧
  (∀ (s : State) (chan : Chan) (value : Nat) (latch release : MTime),
    s.up = true ∧ s.paralleled chan = true ∧ (match chan with | .dio n => n < 32 ∧ value < 2 | .ao n => n < 8 ∧ value < 2 ^ 32 | _ => False) →
    s.now < release ∧ ∀ q ∈ s.red.staged, s.now < q.release →
    Does (.stageUnitReceived chan value latch release) s (fun t =>
      t.red = { s.red with staged := s.red.staged ++ [{ chan := chan, value := value, latch := latch, release := release }], lastStage := Table.put s.red.lastStage (chanNo chan) (value, latch) } ∧
      OnlyIn [.red] s t)) ∧
  (∀ (s : State) (p : Nat) (value : Nat) (latch release : MTime),
    s.up = true ∧ s.pairMember = true ∧ p < 4 ∧ value < 2 →
    Does (.stageUnitReceived (.saf p) value latch release) s (fun t =>
      ((t.safPair p) = { s.safPair p with stagedEnable := value != 0 } ∧ (∀ q, q ≠ p → t.safPair q = s.safPair q)) ∧
      OnlyIn [.saf] s t)) ∧
  (∀ (s : State) (slot n value : Nat) (i : MTime),
    s.up = true ∧ s.shadows = true ∧ slot < 4096 ∧ n < 256 ∧ value < 2 ^ 64 →
    Does (.changeUnitReceived (ea (0x31000 + slot) n) value i) s (fun t =>
      t.cen = { s.cen with changes := s.cen.changes ++ [{ slot := slot, elem := n, value := value, at_ := i }] } ∧
      OnlyIn [.cen] s t)) ∧
  (∀ (s : State) (slot value : Nat) (i : MTime),
    s.up = true ∧ s.shadows = true ∧ 0x28000 ≤ slot ∧ slot ≤ 0x2FFFF ∧ value < 2 ^ 64 →
    Does (.changeUnitReceived (ea slot 0) value i) s (fun t =>
      t.red = { s.red with changes := s.red.changes ++ [(ea slot 0, value, i)] } ∧
      OnlyIn [.red] s t)) ∧
  (∀ (s : State) (m : Mode) (i : MTime),
    s.up = true ∧ s.pairMember = true ∧ s.red.holds = false →
    Does (.modeUnitReceived m i) s (fun t =>
      t.red = { s.red with dutyMode := m.code } ∧ t.mode = s.mode ∧
      OnlyIn [.red] s t))

/-- An accepted transfer chooses F, the first whole millisecond at least 2 ms on, and sends YIELD with it to the witness and the partner; one of R222's conditions missing refuses it STATE-REFUSED. With no CLAIM with F by F − 1 ms the transfer is abandoned (event 0x5012). A called-for resynchronisation starts with a pass over every page; a pass with 256 KiB or less left ends it task by task; one whose page writes outrun the capacity for 10 s is abandoned (0x500B) and may start again 10 s later. (R222, R223, R224, R225, R226, 08_duty_standby_witness.md Table 08-7) -/
def Obligations.TransfersAndResynchronisationsProceed : Prop :=
  (∀ (s : State) (who : Who),
    Asked s who 2 ∧ s.mayTransfer = true →
    Does (.plannedTransfer who) s (fun t =>
      t.red = { s.red with transfer := some { f := chosenF t, swap := false } } ∧ chosenF t % 1000000 = 0 ∧ s.now + 2000000 ≤ chosenF t ∧ chosenF t < s.now + 3000000 ∧
      t.sent = .status 0 0 0 :: .claim 1 8 s.station s.modIndex s.heldClaim.1 (chosenF t) 0 0 0 :: .claim 2 8 s.station s.modIndex s.heldClaim.1 (chosenF t) 0 0 0 :: s.sent ∧
      OnlyIn [.red, .net, .sent] s t)) ∧
  (∀ (s : State) (who : Who),
    Asked s who 2 ∧ s.mayTransfer = false →
    Does (.plannedTransfer who) s (fun t =>
      Answered t .stateRefused s.stateDetail ∧
      OnlyIn [.net, .sent] s t)) ∧
  (∀ (s : State) (x : Transfer),
    s.up = true ∧ s.red.holds = true ∧ s.red.transfer = some x ∧ x.f - 1000000 ≤ s.now →
    ∀ c, s.red.next_ = some c → c.f ≠ x.f →
    Does (.transferEndorseDeadline) s (fun t =>
      t.red = { s.red with transfer := none, swap := if x.swap then 0 else s.red.swap } ∧ Records s t 0x5012 [] ∧ t.mode.mode = s.mode.mode ∧
      OnlyIn [.red, .evr] s t)) ∧
  (∀ (s : State) (c : Nat) (f : MTime) (r : Nat),
    s.up = true ∧ s.red.transfer = none ∧ s.red.request = some (c, f, r) ∧ f ≠ 0 ∧ f - 1000000 < s.now →
    Does (.transferEndorseDeadline) s (fun t =>
      t.red = { s.red with request := none, swap := if s.red.swap = 3 then 2 else s.red.swap } ∧
      OnlyIn [.red] s t)) ∧
  (∀ (s : State) (written : List Nat),
    s.up = true ∧ s.resyncDue = true ∧ s.red.finishing = [] ∧ s.red.resync = false →
    Does (.resyncPass written) s (fun t =>
      t.red = { s.red with resync := true, pass := 1, pages := [], remaining := s.regionPages * 4096, passAt := s.mer.raw, outrunSince := none } ∧
      t.sent = .copy 3 0xFFFF s.now [1, s.regionPages * 4096] :: s.sent ∧ Records s t 0x500B [1] ∧
      OnlyIn [.red, .evr, .net, .sent] s t)) ∧
  (∀ (s : State) (written : List Nat),
    s.up = true ∧ s.resyncDue = true ∧ s.red.finishing = [] ∧ s.red.resync = true ∧ written.length ≤ 64 →
    Does (.resyncPass written) s (fun t =>
      t.red = { s.red with pass := s.red.pass + 1, remaining := written.length * 4096, passAt := s.mer.raw, outrunSince := none, pages := written, finishing := s.owners } ∧
      OnlyIn [.red] s t)) ∧
  (∀ (s : State) (written : List Nat),
    s.up = true ∧ s.resyncDue = true ∧ s.red.finishing = [] ∧ s.red.resync = true ∧ 64 < written.length →
    Does (.resyncPass written) s (fun t =>
      t.red.pass = s.red.pass + 1 ∧ t.red.remaining = written.length * 4096 ∧ t.red.pages = written ∧ t.red.finishing = [] ∧ t.red.ready = s.red.ready ∧
      t.sent = .copy 3 0xFFFF s.now ((s.red.pass + 1) :: written) :: s.sent ∧
      OnlyIn [.red, .net, .sent] s t)) ∧
  (∀ (s : State) (r : Nat),
    s.up = true ∧ s.red.resync = true ∧ s.red.outrunSince = some r ∧ r + 4000000000 ≤ s.mer.raw →
    Does (.resyncNoConvergence) s (fun t =>
      t.red = { s.red with resync := false, pages := [], pass := 0, remaining := 0, outrunSince := none, restartAt := some (s.mer.raw + 4000000000) } ∧
      Records s t 0x500B [2] ∧ OnlyIn [.red, .evr] s t)) ∧
  (∀ (s : State) (r : Nat),
    s.up = true ∧ s.red.restartAt = some r ∧ r ≤ s.mer.raw →
    Does (.resyncRestart) s (fun t =>
      t.red = { s.red with restartAt := none, resync := false } ∧
      OnlyIn [.red] s t))

/-- An accepted start keeps the new program; the first container check or copy limit that fails refuses it and changes nothing. The mapping gives each new instance the state of the old one of the same path, type identity and class as Table 08-9 says, and a fresh state otherwise, makes the new program the standby's and the swap state SHADOW. An accepted swap at the duty starts a transfer whose YIELD carries INFO bit 0. An abort puts the old program back, and the standby is not ready and resynchronises. (R206, R222, R228, R229, R230, 08_duty_standby_witness.md Table 08-8, Table 08-9) -/
def Obligations.SwapsFollowTable0808 : Prop :=
  (∀ (s : State) (who : Who) (prog : Program),
    Asked s who 2 ∧ Authorised s ∧ s.shadows = true ∧ s.red.dutyMode = Mode.run.code ∧ s.red.ready = true ∧ s.synced = true ∧ s.peerSynced = true ∧ s.red.swap = 0 →
    s.loadFault prog = none ∧ s.swapCopyFault prog = none →
    Does (.swapStartShadow who prog) s (fun t =>
      t.red = { s.red with swap := 1, newProgram := some prog } ∧ Answered t .ok 0 ∧
      OnlyIn [.red, .net, .sent] s t)) ∧
  (∀ (s : State) (who : Who) (prog : Program) (a : Ans),
    Asked s who 2 ∧ Authorised s ∧ s.shadows = true ∧ s.red.dutyMode = Mode.run.code ∧ s.red.ready = true ∧ s.synced = true ∧ s.peerSynced = true ∧ s.red.swap = 0 →
    s.loadFault prog = some a →
    Does (.swapStartShadow who prog) s (fun t =>
      t.sent.head? = some (.status a.status.code a.detail 0) ∧
      OnlyIn [.net, .sent] s t)) ∧
  (∀ (s : State) (p : Program),
    s.up = true ∧ s.shadows = true ∧ s.red.swap = 1 ∧ s.red.newProgram = some p →
    Does (.swapMapping) s (fun t =>
      t.tsk.active = some p ∧ t.red.swap = 2 ∧ t.red.oldProgram = some (s.tsk.active.getD { ident := 0, tasks := [] }) ∧ t.red.newProgram = none ∧ t.red.swapDiffs = 0 ∧ t.red.swapCycles = [] ∧
      ((∀ i d, p.insts[i]? = some d → Table.get t.tsk.insts {} i = (match oldInst (s.tsk.active.getD { ident := 0, tasks := [] }) d with | some (j, _) => carried d (Table.get s.tsk.insts {} j) | none => {}))) ∧
      t.red.ready = s.red.ready ∧ t.mode.mode = .standby ∧
      OnlyIn [.evr, .wpt, .tsk, .red, .mem, .elems] s t)) ∧
  (∀ (s : State) (who : Who),
    Asked s who 2 ∧ Authorised s ∧ s.mayTransfer = true ∧ s.mode.mode = .run →
    Does (.swapExecute who) s (fun t =>
      t.red = { s.red with transfer := some { f := chosenF t, swap := true }, swap := 3 } ∧ chosenF t % 1000000 = 0 ∧ s.now + 2000000 ≤ chosenF t ∧ chosenF t < s.now + 3000000 ∧
      t.sent = .status 0 0 0 :: .claim 1 8 s.station s.modIndex s.heldClaim.1 (chosenF t) 0 0 1 :: .claim 2 8 s.station s.modIndex s.heldClaim.1 (chosenF t) 0 0 1 :: s.sent ∧
      OnlyIn [.red, .net, .sent] s t)) ∧
  (∀ (s : State) (who : Who),
    Asked s who 2 ∧ Authorised s ∧ s.shadows = true ∧ s.red.swap ≠ 0 ∧ s.red.transfer = none →
    Does (.swapAbort who) s (fun t =>
      t.red.swap = 0 ∧ t.red.newProgram = none ∧ t.red.oldProgram = none ∧ t.red.request = none ∧ t.red.ready = false ∧ Answered t .ok 0 ∧
      ((∀ p, s.red.oldProgram = some p → s.red.swap ≠ 1 → t.tsk.active = some p)) ∧
      Records s t 0x5010 [] ∧ Records s t 0x500B [1] ∧
      OnlyIn [.evr, .wpt, .tsk, .red, .net, .elems, .sent] s t)) ∧
  (∀ (s : State) (who : Who),
    Asked s who 2 ∧ (s.shadows = false ∨ s.red.swap = 0) →
    Does (.swapAbort who) s (fun t =>
      Answered t .stateRefused s.stateDetail ∧
      OnlyIn [.net, .sent] s t))

/-- An admitted OPEN takes a session slot: open at once at Observer level (where 0xA8001.1 is 1) or under the bootstrap, PROVING otherwise, and answers with the identity and a 32-byte challenge; without a free slot it is refused SESSION 3. A valid PROVE opens the session at its level, an invalid one frees it, records 0xA802 and is answered TOKEN; one of an open session changes nothing of it and is answered SESSION 6. CHALLENGE of a Custodian's slot issues a nonce, of another TOKEN 4. CLOSE frees the slot. Unproven and idle sessions end; nonces end after 120 s. A violation is counted, recorded and, with a good CRC, answered MALFORMED with the first faulty byte. (R237, R238, R239, R240, R241, R249, R252, R253, 09_legend_and_survey.md Table 09-4, Table 09-7) -/
def Obligations.SessionsAreOpenedProvenAndEnded : Prop :=
  (∀ (s : State) (src : Source_) (m : List Byte) (i : Nat),
    Message s 0x01 src m ∧ s.admits src none false m = true →
    (∀ j, j < 32 → s.sessionOver (s.session j) = false) ∧ s.slotForSession = some i →
    byteAt (item0 m) 0 ≤ 2 ∧ (byteAt (item0 m) 1 < 32 ∨ byteAt (item0 m) 1 = 0xFF) →
    Does (.legendOpen src m) s (fun t =>
      ((t.session i).state = (if (byteAt (item0 m) 0 = 0 ∧ s.elB 0xA8001 1 true = true) ∨ (byteAt (item0 m) 0 ≠ 0 ∧ s.bootstrap = true) then 2 else 1)) ∧
      (t.session i).level = byteAt (item0 m) 0 ∧ (t.session i).key = byteAt (item0 m) 1 ∧ (t.session i).source = some src ∧ (t.session i).openedAt = s.mer.raw ∧
      ((t.session i).challenge.length = 32 ∧ (t.session i).nonces = [] ∧ (∀ j, j ≠ i → t.session j = s.session j)) ∧
      Replied s t src (answerMsg (m.take 4 ++ leBytes 4 (t.session i).id ++ m.drop 8) .ok 0 1 (s.identBytes ++ (t.session i).challenge)) ∧
      OnlyIn [.freeCtr, .evr, .net, .leg, .can, .sent] s t)) ∧
  (∀ (s : State) (src : Source_) (m : List Byte),
    Message s 0x01 src m ∧ s.admits src none false m = true →
    (∀ j, j < 32 → s.sessionOver (s.session j) = false) ∧ s.slotForSession = none →
    byteAt (item0 m) 0 ≤ 2 ∧ (byteAt (item0 m) 1 < 32 ∨ byteAt (item0 m) 1 = 0xFF) →
    Does (.legendOpen src m) s (fun t =>
      (t.sent = ((s.deliver_ src (answerMsg m .session 0 0 (leBytes 4 3))).sent)) ∧
      ((∀ i, (t.session i).state = (s.session i).state)) ∧
      OnlyIn [.freeCtr, .evr, .net, .leg, .can, .sent] s t)) ∧
  (∀ (s : State) (src : Source_) (m : List Byte) (i : Nat),
    Message s 0x02 src m ∧ Names s src m i ∧ (s.session i).state = 1 ∧ s.admits src none false m = true →
    s.mem.tamper = false ∧ (s.keySlot (s.session i).key).level ≠ 0 ∧ (s.session i).level ≤ (s.keySlot (s.session i).key).level →
    edVerify (s.keySlot (s.session i).key).pub (s.proofMsg (s.session i)) (item0 m) = true →
    Does (.legendProve src m) s (fun t =>
      (t.session i).state = 2 ∧ (t.session i).level = (s.session i).level ∧ (t.session i).id = (s.session i).id ∧ (t.session i).lastAt = s.mer.raw ∧
      (Replied s t src (answerMsg m .ok 0 0 []) ∧ (1 ≤ (s.session i).level → Records s t 0xA801 [(s.session i).level, srcNum src])) ∧
      ((∀ j, j ≠ i → t.session j = s.session j)) ∧
      OnlyIn [.freeCtr, .evr, .net, .leg, .can, .sent] s t)) ∧
  (∀ (s : State) (src : Source_) (m : List Byte) (i : Nat),
    Message s 0x02 src m ∧ Names s src m i ∧ (s.session i).state = 1 ∧ s.admits src none false m = true →
    s.mem.tamper = false ∧ (s.keySlot (s.session i).key).level ≠ 0 →
    edVerify (s.keySlot (s.session i).key).pub (s.proofMsg (s.session i)) (item0 m) = false →
    Does (.legendProve src m) s (fun t =>
      (t.session i = {} ∧ (∀ j, j ≠ i → (t.session j).state = (s.session j).state)) ∧
      Replied s t src (answerMsg m .token 0 0 (leBytes 4 2)) ∧ Records s t 0xA802 [srcNum src] ∧
      OnlyIn [.freeCtr, .evr, .net, .leg, .can, .sent] s t)) ∧
  (∀ (s : State) (src : Source_) (m : List Byte) (i : Nat),
    Message s 0x02 src m ∧ Names s src m i ∧ (s.session i).state = 2 ∧ s.admits src none false m = true →
    Does (.legendProve src m) s (fun t =>
      (t.session i).state = 2 ∧ (t.session i).level = (s.session i).level ∧ (t.session i).nonces = (s.session i).nonces ∧
      Replied s t src (answerMsg m .session 0 0 (leBytes 4 6)) ∧
      OnlyIn [.freeCtr, .evr, .net, .leg, .can, .sent] s t)) ∧
  (∀ (s : State) (src : Source_) (m : List Byte) (i : Nat),
    Served s 0x03 src m i →
    Does (.legendClose src m) s (fun t =>
      (t.session i = {} ∧ (∀ j, j ≠ i → t.session j = s.session j) ∧ Replied s t src (answerMsg m .ok 0 0 [])) ∧
      OnlyIn [.freeCtr, .evr, .net, .leg, .can, .sent] s t)) ∧
  (∀ (s : State) (src : Source_) (m : List Byte) (i : Nat),
    Served s 0x04 src m i ∧ byteAt (item0 m) 0 < 32 ∧ (s.keySlot (byteAt (item0 m) 0)).level = 3 ∧ s.mem.tamper = false →
    Does (.legendChallenge src m) s (fun t =>
      ((t.session i).nonces.head?.map (fun n => (n.key, n.at_, n.bytes.length))) = some (byteAt (item0 m) 0, s.mer.raw, 32) ∧ (t.session i).nonces.length ≤ 4 ∧
      Replied s t src (answerMsg m .ok 0 1 (((t.session i).nonces.head?.map (·.bytes)).getD [])) ∧
      ((∀ j, j ≠ i → t.session j = s.session j)) ∧
      OnlyIn [.freeCtr, .evr, .net, .leg, .can, .sent] s t)) ∧
  (∀ (s : State) (src : Source_) (m : List Byte) (i : Nat),
    Served s 0x04 src m i ∧ (s.keySlot (byteAt (item0 m) 0)).level ≠ 3 →
    Does (.legendChallenge src m) s (fun t =>
      (t.session i).nonces = (s.session i).nonces ∧ Replied s t src (answerMsg m .token 0 0 (leBytes 4 4)) ∧
      OnlyIn [.freeCtr, .evr, .net, .leg, .can, .sent] s t)) ∧
  (∀ (s : State) (i : Fin 32),
    s.up = true ∧ (s.session i).state = 1 ∧ (s.session i).openedAt + 4000000000 ≤ s.mer.raw →
    Does (.sessionProofTimeout i) s (fun t =>
      (t.leg = { s.leg with expired := (s.session i).id :: s.leg.expired, sessions := t.leg.sessions } ∧ t.session i = {} ∧ (∀ j, j ≠ i.val → t.session j = s.session j)) ∧
      OnlyIn [.leg] s t)) ∧
  (∀ (s : State) (i : Fin 32),
    s.up = true ∧ (s.session i).state = 2 ∧ (s.session i).lastAt + 400000000 * s.el 0xA8001 0 60 ≤ s.mer.raw →
    Does (.sessionIdleExpiry i) s (fun t =>
      (t.leg = { s.leg with expired := (s.session i).id :: s.leg.expired, sessions := t.leg.sessions } ∧ t.session i = {} ∧ (∀ j, j ≠ i.val → t.session j = s.session j)) ∧
      OnlyIn [.leg] s t)) ∧
  (∀ (s : State) (i : Fin 32),
    s.up = true ∧ (s.session i).state ≠ 0 →
    Does (.nonceExpiry i) s (fun t =>
      t.session i = { s.session i with nonces := (s.session i).nonces.filter (fun n => decide (s.mer.raw < n.at_ + 48000000000)) } ∧
      ((∀ j, j ≠ i.val → t.session j = s.session j) ∧ OnlyIn [.leg] s t))) ∧
  (∀ (s : State) (src : Source_) (m : List Byte) (o : Nat),
    s.up = true ∧ isClient src = true ∧ s.hears src = true ∧ msgReadable m = true ∧ msgFault m false = some o ∧ (s.rate src).2 < 10 →
    Does (.legendMessageMalformed src m) s (fun t =>
      t.leg.viol = satInc 32 s.leg.viol ∧ t.leg.sessions = s.leg.sessions ∧ Records s t 0xA811 [srcNum src] ∧
      Replied s t src (answerMsg m .malformed 0 0 (leBytes 4 o)) ∧ OnlyIn [.leg, .evr, .net, .sent, .can] s t)) ∧
  (∀ (s : State) (src : Source_) (m : List Byte),
    s.up = true ∧ isClient src = true ∧ s.hears src = true ∧ (msgReadable m = false ∨ ((msgFault m false).isSome = true ∧ 10 ≤ (s.rate src).2)) →
    Does (.legendMessageMalformed src m) s (fun t =>
      t.leg.viol = satInc 32 s.leg.viol ∧ t.leg.sessions = s.leg.sessions ∧ Records s t 0xA811 [srcNum src] ∧
      OnlyIn [.leg, .evr] s t))

/-- An admitted READ answers each item with what its element holds and its answer is kept for 2 s. A WRITE of one item that is no command and needs no token has the effect of that write and nothing else, and answers its status; one of an element that does not exist, or below its privilege, changes no element. Segments of the staging buffer are read and written at their offset; a segment of an element that is no OCTETS is refused ACCESS. BROWSE answers whole entries. A request that repeats a kept answer receives it again and nothing happens; one that is not admitted is answered BUSY. (R236, R242, R243, R244, R247, R249, R250, R251, R264, 09_legend_and_survey.md Table 09-6) -/
def Obligations.RequestsAreServedAndAnsweredOnce : Prop :=
  (∀ (s : State) (src : Source_) (m : List Byte) (i : Nat) (l : List (List Byte)),
    Served s 0x10 src m i →
    l = (askItems m 0).map (fun it => readBytes ((s.afterAdmission src i m).readItem (eaEntry (leAt it 0 4)) (eaElem (leAt it 0 4)))) ∧ l.flatten.length ≤ 1440 →
    Does (.legendRead src m) s (fun t =>
      Replied s t src (answerCode m (headStatus (l.map (fun it => byteAt it 0))) 0 l.length l.flatten) ∧
      ((t.session i).kept.head?.map (fun k => (k.reqId, k.at_))) = some (msgReqId m, s.mer.raw) ∧
      t.leg.admitted = s.leg.admitted + 1 ∧ t.elems = s.elems ∧
      OnlyIn [.freeCtr, .mode, .evr, .sys, .tri, .mer, .wpt, .tsk, .ring, .cen, .red, .wit, .net, .leg, .sur, .dio, .aio, .saf, .can, .crt, .clk, .mem, .pwr, .elems, .sent] s t)) ∧
  (∀ (s : State) (src : Source_) (m : List Byte) (i : Nat) (dec : Decoded),
    Served s 0x11 src m i ∧ (askItems m 0).length = 1 →
    (s.afterAdmission src i m).isCommandItem (wItem (item0 m)) = false ∧ (s.afterAdmission src i m).itemNeedsToken (wItem (item0 m)) = false →
    (s.itemWrite src m i dec).1 = ansOk →
    Does (.legendWrite src m dec) s (fun t =>
      OnlyIn [.leg, .net, .sent, .can] (s.itemWrite src m i dec).2 t ∧
      Replied (s.itemWrite src m i dec).2 t src (answerMsg m .ok 0 1 (statusItem ansOk)))) ∧
  (∀ (s : State) (src : Source_) (m : List Byte) (i : Nat) (dec : Decoded) (it : List Byte),
    Served s 0x11 src m i ∧ askItems m 0 = [it] →
    s.element? (wItem it).e (wItem it).n = none →
    Does (.legendWrite src m dec) s (fun t =>
      Replied s t src (answerMsg m .noEntry 0 1 (statusItem { status := .noEntry })) ∧
      OnlyIn [.freeCtr, .leg, .net, .sent, .can] s t)) ∧
  (∀ (s : State) (src : Source_) (m : List Byte) (i : Nat) (off len : Nat),
    Served s 0x12 src m i ∧ eaEntry (segEa (item0 m)) = 0xA8200 ∧ eaElem (segEa (item0 m)) = 0 ∧ off = segOff (item0 m) ∧ len = segLen (item0 m) →
    off + len ≤ 16777216 ∧ len ≤ 1424 →
    Does (.legendSegRead src m) s (fun t =>
      Replied s t src (answerMsg m .ok 0 1 (statusItem ansOk ++ padTo4 ((upto len).map (fun k => s.leg.staging.read (off + k))))) ∧
      t.leg.staging = s.leg.staging ∧ t.elems = s.elems ∧
      OnlyIn [.freeCtr, .mode, .evr, .sys, .tri, .mer, .wpt, .tsk, .ring, .cen, .red, .wit, .net, .leg, .sur, .dio, .aio, .saf, .can, .crt, .clk, .mem, .pwr, .elems, .sent] s t)) ∧
  (∀ (s : State) (src : Source_) (m : List Byte) (i : Nat) (d : Desc),
    Served s 0x12 src m i ∧ (s.afterAdmission src i m).element? (eaEntry (segEa (item0 m))) (eaElem (segEa (item0 m))) = some d ∧ d.ty ≠ 13 →
    Does (.legendSegRead src m) s (fun t =>
      Replied s t src (answerMsg m .access 0 1 (statusItem { status := .access })) ∧ t.elems = s.elems ∧
      OnlyIn [.freeCtr, .mode, .evr, .sys, .tri, .mer, .wpt, .tsk, .ring, .cen, .red, .wit, .net, .leg, .sur, .dio, .aio, .saf, .can, .crt, .clk, .mem, .pwr, .elems, .sent] s t)) ∧
  (∀ (s : State) (src : Source_) (m : List Byte) (i : Nat) (off len : Nat),
    Served s 0x13 src m i ∧ eaEntry (segEa (item0 m)) = 0xA8200 ∧ eaElem (segEa (item0 m)) = 0 ∧ off = segOff (item0 m) ∧ len = segLen (item0 m) →
    off + len ≤ 16777216 ∧ 1 ≤ len ∧ len ≤ 1424 ∧ (s.session i).level = 2 ∧ s.mode.lifeCycle ≠ .retired ∧ len ≤ (item0 m).length - 12 →
    Does (.legendSegWrite src m) s (fun t =>
      ((∀ k, k < len → Memory.read t.leg.staging (off + k) = (item0 m).getD (12 + k) 0)) ∧
      ((∀ a, (a < off ∨ off + len ≤ a) → Memory.read t.leg.staging a = Memory.read s.leg.staging a) ∧ t.leg.stagingLen = max s.leg.stagingLen (off + len)) ∧
      Replied s t src (answerMsg m .ok 0 1 (statusItem ansOk)) ∧ t.elems = s.elems ∧
      OnlyIn [.freeCtr, .evr, .net, .leg, .can, .sent] s t)) ∧
  (∀ (s : State) (src : Source_) (m : List Byte) (i : Nat) (x : Nat) (l : List (List Byte)),
    Served s 0x14 src m i ∧ (s.afterAdmission src i m).nextEntry (leAt (item0 m) 0 4) = some x ∧ ((s.afterAdmission src i m).entryItems x).length * 28 ≤ 1440 →
    l = (s.afterAdmission src i m).browse 52 (leAt (item0 m) 0 4) 1440 ∧ l.flatten.length ≤ 1440 →
    Does (.legendBrowse src m) s (fun t =>
      Replied s t src (answerMsg m .ok 0 l.length l.flatten) ∧ t.elems = s.elems ∧
      OnlyIn [.freeCtr, .evr, .net, .leg, .can, .sent] s t)) ∧
  (∀ (s : State) (src : Source_) (m : List Byte) (i : Nat),
    Served s 0x14 src m i ∧ (s.afterAdmission src i m).nextEntry (leAt (item0 m) 0 4) = none →
    Does (.legendBrowse src m) s (fun t =>
      Replied s t src (answerMsg m .ok 0 0 []) ∧ t.elems = s.elems ∧
      OnlyIn [.freeCtr, .evr, .net, .leg, .can, .sent] s t)) ∧
  (∀ (s : State) (src : Source_) (m : List Byte) (i : Nat) (b : List Byte),
    Message s 0x10 src m ∧ s.findSession (msgSession m) = some i ∧ s.sessionOver (s.session i) = false ∧ (s.session i).source = some src →
    s.keptAnswer i (msgReqId m) = some b →
    Does (.legendRead src m) s (fun t =>
      Replied s t src b ∧ t.leg = s.leg ∧ OnlyIn [.net, .sent, .can] s t)) ∧
  (∀ (s : State) (src : Source_) (m : List Byte) (dec : Decoded) (i : Nat),
    Message s 0x11 src m ∧ Names s src m i ∧ (s.session i).state = 2 ∧ s.admits src (some i) ((s.session i).level == 0) m = false ∧ (s.rate src).1 < 100 →
    Does (.legendWrite src m dec) s (fun t =>
      t.leg.busy = satInc 32 s.leg.busy ∧ t.leg.admitted = s.leg.admitted ∧ t.leg.sessions = s.leg.sessions ∧
      1 ≤ s.retryHint src (some i) ((s.session i).level == 0) m ∧ s.retryHint src (some i) ((s.session i).level == 0) m ≤ 60000 ∧
      Replied s t src (answerMsg m .busy (s.retryHint src (some i) ((s.session i).level == 0) m) 0 []) ∧
      Records s t 0xA810 [srcNum src] ∧ OnlyIn [.leg, .evr, .net, .sent, .can] s t)) ∧
  (∀ (s : State) (who : Who),
    Asked s who 2 →
    Does (.stagingBufferClear who) s (fun t =>
      t.leg = { s.leg with staging := [], stagingLen := 0 } ∧ Answered t .ok 0 ∧
      OnlyIn [.leg, .net, .sent] s t)) ∧
  (∀ (s : State) (c k : Fin 4) (data : List Byte) (dec : Decoded),
    s.up = true ∧ s.tri.cc1.inReset = false ∧ s.leg.canUp = true ∧ s.pairOn c k = true ∧ s.partial_ c k = none ∧ data.length = 63 →
    Does (.legendCanSegment c k (0x40 :: data) dec) s (fun t =>
      (t.partial_ c k = some { bytes := data, counter := 0, at_ := s.mer.raw } ∧ (∀ a b : Nat, (a ≠ c ∨ b ≠ k) → t.partial_ a b = s.partial_ a b)) ∧
      OnlyIn [.leg] s t)) ∧
  (∀ (s : State) (c k : Fin 4) (r : Reassembly) (b0 : Byte) (data : List Byte) (dec : Decoded),
    s.up = true ∧ s.tri.cc1.inReset = false ∧ s.leg.canUp = true ∧ s.pairOn c k = true ∧ s.partial_ c k = some r ∧ s.mer.raw ≤ r.at_ + 20000000 →
    data.length = 63 ∧ b0.toNat / 64 = 2 ∧ b0.toNat % 64 = (r.counter + 1) % 64 ∧ r.counter + 1 < 24 →
    Does (.legendCanSegment c k (b0 :: data) dec) s (fun t =>
      t.partial_ c k = some { bytes := r.bytes ++ data, counter := r.counter + 1, at_ := s.mer.raw } ∧
      OnlyIn [.leg] s t)) ∧
  (∀ (s : State) (c k : Fin 4) (r : Reassembly),
    s.up = true ∧ s.partial_ c k = some r ∧ r.at_ + 20000000 < s.mer.raw →
    Does (.legendCanReassemblyTimeout c k) s (fun t =>
      t.partial_ c k = none ∧ t.leg.viol = satInc 32 s.leg.viol ∧ Records s t 0xA811 [srcNum (.can c k)] ∧
      OnlyIn [.leg, .evr] s t))

/-- A SURVEY_READ of own points answers each as its record stands, with the Meridian quality byte; an ATOMIC one with Q ahead waits and is answered at Q with the points as they then stand, and one whose Q is past is refused TOO-LATE. An accepted SURVEY_WRITE writes the record whole: value, quality, the age of now, the next SEQ, OLD clear; if any item fails none is applied. The sweep sets OLD on visited records older than 8,388,608 µs and changes nothing else. (R254, R255, R256, R257, R258, R259, 09_legend_and_survey.md Table 09-12) -/
def Obligations.SurveyPointsAreReadWrittenAndSwept : Prop :=
  (∀ (s : State) (src : Source_) (m : List Byte) (i : Nat),
    Served s 0x20 src m i ∧ msgAtomic m = false ∧ OwnPoints s m ∧ (askItems m 0).length * (4 + surveyBody (msgMeta m)) ≤ 1440 ∧ (askItems m 0).length ≤ 71 →
    (s.ownItems src i m).flatten.length ≤ 1440 →
    Does (.surveyRead src m) s (fun t =>
      Replied s t src (answerCode m (headStatus ((s.ownItems src i m).map (fun it => byteAt it 0))) 0 (askItems m 0).length (s.ownItems src i m).flatten) ∧
      t.sur = s.sur ∧
      OnlyIn [.freeCtr, .mode, .evr, .sys, .tri, .mer, .wpt, .tsk, .ring, .cen, .red, .wit, .net, .leg, .sur, .dio, .aio, .saf, .can, .crt, .clk, .mem, .pwr, .elems, .sent] s t)) ∧
  (∀ (s : State) (src : Source_) (m : List Byte) (i : Nat) (q : MTime),
    Served s 0x20 src m i ∧ msgAtomic m = true ∧ OwnPoints s m ∧ askItems m 0 ≠ [] ∧ 8 + (askItems m 0).length * (4 + surveyBody (msgMeta m)) ≤ 1440 ∧ (askItems m 0).length ≤ 71 →
    q = toSigned 64 (leAt (msgPayload m) 0 8) ∧ q ≠ 0 ∧ s.now + 1000000 ≤ q ∧ q ≤ s.now + 10000000000 ∧ s.leg.atomics.length < 4 →
    Does (.surveyRead src m) s (fun t =>
      t.leg.atomics.length = s.leg.atomics.length + 1 ∧ (t.leg.atomics.getLast?.map (fun x => (x.q, x.points))) = some (q, (askItems m 0).map (fun it => ptLocal (leAt it 0 4))) ∧
      OnlyIn [.leg] s t)) ∧
  (∀ (s : State) (src : Source_) (m : List Byte) (i : Nat) (q : MTime),
    Served s 0x20 src m i ∧ msgAtomic m = true ∧ 8 + (askItems m 0).length * (4 + surveyBody (msgMeta m)) ≤ 1440 ∧ (askItems m 0).length ≤ 71 →
    q = toSigned 64 (leAt (msgPayload m) 0 8) ∧ q ≠ 0 ∧ q < s.now + 1000000 →
    Does (.surveyRead src m) s (fun t =>
      Replied s t src (answerMsg m .tooLate 0 0 (leBytes 4 0)) ∧ t.leg.atomics = s.leg.atomics ∧
      OnlyIn [.evr, .net, .leg, .can, .sent] s t)) ∧
  (∀ (s : State) (id : Nat) (x : Atomic) (f : Forward) (pos : List Nat) (l : List (List Byte)),
    s.up = true ∧ s.leg.atomics.find? (fun x => x.id == id) = some x ∧ x.q ≤ s.now ∧ x.part = some (id, pos) ∧ s.forward? id = some f →
    f.parts = [(s.modIndex % 64, pos)] ∧ f.cluster = false ∧ isClient f.source = true →
    l = (pos.zip (x.points.map (s.readPoint x.meta_))).foldl (fun t y => t.set y.1 y.2) f.items ∧ (f.lead ++ l.flatten).length ≤ 1440 →
    Does (.atomicReadInstant id) s (fun t =>
      Replied s t f.source (answerCode f.head (headStatus (l.map (fun it => byteAt it 0))) 0 l.length (f.lead ++ l.flatten)) ∧
      t.leg.atomics.find? (fun x => x.id == id) = none ∧ t.forward? id = none ∧
      OnlyIn [.leg, .net, .sent, .can] s t)) ∧
  (∀ (s : State) (src : Source_) (m : List Byte) (i : Nat) (it : List Byte) (p q v : Nat),
    Served s 0x21 src m i ∧ askItems m 0 = [it] ∧ OwnPoints s m ∧ p = ptLocal (leAt it 0 4) ∧ q = byteAt it 4 ∧ v = leAt it 8 8 →
    s.surveyCheck (s.askOf src m i {}) p q v = ansOk ∧ s.forceOf p = none →
    Does (.surveyWrite src m) s (fun t =>
      t.record p = { value := v % 2 ^ 64, quality := q, age := ageOf s.now, flags := 0, seq := ((s.record p).seq + 1) % 32768, old := false } ∧
      ((∀ x, x ≠ p → t.record x = s.record x) ∧ t.elems = s.elems ∧ Replied s t src (answerMsg m .ok 0 1 (statusItem ansOk))) ∧
      OnlyIn [.freeCtr, .mode, .evr, .sys, .tri, .mer, .wpt, .tsk, .ring, .cen, .red, .wit, .net, .leg, .sur, .dio, .aio, .saf, .can, .crt, .clk, .mem, .pwr, .elems, .sent] s t)) ∧
  (∀ (s : State) (src : Source_) (m : List Byte) (i : Nat),
    Served s 0x21 src m i ∧ OwnPoints s m ∧ (askItems m 0).length ≤ 90 →
    (askItems m 0).any (fun it => (s.surveyCheck (s.askOf src m i {}) (ptLocal (leAt it 0 4)) (byteAt it 4) (leAt it 8 8)).status != .ok) = true →
    Does (.surveyWrite src m) s (fun t =>
      t.sur = s.sur ∧ t.elems = s.elems ∧ t.leg.admitted = s.leg.admitted + 1 ∧
      OnlyIn [.leg, .net, .sent, .can] s t)) ∧
  (∀ (s : State) (n : Nat),
    s.up = true ∧ n ≤ 524288 →
    Does (.surveyAgeSweep n) s (fun t =>
      ((∀ p, (t.record p).value = (s.record p).value ∧ (t.record p).seq = (s.record p).seq ∧ (t.record p).quality = (s.record p).quality ∧ ((s.record p).old = true → (t.record p).old = true))) ∧
      ((∀ p, p < 524288 → Table.find s.sur.image p ≠ none → (p + 524288 - s.sur.sweepNext) % 524288 < n → 8388608 < s.age (s.record p) → (t.record p).old = true)) ∧
      t.sur.sweepNext = (s.sur.sweepNext + n) % 524288 ∧ OnlyIn [.sur] s t))

/-- A part with a good tag is served as its forwarder's and answered to it; a bad tag is dropped, counted and recorded (0xA812). A module's answer completes a request that was forwarded whole; 20 ms without one ends it TIMEOUT. SURVEY_FIND and DIRECTORY are answered by the Datum and refused NO-DATUM where none answers. Heartbeats go out every 100 ms, are kept and acknowledged at the Datum; 500 ms without one marks a module absent (0xA822), 500 ms without acknowledgements loses the Datum (0xA820) until one answers again (0xA821). A due service waits for the triad once, is skipped and counted while busy, and an exception in it calls for rung 2. (R28, R29, R246, R247, R252, R260, R261, R262, R263, 09_legend_and_survey.md Table 09-9) -/
def Obligations.TheCascadeReachesOtherModules : Prop :=
  (∀ (s : State) (idx : Fin 64) (m : List Byte) (dec : Decoded),
    s.up = true ∧ s.tri.cc0.inReset = false ∧ s.leg.udpUp = true ∧ msgReadable m = true ∧ s.partTagOk m = false ∧ byteAt m 17 = idx →
    Does (.forwardedRequestReceived idx m dec) s (fun t =>
      t.leg.viol = satInc 32 s.leg.viol ∧ t.leg.admitted = s.leg.admitted ∧ Records s t 0xA812 [idx] ∧
      OnlyIn [.leg, .evr] s t)) ∧
  (∀ (s : State) (idx : Fin 64) (m : List Byte) (dec : Decoded) (l : List (List Byte)),
    s.up = true ∧ s.tri.cc0.inReset = false ∧ s.leg.udpUp = true ∧ msgReadable m = true ∧ s.partTagOk m = true ∧ byteAt m 17 = idx ∧ msgFault m true = none ∧ msgOp m = 0x10 ∧ msgTarget m ≠ 0xFE →
    s.admits (peerOf idx) none false m = true →
    l = (askItems m 8).map (fun it => readBytes ((s.afterPeer idx m).readItem (eaEntry (leAt it 0 4)) (eaElem (leAt it 0 4)))) ∧ l.flatten.length ≤ 1440 →
    Does (.forwardedRequestReceived idx m dec) s (fun t =>
      Replied s t (peerOf idx) (answerCode m (headStatus (l.map (fun it => byteAt it 0))) 0 l.length l.flatten) ∧
      t.leg.admitted = s.leg.admitted + 1 ∧ t.elems = s.elems ∧
      OnlyIn [.freeCtr, .mode, .evr, .sys, .tri, .mer, .wpt, .tsk, .ring, .cen, .red, .wit, .net, .leg, .sur, .dio, .aio, .saf, .can, .crt, .clk, .mem, .pwr, .elems, .sent] s t)) ∧
  (∀ (s : State) (idx : Fin 64) (m : List Byte) (f : Forward),
    s.up = true ∧ s.tri.cc0.inReset = false ∧ msgReadable m = true ∧ bitOf (msgFlags m) 0 = true →
    s.forward? (msgReqId m) = some f ∧ f.whole = true ∧ f.parts = [(idx.val, [])] ∧ msgOp f.head = msgOp m →
    Does (.forwardedAnswerReceived idx m) s (fun t =>
      Replied s t f.source (answerCode f.head (byteAt m 16) (leAt m 18 2) (msgCount m) (msgPayload m)) ∧ t.forward? (msgReqId m) = none ∧
      OnlyIn [.leg, .net, .sent, .can] s t)) ∧
  (∀ (s : State) (id : Nat) (f : Forward),
    s.up = true ∧ s.forward? id = some f ∧ f.whole = true ∧ f.q = none ∧ f.at_ + 8000000 ≤ s.mer.raw →
    Does (.forwardTimeout id) s (fun t =>
      Replied s t f.source (answerMsg f.head .timeout 0 0 (leBytes 4 0)) ∧ t.forward? id = none ∧
      OnlyIn [.leg, .net, .sent, .can] s t)) ∧
  (∀ (s : State) (src : Source_) (m : List Byte) (i x : Nat),
    Served s 0x22 src m i ∧ s.isDatum = true ∧ (askItems m 0).length = 1 ∧ leAt (item0 m) 0 8 ≠ 0 ∧ s.hashHolders (leAt (item0 m) 0 8) = [x] →
    Does (.surveyFind src m) s (fun t =>
      Replied s t src (answerMsg m .ok 0 1 (leBytes 1 0 ++ leBytes 3 0 ++ leBytes 4 x)) ∧ t.leg.directory = s.leg.directory ∧
      OnlyIn [.freeCtr, .evr, .net, .leg, .can, .sent] s t)) ∧
  (∀ (s : State) (src : Source_) (m : List Byte) (i : Nat),
    Served s 0x22 src m i ∧ s.isDatum = false ∧ s.leg.datum = 0xFF →
    Does (.surveyFind src m) s (fun t =>
      Replied s t src (answerMsg m .noDatum 0 0 (leBytes 4 0)) ∧
      OnlyIn [.evr, .net, .leg, .can, .sent] s t)) ∧
  (∀ (s : State) (src : Source_) (m : List Byte) (i : Nat),
    Served s 0x23 src m i ∧ s.isDatum = true ∧ byteAt (item0 m) 0 < 64 →
    Does (.directory src m) s (fun t =>
      Replied s t src (answerMsg m .ok 0 (min 45 (64 - byteAt (item0 m) 0)) ((upto (min 45 (64 - byteAt (item0 m) 0))).flatMap (fun k => (s.dirRec (byteAt (item0 m) 0 + k)).bytes))) ∧
      t.leg.directory = s.leg.directory ∧
      OnlyIn [.freeCtr, .evr, .net, .leg, .can, .sent] s t)) ∧
  (∀ (s : State),
    s.up = true ∧ s.tri.cc0.inReset = false ∧ s.isDatum = false ∧ s.datumName ≠ 0xFF ∧ s.leg.lastBeat + 40000000 ≤ s.mer.raw →
    Does (.directoryHeartbeatSend) s (fun t =>
      t.leg = { s.leg with lastBeat := s.mer.raw } ∧ t.sent = .heartbeat s.beatTo s.ownDirectory.fields :: s.sent ∧
      OnlyIn [.leg, .net, .sent] s t)) ∧
  (∀ (s : State) (idx : Fin 64) (b : Beat),
    s.up = true ∧ s.tri.cc0.inReset = false ∧ s.isDatum = true →
    Does (.directoryHeartbeatReceived idx b) s (fun t =>
      Table.get t.leg.directory {} idx = s.beatRec b ∧ t.sent = .heartbeatAck idx :: s.sent ∧
      ((∀ k, k ≠ idx.val → Table.get t.leg.directory {} k = Table.get s.leg.directory {} k) ∧ OnlyIn [.leg, .net, .sent] s t))) ∧
  (∀ (s : State) (idx : Fin 64),
    s.up = true ∧ s.isDatum = true ∧ idx.val ≠ s.modIndex →
    (Table.get s.leg.directory {} idx).state = 1 ∧ (Table.get s.leg.directory {} idx).seenAt + 200000000 ≤ s.mer.raw →
    Does (.directoryModuleAbsent idx) s (fun t =>
      Table.get t.leg.directory {} idx = { Table.get s.leg.directory {} idx with state := 2 } ∧ Records s t 0xA822 [idx] ∧
      OnlyIn [.leg, .evr] s t)) ∧
  (∀ (s : State) (idx : Fin 64),
    s.up = true ∧ s.tri.cc0.inReset = false →
    Does (.heartbeatAckReceived idx) s (fun t =>
      (t.leg = { s.leg with datum := idx, datumAck := s.mer.raw, datumLost := false } ∧ (s.leg.datumLost = true → Records s t 0xA821 [idx])) ∧
      OnlyIn [.leg, .evr] s t)) ∧
  (∀ (s : State),
    s.up = true ∧ s.isDatum = false ∧ s.datumName ≠ 0xFF ∧ s.leg.datumLost = false ∧ s.leg.datumAck + 200000000 ≤ s.mer.raw →
    Does (.datumLost) s (fun t =>
      t.leg = { s.leg with datum := 0xFF, datumLost := true } ∧ Records s t 0xA820 [] ∧
      OnlyIn [.leg, .evr] s t)) ∧
  (∀ (s : State) (v : Fin 256) (x : Service),
    s.up = true ∧ s.tri.dead = false ∧ s.el (0xE0000 + 0x100 * v) 0 0 ≠ 0 ∧ s.elB (0xE0000 + 0x100 * v) 1 false = true →
    x = Table.get s.leg.services {} v ∧ x.state < 2 ∧ x.lastAt + s.el (0xE0000 + 0x100 * v) 2 1000 * 400 ≤ s.mer.raw →
    Does (.serviceActivation v false) s (fun t =>
      (if s.serviceBusy v then Table.get t.leg.services {} v = { x with skipped := satInc 32 x.skipped } else Table.get t.leg.services {} v = { x with state := 1, lastAt := s.mer.raw } ∧ t.serviceBusy v = true) ∧
      ((∀ k, k ≠ v.val → Table.get t.leg.services {} k = Table.get s.leg.services {} k) ∧ OnlyIn [.leg, .tri] s t))) ∧
  (∀ (s : State) (v : Fin 256),
    s.up = true ∧ s.tri.dead = false ∧ s.el (0xE0000 + 0x100 * v) 0 0 ≠ 0 ∧ s.elB (0xE0000 + 0x100 * v) 1 false = true →
    (Table.get s.leg.services {} v).state < 2 ∧ s.serviceBusy v = true →
    Does (.serviceActivation v true) s (fun t =>
      (Table.get t.leg.services {} v).state = 2 ∧ Records s t 0xE001 [v] ∧
      OnlyIn [.mode, .evr, .tri, .leg] s t))

/-- A supply state is taken after 1 ms and its event recorded. A raw edge of an input is counted as CNT_MODE says, without debounce, and one that reverts is a rejected pulse, the fourth in a row setting CHATTER. A level held for D is the debounced state with the edge's instant, and gives one change-of-state record where COS_EN is set and no CHATTER stands. CHATTER and OVERRANGE end when their quiet time has passed; a counter clear and OPEN-WIRE and STUCK-ACTIVE act as their rules say. A lost link turns off the group's link and calls for rung 2. (R267, R268, R271, R272, R273, R274, R275, R276, 10_digital_field_io.md Table 10-2, Table 10-4) -/
def Obligations.InputsAreFilteredCountedAndWatched : Prop :=
  (∀ (s : State) (g : Fin 4) (mv : Nat),
    s.up = true ∧ mv < 65536 ∧ (s.dioGrp g).low = false ∧ (s.dioGrp g).missing = false ∧ 18000 ≤ mv →
    Does (.groupSupplyMeasure g mv) s (fun t =>
      (t.dioGrp g = { s.dioGrp g with mv := mv, lowAt := none, missAt := none } ∧ (∀ k, k ≠ g.val → t.dioGrp k = s.dioGrp k)) ∧
      OnlyIn [.dio] s t)) ∧
  (∀ (s : State) (g : Fin 4) (mv a : Nat),
    s.up = true ∧ 9000 ≤ mv ∧ (s.dioGrp g).low = false ∧ (s.dioGrp g).missing = false ∧ mv < 18000 →
    (s.dioGrp g).lowAt = some a ∧ a + 400000 ≤ s.mer.raw →
    Does (.groupSupplyMeasure g mv) s (fun t =>
      ((t.dioGrp g).low = true ∧ (t.dioGrp g).mv = mv ∧ (t.dioGrp g).missing = false ∧ Records s t 0x600D [g, mv] ∧ (∀ k, k ≠ g.val → t.dioGrp k = s.dioGrp k)) ∧
      OnlyIn [.mode, .evr, .tsk, .sur, .dio, .mem] s t)) ∧
  (∀ (s : State) (sec : Fin 6),
    s.up = true ∧ sec.val < 4 →
    Does (.dieLinkLost sec) s (fun t =>
      (t.dioGrp sec).link = false ∧ Records s t 0x6010 [sec] ∧ t.aio = s.aio ∧ t.saf = s.saf ∧
      OnlyIn [.mode, .evr, .tsk, .sur, .dio, .mem] s t)) ∧
  (∀ (s : State) (sec : Fin 6),
    s.up = true ∧ sec.val = 4 →
    Does (.dieLinkLost sec) s (fun t =>
      t.aio.link = false ∧ t.aio.ready = false ∧ Records s t 0x7010 [] ∧ t.dio = s.dio ∧ t.saf = s.saf ∧
      OnlyIn [.mode, .evr, .tsk, .sur, .aio, .mem] s t)) ∧
  (∀ (s : State) (sec : Fin 6),
    s.up = true ∧ sec.val = 5 →
    Does (.dieLinkLost sec) s (fun t =>
      t.saf = { s.saf with link := false } ∧ t.dio = s.dio ∧ t.aio = s.aio ∧
      OnlyIn [.mode, .tsk, .sur, .saf, .mem] s t)) ∧
  (∀ (s : State) (sec : Fin 6),
    sec.val < 4 →
    Does (.sectionRefreshLoss sec) s (fun t =>
      ((∀ k, k < 8 → s.dioMode (8 * sec + k) = 2 ∨ s.dioMode (8 * sec + k) = 4 → (t.dioCh (8 * sec + k)).cmd = (!s.paralleled (.dio (8 * sec + k)) && bitOf (s.dioCfg (8 * sec + k)) 12))) ∧
      t.aio = s.aio ∧ t.saf = s.saf ∧
      OnlyIn [.mode, .evr, .tsk, .sur, .dio, .mem] s t)) ∧
  (∀ (s : State) (sec : Fin 6),
    sec.val = 4 →
    Does (.sectionRefreshLoss sec) s (fun t =>
      t.dio = s.dio ∧ t.saf = s.saf ∧ t.mode = s.mode ∧
      OnlyIn [.aio] s t)) ∧
  (∀ (s : State) (sec : Fin 6),
    sec.val = 5 →
    Does (.sectionRefreshLoss sec) s (fun t =>
      ((∀ p, p < 4 → t.safPair p = { s.safPair p with highClosed := false, lowClosed := false, permit := false, ma := 0 })) ∧
      OnlyIn [.saf] s t)) ∧
  (∀ (s : State) (ch : Fin 32) (level : Bool),
    s.up = true ∧ s.dioMode ch = 1 ∧ (level != bitOf (s.dioCfg ch) 7) ≠ (s.dioCh ch).raw →
    field (s.dioCfg ch) 4 3 = 0 ∧ (level != bitOf (s.dioCfg ch) 7) ≠ (s.dioCh ch).state →
    Does (.rawInputEdge ch level) s (fun t =>
      t.dioCh ch = { s.dioCh ch with raw := !(s.dioCh ch).raw, edgeAt := some s.mer.raw } ∧
      ((∀ k, k ≠ ch.val → t.dioCh k = s.dioCh k) ∧ OnlyIn [.dio] s t))) ∧
  (∀ (s : State) (ch : Fin 32) (level : Bool),
    s.up = true ∧ s.dioMode ch = 1 ∧ (level != bitOf (s.dioCfg ch) 7) ≠ (s.dioCh ch).raw →
    (level != bitOf (s.dioCfg ch) 7) = (s.dioCh ch).state ∧ (s.dioCh ch).rejectRun = 3 ∧ (s.dioCh ch).conds.contains 9 = false →
    Does (.rawInputEdge ch level) s (fun t =>
      (t.dioCh ch).raw = (!(s.dioCh ch).raw) ∧ (t.dioCh ch).rejected = satInc 16 (s.dioCh ch).rejected ∧ (t.dioCh ch).conds.contains 9 = true ∧ (t.dioCh ch).state = (s.dioCh ch).state ∧
      (Records s t 0x600A [ch] ∧ (∀ k, k ≠ ch.val → t.dioCh k = s.dioCh k)) ∧
      OnlyIn [.mode, .evr, .tsk, .sur, .dio, .mem] s t)) ∧
  (∀ (s : State) (ch : Fin 32) (level : Bool),
    s.up = true ∧ s.dioMode ch = 1 ∧ (level != bitOf (s.dioCfg ch) 7) ≠ (s.dioCh ch).raw →
    Does (.rawInputEdge ch level) s (fun t =>
      ((t.dioCh ch).counter = (if field (s.dioCfg ch) 4 3 = 3 ∨ (field (s.dioCfg ch) 4 3 = 1 ∧ (s.dioCh ch).raw = false) ∨ (field (s.dioCfg ch) 4 3 = 2 ∧ (s.dioCh ch).raw = true) then ((s.dioCh ch).counter + 1) % 2 ^ 32 else (s.dioCh ch).counter)) ∧
      ((∀ a, (s.dioCh ch).edgeAt = some a → s.mer.raw < a + 400 → field (s.dioCfg ch) 4 3 ≠ 0 → (t.dioCh ch).conds.contains 14 = true)) ∧
      OnlyIn [.mode, .evr, .tsk, .sur, .dio, .mem] s t)) ∧
  (∀ (s : State) (ch : Fin 32) (level : Bool),
    s.up = true ∧ (s.dioMode ch ≠ 1 ∨ (level != bitOf (s.dioCfg ch) 7) = (s.dioCh ch).raw) →
    Does (.rawInputEdge ch level) s (fun t =>
      t = s)) ∧
  (∀ (s : State) (ch : Fin 32) (a : Nat),
    s.up = true ∧ s.dioMode ch = 1 ∧ (s.dioCh ch).raw ≠ (s.dioCh ch).state ∧ (s.dioCh ch).edgeAt = some a ∧ a + 400 * s.dioDeb ch ≤ s.mer.raw →
    bitOf (s.dioCfg ch) 5 = false ∧ (s.dioCh ch).conds.contains 10 = false →
    Does (.debounceAccept ch) s (fun t =>
      t.dioCh ch = { s.dioCh ch with state := (s.dioCh ch).raw, tChange := s.now - s.dioDeb ch * 1000, rejectRun := 0, onSince := if (s.dioCh ch).raw then s.mer.raw else (s.dioCh ch).onSince } ∧
      ((∀ k, k ≠ ch.val → t.dioCh k = s.dioCh k) ∧ OnlyIn [.dio] s t))) ∧
  (∀ (s : State) (ch : Fin 32) (a : Nat),
    s.up = true ∧ s.dioMode ch = 1 ∧ (s.dioCh ch).raw ≠ (s.dioCh ch).state ∧ (s.dioCh ch).edgeAt = some a ∧ a + 400 * s.dioDeb ch ≤ s.mer.raw →
    bitOf (s.dioCfg ch) 5 = true ∧ (s.dioCh ch).conds.contains 9 = false ∧ (s.dioCh ch).conds.contains 10 = false ∧ (s.queue (s.el 0x60010 0 0)).fill < (s.queue (s.el 0x60010 0 0)).credit ∧ (s.queue (s.el 0x60010 0 0)).fill < (s.queue (s.el 0x60010 0 0)).depth →
    Does (.debounceAccept ch) s (fun t =>
      (t.queue (s.el 0x60010 0 0)).items = (s.queue (s.el 0x60010 0 0)).items ++ [leBytes 8 (i64 (s.now - s.dioDeb ch * 1000)) ++ leBytes 1 ch ++ leBytes 1 (s.dioCh ch).raw.toNat ++ leBytes 1 0 ++ leBytes 1 s.mq ++ leBytes 4 (((s.dioCh ch).cosSeq + 1) % 2 ^ 32)] ∧
      (t.dioCh ch).state = (s.dioCh ch).raw ∧ (t.dioCh ch).cosSeq = ((s.dioCh ch).cosSeq + 1) % 2 ^ 32 ∧ (t.dioCh ch).cosDropped = (s.dioCh ch).cosDropped ∧ bitOf t.dio.cosPend ch = true ∧
      OnlyIn [.freeCtr, .mode, .evr, .sys, .tri, .mer, .wpt, .tsk, .ring, .cen, .red, .wit, .net, .leg, .sur, .dio, .aio, .saf, .can, .crt, .clk, .mem, .pwr, .elems, .sent] s t)) ∧
  (∀ (s : State) (ch : Fin 32),
    s.up = true ∧ (s.dioCh ch).conds.contains 9 = true ∧ (∀ a, (s.dioCh ch).edgeAt = some a → a + 400 * (16 * s.dioDeb ch) ≤ s.mer.raw) →
    Does (.chatterClear ch) s (fun t =>
      (t.dioCh ch).conds.contains 9 = false ∧ (t.dioCh ch).rejectRun = 0 ∧ (t.dioCh ch).state = (s.dioCh ch).state ∧
      ((bitOf (s.dioCfg ch) 5 = true → (s.dioCh ch).state ≠ (s.dioCh ch).cosLast → (t.dioCh ch).cosSeq = ((s.dioCh ch).cosSeq + 1) % 2 ^ 32)) ∧
      OnlyIn [.freeCtr, .mode, .evr, .sys, .tri, .mer, .wpt, .tsk, .ring, .cen, .red, .wit, .net, .leg, .sur, .dio, .aio, .saf, .can, .crt, .clk, .mem, .pwr, .elems, .sent] s t)) ∧
  (∀ (s : State) (ch : Fin 32),
    s.up = true ∧ (s.dioCh ch).conds.contains 14 = true ∧ (∀ a, (s.dioCh ch).closeAt = some a → a + 4000000 ≤ s.mer.raw) →
    Does (.counterOverrangeClear ch) s (fun t =>
      (t.dioCh ch = { s.dioCh ch with conds := (s.dioCh ch).conds.filter (· != 14) } ∧ (∀ k, k ≠ ch.val → t.dioCh k = s.dioCh k)) ∧
      OnlyIn [.mode, .tsk, .sur, .dio, .mem] s t)) ∧
  (∀ (s : State) (who : Who) (ch : Fin 32),
    Asked s who 2 →
    Does (.counterClear who ch) s (fun t =>
      (t.dioCh ch = { s.dioCh ch with clearPending := true } ∧ Answered t .ok 0 ∧ (∀ k, k ≠ ch.val → t.dioCh k = s.dioCh k)) ∧
      OnlyIn [.dio, .net, .sent] s t)) ∧
  (∀ (s : State) (ch : Fin 32) (o : Bool),
    s.up = true ∧ s.dioMode ch = 1 ∧ bitOf (s.dioCfg ch) 8 = true ∧ (s.dioCh ch).conds.contains 7 = !o →
    Does (.openWire ch o) s (fun t =>
      ((t.dioCh ch).conds.contains 7 = o ∧ (o = true → Records s t 0x6008 [ch]) ∧ (∀ k, k ≠ ch.val → t.dioCh k = s.dioCh k)) ∧
      OnlyIn [.mode, .evr, .tsk, .sur, .dio, .mem] s t)) ∧
  (∀ (s : State) (ch : Fin 32),
    s.up = true ∧ s.dioMode ch = 1 ∧ s.dioMaxact ch ≠ 0 ∧ (s.dioCh ch).state = true ∧ (s.dioCh ch).conds.contains 10 = false ∧ (s.dioCh ch).onSince + 400000 * s.dioMaxact ch ≤ s.mer.raw →
    Does (.stuckActive ch) s (fun t =>
      ((t.dioCh ch).conds.contains 10 = true ∧ Records s t 0x600B [ch] ∧ (t.dioCh ch).state = true ∧ (∀ k, k ≠ ch.val → t.dioCh k = s.dioCh k)) ∧
      OnlyIn [.mode, .evr, .tsk, .sur, .dio, .mem] s t))

/-- A SHORT or OVERLOAD of a driven output, or of either channel of a pair, latches its unit off with its event; 100 ms on, within the retry limits, it is switched on again, and at the limit it stays latched and rung 2 is called for. NO-DRIVE, OPEN-LOAD and SHARE stand on the readback while they last. A high readback while off is WIRED-TOGETHER where R282 finds a candidate, and latches all of them, and EXTERNAL-DRIVE otherwise; on a safety pair it enters SAFE. An unlatch waits for the release. A due pattern step drives the masked MODE 4 channels. (R277, R279, R280, R281, R282, R283, R284, R285, 10_digital_field_io.md Table 10-3) -/
def Obligations.OutputsAreCheckedLatchedAndRetried : Prop :=
  (∀ (s : State) (ch : Fin 32),
    s.up = true ∧ s.dioDrive ch = true →
    Does (.outputShort ch) s (fun t =>
      ((t.dioCh ch).conds.contains 3 = true ∧ (∀ k ∈ s.dioUnit ch, (t.dioCh k).latched = true ∧ (t.dioCh k).rb = false) ∧ t.dioDrive ch = false) ∧
      ((t.dioCh ch).tripAt = some s.mer.raw ∧ Records s t 0x6004 [ch] ∧ (∀ k, k ∉ s.dioUnit ch → t.dioCh k = s.dioCh k)) ∧
      OnlyIn [.mode, .evr, .tsk, .sur, .dio, .mem] s t)) ∧
  (∀ (s : State) (ch : Fin 32),
    s.up = true ∧ s.dioDrive ch = true →
    Does (.outputOverload ch) s (fun t =>
      ((t.dioCh ch).conds.contains 4 = true ∧ (∀ k ∈ s.dioUnit ch, (t.dioCh k).latched = true ∧ (t.dioCh k).rb = false) ∧ t.dioDrive ch = false) ∧
      ((t.dioCh ch).tripAt = some s.mer.raw ∧ Records s t 0x6005 [ch] ∧ (∀ k, k ∉ s.dioUnit ch → t.dioCh k = s.dioCh k)) ∧
      OnlyIn [.mode, .evr, .tsk, .sur, .dio, .mem] s t)) ∧
  (∀ (s : State) (ch : Fin 32) (a : Nat),
    s.up = true ∧ (s.dioCh ch).tripAt = some a ∧ a + 40000000 ≤ s.mer.raw ∧ (s.dioCh ch).latched = true ∧ s.retryFree (grpFn ch) = true →
    Does (.outputRetry ch true) s (fun t =>
      ((∀ k ∈ s.dioUnit ch, (t.dioCh k).latched = false ∧ (t.dioCh k).tripAt = none) ∧ (t.dioCh ch).conds.contains (if (s.dioCh ch).conds.contains 3 then 3 else 4) = false) ∧
      ((t.dioCh ch).tries.head? = some s.mer.raw ∧ (∀ k, k ∉ s.dioUnit ch → t.dioCh k = s.dioCh k)) ∧
      OnlyIn [.mode, .tsk, .sur, .dio, .mem] s t)) ∧
  (∀ (s : State) (ch : Fin 32) (a : Nat),
    s.up = true ∧ (s.dioCh ch).tripAt = some a ∧ a + 40000000 ≤ s.mer.raw ∧ (s.dioCh ch).latched = true ∧ s.retryFree (grpFn ch) = true →
    Does (.outputRetry ch false) s (fun t =>
      (t.dioCh ch).latched = true ∧ (t.dioCh ch).tripAt = some s.mer.raw ∧ (t.dioCh ch).conds = (s.dioCh ch).conds ∧
      (Records s t (if (s.dioCh ch).conds.contains 3 then 0x6004 else 0x6005) [ch] ∧ (∀ k, k ≠ ch.val → t.dioCh k = s.dioCh k)) ∧
      OnlyIn [.mode, .evr, .dio] s t)) ∧
  (∀ (s : State) (ch : Fin 32) (good : Bool) (a : Nat),
    s.up = true ∧ (s.dioCh ch).tripAt = some a ∧ a + 40000000 ≤ s.mer.raw ∧ (s.dioCh ch).latched = true ∧ s.retryFree (grpFn ch) = false →
    Does (.outputRetry ch good) s (fun t =>
      (t.dioCh ch = { s.dioCh ch with tripAt := none } ∧ (∀ k, k ≠ ch.val → t.dioCh k = s.dioCh k)) ∧
      OnlyIn [.mode, .evr, .dio] s t)) ∧
  (∀ (s : State) (ch : Fin 32),
    s.up = true ∧ s.dioDrive ch = true ∧ (s.dioCh ch).conds.contains 5 = false ∧ (s.dioCh ch).conds.contains 3 = false ∧ s.dioSuspended ch = false ∧ s.dioChecked ch = true →
    Does (.noDrive ch true) s (fun t =>
      (t.dioCh ch).conds.contains 5 = true ∧ (t.dioCh ch).rb = false ∧ (t.dioCh ch).cmd = (s.dioCh ch).cmd ∧ t.dioDrive ch = true ∧ Records s t 0x6006 [ch] ∧
      OnlyIn [.mode, .evr, .tsk, .sur, .dio, .mem] s t)) ∧
  (∀ (s : State) (ch : Fin 32),
    s.up = true ∧ (s.dioCh ch).conds.contains 5 = true →
    Does (.noDrive ch false) s (fun t =>
      (t.dioCh ch = { s.dioCh ch with conds := (s.dioCh ch).conds.filter (· != 5), rb := true } ∧ (∀ k, k ≠ ch.val → t.dioCh k = s.dioCh k)) ∧
      OnlyIn [.mode, .tsk, .sur, .dio, .mem] s t)) ∧
  (∀ (s : State) (ch : Fin 32),
    s.up = true ∧ s.dioDrive ch = true ∧ bitOf (s.dioCfg ch) 9 = true ∧ (s.dioCh ch).conds.contains 6 = false ∧ s.dioSuspended ch = false ∧ s.dioChecked ch = true →
    Does (.openLoad ch true) s (fun t =>
      (t.dioCh ch = { s.dioCh ch with conds := (s.dioCh ch).conds ++ [6] } ∧ Records s t 0x6007 [ch] ∧ (∀ k, k ≠ ch.val → t.dioCh k = s.dioCh k)) ∧
      OnlyIn [.mode, .evr, .tsk, .sur, .dio, .mem] s t)) ∧
  (∀ (s : State) (ch : Fin 32),
    s.up = true ∧ s.dioMode ch = 3 ∧ s.dioDrive (s.dioBase ch) = true ∧ (s.dioCh (s.dioBase ch)).conds.contains 8 = false ∧ s.dioSuspended (s.dioBase ch) = false ∧ s.dioChecked (s.dioBase ch) = true →
    Does (.share ch true) s (fun t =>
      t.dioCh (s.dioBase ch) = { s.dioCh (s.dioBase ch) with conds := (s.dioCh (s.dioBase ch)).conds ++ [8] } ∧ Records s t 0x6009 [s.dioBase ch] ∧
      OnlyIn [.mode, .evr, .tsk, .sur, .dio, .mem] s t)) ∧
  (∀ (s : State) (n : Fin 32) (onset : MTime),
    s.up = true ∧ s.dioIsOut n = true ∧ s.dioDrive n = false ∧ s.dioChecked n = true ∧ (s.dioCh n).conds.contains 1 = false ∧ (s.dioCh n).conds.contains 2 = false →
    s.wiredCandidates n onset = [] →
    Does (.readbackHighWhileOff false n onset) s (fun t =>
      (t.dioCh n = { s.dioCh n with conds := (s.dioCh n).conds ++ [1], rb := true } ∧ Records s t 0x6002 [n] ∧ (∀ k, k ≠ n.val → t.dioCh k = s.dioCh k)) ∧
      OnlyIn [.mode, .evr, .tsk, .sur, .dio, .mem] s t)) ∧
  (∀ (s : State) (n : Fin 32) (onset : MTime),
    s.up = true ∧ s.dioIsOut n = true ∧ s.dioDrive n = false ∧ s.dioChecked n = true ∧ (s.dioCh n).conds.contains 1 = false ∧ (s.dioCh n).conds.contains 2 = false →
    s.wiredCandidates n onset ≠ [] →
    Does (.readbackHighWhileOff false n onset) s (fun t =>
      ((∀ k ∈ n.val :: s.wiredCandidates n onset, (t.dioCh k).latched = true ∧ (t.dioCh k).conds.contains 2 = true)) ∧
      ((∀ k ∈ s.wiredCandidates n onset, t.dioDrive k = false) ∧ Records s t 0x6003 [n, ((s.wiredCandidates n onset).map (fun k => 2 ^ k)).foldl (· + ·) 0]) ∧
      OnlyIn [.mode, .evr, .tsk, .sur, .dio, .mem] s t)) ∧
  (∀ (s : State) (n : Fin 32) (onset : MTime),
    s.up = true ∧ n.val < 4 ∧ (s.safPair n).highClosed = false ∧ (s.safPair n).lowClosed = false ∧ (s.safPair n).extDrive = false ∧ s.pairMember = false ∧ s.safActive = true →
    s.mode.mode = .run ∨ s.mode.mode = .hold →
    Does (.readbackHighWhileOff true n onset) s (fun t =>
      t.mode.mode = .safe ∧ (t.safPair n).extDrive = true ∧ Records s t 0x8033 [n] ∧
      OnlyIn [.mode, .evr, .tri, .tsk, .ring, .cen, .red, .net, .sur, .dio, .aio, .saf, .mem, .sent] s t)) ∧
  (∀ (s : State) (ch : Fin 32) (a : Nat),
    s.up = true ∧ (s.dioCh ch).conds.contains 2 = true ∧ (s.dioCh ch).conds.contains 1 = false ∧ (s.dioCh ch).changedRaw = some a ∧ a + 80000 ≤ s.mer.raw →
    Does (.wiredTogetherRecheck ch true) s (fun t =>
      (t.dioCh ch = { s.dioCh ch with conds := (s.dioCh ch).conds ++ [1], rb := true } ∧ Records s t 0x6002 [ch] ∧ (∀ k, k ≠ ch.val → t.dioCh k = s.dioCh k)) ∧
      OnlyIn [.mode, .evr, .tsk, .sur, .dio, .mem] s t)) ∧
  (∀ (s : State) (ch : Fin 32) (a : Nat),
    s.up = true ∧ (s.dioCh ch).conds.contains 2 = true ∧ (s.dioCh ch).changedRaw = some a ∧ a + 80000 ≤ s.mer.raw →
    Does (.wiredTogetherRecheck ch false) s (fun t =>
      (t.dioCh ch = { s.dioCh ch with rb := false } ∧ (∀ k, k ≠ ch.val → t.dioCh k = s.dioCh k)) ∧
      OnlyIn [.mode, .tsk, .sur, .dio, .mem] s t)) ∧
  (∀ (s : State) (n : Fin 32),
    s.up = true ∧ (s.dioCh n).conds.contains 1 = true ∧ s.dioDrive n = false →
    Does (.externalDriveClear false n) s (fun t =>
      (t.dioCh n = { s.dioCh n with conds := (s.dioCh n).conds.filter (· != 1), rb := false } ∧ (∀ k, k ≠ n.val → t.dioCh k = s.dioCh k)) ∧
      OnlyIn [.mode, .tsk, .sur, .dio, .mem] s t)) ∧
  (∀ (s : State) (n : Fin 32),
    s.up = true ∧ n.val < 4 ∧ (s.safPair n).extDrive = true →
    Does (.externalDriveClear true n) s (fun t =>
      (t.safPair n).extDrive = false ∧ t.dio.chans = s.dio.chans ∧
      OnlyIn [.mode, .evr, .tsk, .sur, .saf, .mem] s t)) ∧
  (∀ (s : State) (who : Who) (ch : Fin 32),
    Asked s who 2 →
    Does (.channelUnlatch who ch) s (fun t =>
      (t.dioCh ch = { s.dioCh ch with unlatch := true } ∧ Answered t .ok 0 ∧ (∀ k, k ≠ ch.val → t.dioCh k = s.dioCh k)) ∧
      OnlyIn [.dio, .net, .sent] s t)) ∧
  (∀ (s : State) (agent : Agent) (mask : Nat),
    s.up = true ∧ mask < 2 ^ 32 →
    Does (.dioUnlatch agent mask) s (fun t =>
      ((∀ n, n < 32 → t.dioCh n = { s.dioCh n with unlatch := (s.dioCh n).unlatch || bitOf mask n })) ∧
      OnlyIn [.dio] s t)) ∧
  (∀ (s : State) (r : PatternRun),
    s.up = true ∧ s.dio.runs = [r] ∧ r.next + 1 = s.patternCount r.table ∧ r.at_ + (s.patternStep r.table r.next).1 * 1000 ≤ s.now →
    Does (.patternStep) s (fun t =>
      (t.dio.runs = [] ∧ (∀ n, n < 32 → (t.dioCh n).cmd = (if bitOf r.mask n && s.dioMode n == 4 then bitOf (s.patternStep r.table r.next).2 n else (s.dioCh n).cmd))) ∧
      OnlyIn [.mode, .evr, .tsk, .sur, .dio, .mem] s t)) ∧
  (∀ (s : State),
    s.up = true ∧ s.firstDue s.dio.runs = none →
    Does (.patternStep) s (fun t =>
      t = s))

/-- A conversion gives the trimmed current, its engineering value and the window's AGE; the detail stays in a band widened by 0.02 mA and is that of a band the current lies in by more. Above 30 mA the limiter opens, reads 0 mA with OVERCURRENT, is tested every 1 s and closes below 25 mA. An output's headroom and readback are written; COMPLIANCE sets below 0.3 V with 0.05 mA missing and clears after 10 ms within 0.05 mA, LOW-HEADROOM follows LOW_HEAD, and EXTERNAL-SOURCE, OPEN-LOOP and MISMATCH stand after their times and clear 20 ms after. A paralleled output of a member without the claim, or one that settles after taking it, is not checked. (R291, R292, R293, R294, R298, R300, R301, 11_analogue_loops_and_hart.md Table 11-1, Table 11-2) -/
def Obligations.AnalogueChannelsMeasureDriveAndCheck : Prop :=
  (∀ (s : State) (ch : Fin 8) (code d : Nat) (x : Nat × PointMeta),
    s.up = true ∧ bitOf (s.aiCfg ch) 0 = true ∧ code < 262144 ∧ (s.aiCh ch).limiterOpen = false ∧ 20000 ≤ s.now % 1000000 →
    OnePoint s 1 (256 + ch.val) x ∧ s.aio.link = true ∧ ((s.aiCh ch).detail = d ∧ inBand 2 d (inputMa s ch code) = true ∨ inBand (-2) d (inputMa s ch code) = true) →
    Does (.aiConversionResult ch code) s (fun t =>
      (t.aiCh ch = { s.aiCh ch with code := code, current := inputMa s ch code, detail := d } ∧ (∀ k, k ≠ ch.val → t.aiCh k = s.aiCh k)) ∧
      (t.record x.1).value = engValue (s.aiLo ch) (s.aiHi ch) (inputMa s ch code) ∧ (t.record x.1).age = ageOf (s.now - s.now % 1000000 - 1000000) ∧
      ((t.record x.1).quality = (if d = 0 then qGood else if d = 1 ∨ d = 2 then qUncertain else qBad) + 8 * d ∧ (t.record x.1).seq = ((s.record x.1).seq + 1) % 32768) ∧
      (((3 ≤ d ∧ d ≤ 5 ∧ (s.aiCh ch).detail ≠ d) → Records s t 0x7001 [ch, d]) ∧ (d = 0 → (s.aiCh ch).detail ≠ 0 → Records s t 0x7002 [ch])) ∧
      OnlyIn [.mode, .evr, .tsk, .sur, .aio, .mem] s t)) ∧
  (∀ (s : State) (ch : Fin 8) (code : Nat) (x : Nat × PointMeta),
    s.up = true ∧ bitOf (s.aiCfg ch) 0 = true ∧ (s.aiCh ch).limiterOpen = true ∧ 20000 ≤ s.now % 1000000 →
    OnePoint s 1 (256 + ch.val) x ∧ s.aio.link = true ∧ (s.aiCh ch).detail = 6 →
    Does (.aiConversionResult ch code) s (fun t =>
      t.aiCh ch = { s.aiCh ch with code := 0, current := F64.zero } ∧ (t.record x.1).value = engValue (s.aiLo ch) (s.aiHi ch) F64.zero ∧
      (t.record x.1).quality = qBad + 48 ∧ (t.record x.1).age = ageOf (s.now - s.now % 1000000 - 1000000) ∧
      OnlyIn [.mode, .tsk, .sur, .aio, .mem] s t)) ∧
  (∀ (s : State) (ch : Fin 8) (code : Nat),
    s.up = true ∧ (bitOf (s.aiCfg ch) 0 = false ∨ s.now % 1000000 < 20000) →
    Does (.aiConversionResult ch code) s (fun t =>
      t = s)) ∧
  (∀ (s : State) (ch : Fin 8) (x : Nat × PointMeta),
    s.up = true ∧ bitOf (s.aiCfg ch) 0 = true ∧ (s.aiCh ch).limiterOpen = false ∧ OnePoint s 1 (256 + ch.val) x ∧ s.aio.link = true →
    Does (.aiOvercurrent ch) s (fun t =>
      (t.aiCh ch = { s.aiCh ch with limiterOpen := true, openAt := s.mer.raw, detail := 6, current := F64.zero, code := 0 } ∧ (∀ k, k ≠ ch.val → t.aiCh k = s.aiCh k)) ∧
      (t.record x.1).value = engValue (s.aiLo ch) (s.aiHi ch) F64.zero ∧ (t.record x.1).quality = qBad + 48 ∧ Records s t 0x7003 [ch] ∧
      OnlyIn [.mode, .evr, .tsk, .sur, .aio, .mem] s t)) ∧
  (∀ (s : State) (ch : Fin 8) (code : Nat),
    s.up = true ∧ code < 262144 ∧ (s.aiCh ch).limiterOpen = true ∧ (s.aiCh ch).openAt + 400000000 ≤ s.mer.raw ∧ F64.lt (inputMa s ch code) (F64.ofInt 25) = true →
    Does (.aiLimiterRetest ch code) s (fun t =>
      (t.aiCh ch).limiterOpen = false ∧ (t.aiCh ch).code = code ∧ (t.aiCh ch).current = inputMa s ch code ∧ inBand 0 (t.aiCh ch).detail (inputMa s ch code) = true ∧
      ((∀ k, k ≠ ch.val → t.aiCh k = s.aiCh k)) ∧
      OnlyIn [.evr, .aio] s t)) ∧
  (∀ (s : State) (ch : Fin 8) (code : Nat),
    s.up = true ∧ code < 262144 ∧ (s.aiCh ch).limiterOpen = true ∧ (s.aiCh ch).openAt + 400000000 ≤ s.mer.raw ∧ F64.lt (inputMa s ch code) (F64.ofInt 25) = false →
    Does (.aiLimiterRetest ch code) s (fun t =>
      (t.aiCh ch = { s.aiCh ch with openAt := s.mer.raw } ∧ (∀ k, k ≠ ch.val → t.aiCh k = s.aiCh k) ∧ OnlyIn [.aio] s t))) ∧
  (∀ (s : State) (ch : Fin 8) (mv : Nat),
    s.up = true ∧ bitOf (s.aoCfg ch) 0 = true ∧ s.aoSuspended ch = false ∧ mv < 65536 ∧ (s.aoCh ch).conds.contains 1 = false →
    Does (.aoComplianceMonitor ch mv) s (fun t =>
      (t.aoCh ch).head = mv ∧ (t.aoCh ch).lowHead = F64.lt (F64.ofInt mv) (F64.mul (s.elF (0x70300 + ch) 7 (F64.ofInt 2)) (F64.ofInt 1000)) ∧
      (t.aoCh ch).conds.contains 1 = (decide (mv < 300) && F64.le (s.aoCh ch).rb (F64.sub (s.aoCh ch).iCmd (f64 5 100))) ∧
      ((t.aoCh ch).rb = (s.aoCh ch).rb ∧ (t.aoCh ch).iCmd = (s.aoCh ch).iCmd ∧ (t.aoCh ch).dac = (s.aoCh ch).dac ∧ (∀ k, k ≠ ch.val → t.aoCh k = s.aoCh k)) ∧
      (((t.aoCh ch).conds.contains 1 = true → Records s t 0x7013 [ch, mv, 0]) ∧ ((t.aoCh ch).lowHead = true → (s.aoCh ch).lowHead = false → Records s t 0x7013 [ch, mv, 1])) ∧
      OnlyIn [.mode, .evr, .tsk, .sur, .aio, .mem] s t)) ∧
  (∀ (s : State) (ch : Fin 8) (mv a : Nat),
    s.up = true ∧ bitOf (s.aoCfg ch) 0 = true ∧ s.aoSuspended ch = false ∧ (s.aoCh ch).conds.contains 1 = true →
    F64.le (F64.abs (F64.sub (s.aoCh ch).rb (s.aoCh ch).iCmd)) (f64 5 100) = true ∧ Table.find (s.aoCh ch).clearSince 1 = some a →
    Does (.aoComplianceMonitor ch mv) s (fun t =>
      ((t.aoCh ch).conds.contains 1 = decide (s.mer.raw < a + 4000000) ∧ (∀ k, k ≠ ch.val → t.aoCh k = s.aoCh k)) ∧
      OnlyIn [.mode, .evr, .tsk, .sur, .aio, .mem] s t)) ∧
  (∀ (s : State) (ch : Fin 8) (mv : Nat),
    s.up = true ∧ (bitOf (s.aoCfg ch) 0 = false ∨ s.aoSuspended ch = true) →
    Does (.aoComplianceMonitor ch mv) s (fun t =>
      t = s)) ∧
  (∀ (s : State) (ch : Fin 8) (code : Nat) (x : Nat × PointMeta),
    s.up = true ∧ bitOf (s.aoCfg ch) 0 = true ∧ code < 65536 ∧ s.aoIdleParallel ch = true ∧ s.aio.link = true ∧ OnePoint s 1 (512 + ch.val) x →
    Does (.aoReadbackCheck ch code) s (fun t =>
      (t.aoCh ch = { s.aoCh ch with rb := f64 (24 * code) 65536, rbCode := code } ∧ (∀ k, k ≠ ch.val → t.aoCh k = s.aoCh k)) ∧
      (t.record x.1).value = engValue (s.aoLo ch) (s.aoHi ch) (f64 (24 * code) 65536) ∧ (t.record x.1).quality = qGood ∧
      OnlyIn [.mode, .tsk, .sur, .aio, .mem] s t)) ∧
  (∀ (s : State) (ch : Fin 8) (code : Nat) (x : Nat × PointMeta),
    s.up = true ∧ bitOf (s.aoCfg ch) 0 = true ∧ code < 65536 ∧ s.aoSuspended ch = false ∧ s.aio.link = true ∧ OnePoint s 1 (512 + ch.val) x ∧ (s.aoCh ch).conds = [] →
    F64.lt (F64.add (s.aoCh ch).iCmd (f64 5 10)) (f64 (24 * code) 65536) = false ∧ F64.le (F64.abs (F64.sub (f64 (24 * code) 65536) (s.aoCh ch).resp)) (f64 2 10) = true →
    (s.aoCh ch).head ≠ 0 ∨ F64.lt (f64 (24 * code) 65536) (f64 5 10) = false →
    Does (.aoReadbackCheck ch code) s (fun t =>
      ((t.aoCh ch).rb = f64 (24 * code) 65536 ∧ (t.aoCh ch).rbCode = code ∧ (t.aoCh ch).conds = [] ∧ (t.aoCh ch).dac = (s.aoCh ch).dac ∧ (∀ k, k ≠ ch.val → t.aoCh k = s.aoCh k)) ∧
      (t.record x.1).value = engValue (s.aoLo ch) (s.aoHi ch) (f64 (24 * code) 65536) ∧ (t.record x.1).quality = qGood ∧
      OnlyIn [.mode, .evr, .tsk, .sur, .aio, .mem] s t)) ∧
  (∀ (s : State) (ch : Fin 8) (code a : Nat),
    s.up = true ∧ bitOf (s.aoCfg ch) 0 = true ∧ code < 65536 ∧ s.aoSuspended ch = false ∧ s.aio.link = true ∧ (s.aoCh ch).conds.contains 4 = false →
    F64.lt (F64.add (s.aoCh ch).iCmd (f64 5 10)) (f64 (24 * code) 65536) = true ∧ Table.find (s.aoCh ch).since 4 = some a →
    Does (.aoReadbackCheck ch code) s (fun t =>
      ((t.aoCh ch).conds.contains 4 = decide (a + 800000 ≤ s.mer.raw) ∧ (a + 800000 ≤ s.mer.raw → (t.aoCh ch).detail = 4) ∧ (∀ k, k ≠ ch.val → t.aoCh k = s.aoCh k)) ∧
      ((a + 800000 ≤ s.mer.raw → Records s t 0x7011 [ch])) ∧
      OnlyIn [.mode, .evr, .tsk, .sur, .aio, .mem] s t)) ∧
  (∀ (s : State) (ch : Fin 8) (code a : Nat),
    s.up = true ∧ bitOf (s.aoCfg ch) 0 = true ∧ code < 65536 ∧ s.aoSuspended ch = false ∧ s.aio.link = true ∧ (s.aoCh ch).conds = [] →
    F64.le F64.one (s.aoCh ch).iCmd = true ∧ F64.lt (f64 (24 * code) 65536) (f64 5 10) = true ∧ (s.aoCh ch).head = 0 ∧ Table.find (s.aoCh ch).since 2 = some a →
    Does (.aoReadbackCheck ch code) s (fun t =>
      ((t.aoCh ch).conds.contains 2 = decide (a + 800000 ≤ s.mer.raw) ∧ (t.aoCh ch).dac = (s.aoCh ch).dac ∧ (∀ k, k ≠ ch.val → t.aoCh k = s.aoCh k)) ∧
      ((a + 800000 ≤ s.mer.raw → Records s t 0x7012 [ch] ∧ (t.aoCh ch).detail = 2)) ∧
      OnlyIn [.mode, .evr, .tsk, .sur, .aio, .mem] s t)) ∧
  (∀ (s : State) (ch : Fin 8) (code a : Nat),
    s.up = true ∧ bitOf (s.aoCfg ch) 0 = true ∧ code < 65536 ∧ s.aoSuspended ch = false ∧ s.aio.link = true ∧ (s.aoCh ch).conds = [] ∧ (s.aoCh ch).head ≠ 0 →
    F64.lt (F64.add (s.aoCh ch).iCmd (f64 5 10)) (f64 (24 * code) 65536) = false ∧ F64.lt (f64 2 10) (F64.abs (F64.sub (f64 (24 * code) 65536) (s.aoCh ch).resp)) = true →
    (s.aoCh ch).settleUntil ≤ s.mer.raw ∧ Table.find (s.aoCh ch).since 3 = some a →
    Does (.aoReadbackCheck ch code) s (fun t =>
      ((t.aoCh ch).conds.contains 3 = decide (a + 8000000 ≤ s.mer.raw) ∧ (t.aoCh ch).dac = (s.aoCh ch).dac ∧ (∀ k, k ≠ ch.val → t.aoCh k = s.aoCh k)) ∧
      ((a + 8000000 ≤ s.mer.raw → (s.openFault? (0x0310 + ch) 0x7014 ch).isNone = true → (t.openFault? (0x0310 + ch) 0x7014 ch).map (·.rung) = some 2)) ∧
      OnlyIn [.mode, .evr, .tsk, .sur, .aio, .mem] s t)) ∧
  (∀ (s : State) (ch : Fin 8) (code a : Nat),
    s.up = true ∧ bitOf (s.aoCfg ch) 0 = true ∧ code < 65536 ∧ s.aoSuspended ch = false ∧ (s.aoCh ch).conds = [4] ∧ Table.find (s.aoCh ch).clearSince 4 = some a →
    F64.lt (F64.add (s.aoCh ch).iCmd (f64 5 10)) (f64 (24 * code) 65536) = false ∧ (F64.lt (s.aoCh ch).iCmd F64.one = true ∨ (s.aoCh ch).head ≠ 0) →
    Does (.aoReadbackCheck ch code) s (fun t =>
      ((t.aoCh ch).conds.contains 4 = decide (s.mer.raw < a + 8000000) ∧ (t.aoCh ch).dac = (s.aoCh ch).dac ∧ (∀ k, k ≠ ch.val → t.aoCh k = s.aoCh k)) ∧
      OnlyIn [.mode, .evr, .tsk, .sur, .aio, .mem] s t))

/-- A trim is taken in SERVICE at Engineer level within its bounds, with event 0x7020, refused RANGE beyond them and STATE-REFUSED elsewhere; the two points give Z and K by R305, and 120 s without a key abandon a faceplate trim. A master sends command 0 in CONNECT and LOST, 48 on more status, 9 or 3 at HART_PERIOD, a held pass-through ahead of them; an answer connects, refreshes its variables by Table 11-4 and carries a pass-through's response; three unanswered lose the loop at rung 1; a bad frame is a violation; three periods without refresh turn a variable STALE; a second pass-through is BUSY with 1000 ms. (R304, R305, R306, R307, R308, R309, R310, R312, 11_analogue_loops_and_hart.md Table 11-3, Table 11-4) -/
def Obligations.TrimsAndHartMastersFollowTheirRules : Prop :=
  (∀ (s : State) (who : Who) (ch : Fin 16) (z k : F32),
    Asked s who 2 ∧ s.mode.mode = .service ∧ (∀ p ∈ s.aio.plate, p.channel ≠ ch.val) ∧ trimInRange (F32.widen z) (F32.widen k) = true →
    Does (.trimWrite who ch z k) s (fun t =>
      (t.trimZ ch = F32.widen z ∧ t.trimK ch = F32.widen k ∧ (∀ n, n ≠ ch.val → t.trimZ n = s.trimZ n) ∧ (∀ n, n ≠ ch.val → t.trimK n = s.trimK n) ∧ Answered t .ok 0) ∧
      Records s t 0x7020 [ch, (F64.narrow (s.trimZ ch)).toNat, (F64.narrow (F32.widen z)).toNat, (F64.narrow (s.trimK ch)).toNat, (F64.narrow (F32.widen k)).toNat, 0] ∧
      t.aio.ai = s.aio.ai ∧ t.aio.ao = s.aio.ao ∧
      OnlyIn [.evr, .net, .aio, .sent] s t)) ∧
  (∀ (s : State) (who : Who) (ch : Fin 16) (z k : F32),
    Asked s who 2 ∧ s.mode.mode = .service ∧ (∀ p ∈ s.aio.plate, p.channel ≠ ch.val) →
    trimInRange (F32.widen z) (F32.widen k) = false ∨ F64.lt (f64 201 1000) (F64.abs (F32.widen z)) = true ∨ F64.lt (f64 21 1000) (F64.sub (F32.widen k) F64.one) = true ∨ F64.lt (f64 21 1000) (F64.sub F64.one (F32.widen k)) = true →
    Does (.trimWrite who ch z k) s (fun t =>
      Answered t .range 0 ∧ OnlyIn [.net, .sent] s t)) ∧
  (∀ (s : State) (who : Who) (ch : Fin 16) (z k : F32),
    Asked s who 2 ∧ (s.mode.mode ≠ .service ∨ s.aio.plate.map (·.channel) = some ch.val) →
    Does (.trimWrite who ch z k) s (fun t =>
      Answered t .stateRefused s.stateDetail ∧ OnlyIn [.net, .sent] s t)) ∧
  (∀ (s : State) (who : Who) (ch : Fin 16) (m : Option F32),
    Asked s who 2 ∧ s.mode.mode = .service ∧ (∀ p ∈ s.aio.plate, p.channel ≠ ch.val) ∧ ch.val < 8 →
    Does (.trimPoint4ma who ch m) s (fun t =>
      (t.aiCh ch = { s.aiCh ch with r4 := some (s.aiCh ch).current } ∧ (∀ k, k ≠ ch.val → t.aiCh k = s.aiCh k) ∧ t.aio.ao = s.aio.ao ∧ Answered t .ok 0 ∧ OnlyIn [.aio, .net, .sent] s t))) ∧
  (∀ (s : State) (who : Who) (ch : Fin 16) (m : Option F32),
    Asked s who 2 ∧ s.mode.mode = .service ∧ (∀ p ∈ s.aio.plate, p.channel ≠ ch.val) ∧ ch.val < 8 →
    Does (.trimPoint20ma who ch m) s (fun t =>
      (t.aiCh ch = { s.aiCh ch with r20 := some (s.aiCh ch).current } ∧ (∀ k, k ≠ ch.val → t.aiCh k = s.aiCh k) ∧ t.aio.ao = s.aio.ao ∧ Answered t .ok 0 ∧ OnlyIn [.aio, .net, .sent] s t))) ∧
  (∀ (s : State) (who : Who) (ch : Fin 16) (m : Option F32),
    Asked s who 2 ∧ s.mode.mode = .service ∧ (∀ p ∈ s.aio.plate, p.channel ≠ ch.val) ∧ 8 ≤ ch.val →
    Does (.trimPoint4ma who ch m) s (fun t =>
      (t.aoCh (ch - 8)).iCmd = F64.ofInt 4 ∧ (t.aoCh (ch - 8)).dac = s.dacCode (ch - 8) (F64.ofInt 4) ∧ (t.aoCh (ch - 8)).test = 4 ∧ (t.aoCh (ch - 8)).d4 = (m.map F32.widen).or (s.aoCh (ch - 8)).d4 ∧
      ((∀ k, k ≠ ch.val - 8 → t.aoCh k = s.aoCh k) ∧ t.aio.ai = s.aio.ai ∧ Answered t .ok 0 ∧ OnlyIn [.aio, .net, .sent] s t))) ∧
  (∀ (s : State) (who : Who) (ch : Fin 16) (m : Option F32),
    Asked s who 2 ∧ s.mode.mode = .service ∧ (∀ p ∈ s.aio.plate, p.channel ≠ ch.val) ∧ 8 ≤ ch.val →
    Does (.trimPoint20ma who ch m) s (fun t =>
      (t.aoCh (ch - 8)).iCmd = F64.ofInt 20 ∧ (t.aoCh (ch - 8)).dac = s.dacCode (ch - 8) (F64.ofInt 20) ∧ (t.aoCh (ch - 8)).test = 20 ∧ (t.aoCh (ch - 8)).d20 = (m.map F32.widen).or (s.aoCh (ch - 8)).d20 ∧
      ((∀ k, k ≠ ch.val - 8 → t.aoCh k = s.aoCh k) ∧ t.aio.ai = s.aio.ai ∧ Answered t .ok 0 ∧ OnlyIn [.aio, .net, .sent] s t))) ∧
  (∀ (s : State) (who : Who) (ch : Fin 16) (r4 r20 z k : F64),
    Asked s who 2 ∧ s.mode.mode = .service ∧ (∀ p ∈ s.aio.plate, p.channel ≠ ch.val) ∧ ch.val < 8 ∧ (s.aiCh ch).r4 = some r4 ∧ (s.aiCh ch).r20 = some r20 →
    z = F64.add (F64.div (F64.sub r4 (F64.mul (F64.ofInt 4) (F64.div (F64.sub r20 r4) (F64.ofInt 16)))) (s.trimK ch)) (s.trimZ ch) ∧ k = F64.div (s.trimK ch) (F64.div (F64.sub r20 r4) (F64.ofInt 16)) ∧ trimInRange z k = true →
    Does (.trimApply who ch) s (fun t =>
      (t.trimZ ch = z ∧ t.trimK ch = k ∧ (∀ n, n ≠ ch.val → t.trimZ n = s.trimZ n) ∧ (∀ n, n ≠ ch.val → t.trimK n = s.trimK n) ∧ Answered t .ok 0) ∧
      Records s t 0x7020 [ch, (F64.narrow (s.trimZ ch)).toNat, (F64.narrow z).toNat, (F64.narrow (s.trimK ch)).toNat, (F64.narrow k).toNat, 0] ∧
      t.aiCh ch = { s.aiCh ch with r4 := none, r20 := none } ∧ t.aio.ao = s.aio.ao ∧
      OnlyIn [.evr, .net, .aio, .sent] s t)) ∧
  (∀ (s : State) (who : Who) (ch : Fin 16) (d4 d20 z k : F64),
    Asked s who 2 ∧ s.mode.mode = .service ∧ (∀ p ∈ s.aio.plate, p.channel ≠ ch.val) ∧ 8 ≤ ch.val ∧ (s.aoCh (ch - 8)).d4 = some d4 ∧ (s.aoCh (ch - 8)).d20 = some d20 →
    z = F64.sub d4 (F64.mul (F64.div (F64.sub d20 d4) (F64.ofInt 16)) (F64.sub (F64.ofInt 4) (s.trimZ ch))) ∧ k = F64.div (s.trimK ch) (F64.div (F64.sub d20 d4) (F64.ofInt 16)) ∧ trimInRange z k = true →
    Does (.trimApply who ch) s (fun t =>
      (t.trimZ ch = z ∧ t.trimK ch = k ∧ (∀ n, n ≠ ch.val → t.trimZ n = s.trimZ n) ∧ (∀ n, n ≠ ch.val → t.trimK n = s.trimK n) ∧ Answered t .ok 0) ∧
      Records s t 0x7020 [ch, (F64.narrow (s.trimZ ch)).toNat, (F64.narrow z).toNat, (F64.narrow (s.trimK ch)).toNat, (F64.narrow k).toNat, 0] ∧
      (t.aoCh (ch - 8)).d4 = none ∧ (t.aoCh (ch - 8)).d20 = none ∧ (t.aoCh (ch - 8)).test = 0 ∧ t.aio.ai = s.aio.ai ∧
      OnlyIn [.evr, .net, .aio, .sent] s t)) ∧
  (∀ (s : State) (p : PlateTrim),
    s.up = true ∧ s.aio.plate = some p ∧ p.lastKey + 48000000000 ≤ s.mer.raw →
    Does (.faceplateTrimTimeout) s (fun t =>
      t.aio.plate = none ∧ t.aio.z = s.aio.z ∧ t.aio.k = s.aio.k ∧ t.aio.ai = s.aio.ai ∧ OnlyIn [.aio] s t)) ∧
  (∀ (s : State),
    s.up = true ∧ (∀ p ∈ s.aio.plate, s.mer.raw < p.lastKey + 48000000000) →
    Does (.faceplateTrimTimeout) s (fun t =>
      t = s)) ∧
  (∀ (s : State) (m : Fin 8) (l : Nat),
    s.up = true ∧ HartTurn s m l ∧ ((s.hartLoop l).state = .off ∨ (s.hartLoop l).state = .connect) →
    Does (.hartTransactionDue m) s (fun t =>
      (HartSent l 0 false [BitVec.ofNat 8 (field (s.hartCfg l) 7 2)] s t ∧ (t.hartLoop l).state = .connect ∧ (∀ k, k ≠ l → t.hartLoop k = s.hartLoop k)) ∧
      OnlyIn [.aio, .net, .sent] s t)) ∧
  (∀ (s : State) (m : Fin 8) (l : Nat),
    s.up = true ∧ HartTurn s m l ∧ (s.hartLoop l).state = .cyclic ∧ (∀ p ∈ (s.hartMaster m).pass, p.1 ≠ l % 2) ∧ ((s.hartLoop l).more = true ∨ (s.hartLoop l).last + s.hartPeriod m ≤ s.mer.raw) →
    Does (.hartTransactionDue m) s (fun t =>
      HartSent l (if (s.hartLoop l).more then 48 else if bitOf (s.hartCfg l) 8 then 9 else 3) false (if (s.hartLoop l).more = false ∧ bitOf (s.hartCfg l) 8 = true then (s.hartSlots l).map (fun k => BitVec.ofNat 8 (s.hartSlot m k).1) else []) s t ∧
      ((t.hartLoop l).state = .cyclic ∧ (∀ k, k ≠ l → t.hartLoop k = s.hartLoop k) ∧ OnlyIn [.aio, .net, .sent] s t))) ∧
  (∀ (s : State) (m : Fin 8) (l cmd : Nat) (data : List Byte),
    s.up = true ∧ HartTurn s m l ∧ (s.hartLoop l).state = .cyclic ∧ (s.hartMaster m).pass = some (l % 2, cmd, data) →
    Does (.hartTransactionDue m) s (fun t =>
      HartSent l cmd true data s t ∧ (t.hartMaster m).pass = (s.hartMaster m).pass ∧ OnlyIn [.aio, .net, .sent] s t)) ∧
  (∀ (s : State) (m : Fin 8) (l : Nat),
    s.up = true ∧ HartTurn s m l ∧ (s.hartLoop l).state = .lost ∧ s.retryFree (0x0300 + m) = true →
    Does (.hartTransactionDue m) s (fun t =>
      HartSent l 0 false [BitVec.ofNat 8 (field (s.hartCfg l) 7 2)] s t ∧ (t.hartLoop l).state = .lost ∧
      (Table.get t.mode.retries [] (0x0300 + m.val)).head? = some s.mer.raw ∧
      OnlyIn [.mode, .net, .aio, .sent] s t)) ∧
  (∀ (s : State) (m : Fin 8),
    s.up = true ∧ (s.hartOut m ≠ none ∨ (s.hartOn (2 * m) = false ∧ s.hartOn (2 * m + 1) = false)) →
    Does (.hartTransactionDue m) s (fun t =>
      t = s)) ∧
  (∀ (s : State) (m : Fin 8) (l k code bits st : Nat) (r : HartReply),
    s.up = true ∧ s.hartOut m = some l ∧ r.good = true ∧ s.hartSlots l = [k] ∧ r.vars = [(code, bits, st)] ∧ (s.hartSlot m k).1 = code ∧ bits < 2 ^ 32 →
    s.configured ((s.hartSlot m k).2.2 % 524288) = true ∧ s.forceOf ((s.hartSlot m k).2.2 % 524288) = none →
    Does (.hartResponseReceived m r) s (fun t =>
      ((t.hartLoop l).out = none ∧ (t.hartLoop l).unanswered = 0 ∧ (t.hartLoop l).state = (if (s.hartLoop l).state = .connect ∨ (s.hartLoop l).state = .lost then .cyclic else (s.hartLoop l).state)) ∧
      (((s.hartLoop l).state = .connect ∨ (s.hartLoop l).state = .lost → (t.hartLoop l).address = r.unique) ∧ (t.hartLoop l).more = bitOf r.devStatus 4) ∧
      (t.record ((s.hartSlot m k).2.2 % 524288)).value = bits ∧ Table.find (t.hartMaster m).refreshed k = some s.mer.raw ∧
      ((t.record ((s.hartSlot m k).2.2 % 524288)).quality = (if bitOf r.devStatus 7 then qBad else if r.command = 9 then (match st / 64 % 4 with | 3 => qGood | 1 => qUncertain | 2 => qSubstituted | _ => qBad) else if bitOf r.devStatus 0 then qUncertain else qGood)) ∧
      ((bitOf r.devStatus 6 = true → (t.hartMaster m).changed = ((s.hartMaster m).changed + 1) % 2 ^ 32 ∧ Records s t 0x7031 [l]) ∧ (bitOf r.devStatus 7 = true → (s.hartLoop l).malfunction = false → Records s t 0x7032 [l])) ∧
      ((∀ n, n ≠ l → t.hartLoop n = s.hartLoop n)) ∧
      OnlyIn [.mode, .evr, .sys, .tri, .mer, .wpt, .tsk, .ring, .cen, .red, .wit, .net, .leg, .sur, .dio, .aio, .saf, .can, .crt, .clk, .mem, .pwr, .elems, .sent] s t)) ∧
  (∀ (s : State) (m : Fin 8) (l : Nat) (r : HartReply) (o : Nat × Bool × Nat),
    s.up = true ∧ s.hartOut m = some l ∧ r.good = true ∧ (s.hartLoop l).out = some o ∧ o.2.1 = true →
    Does (.hartResponseReceived m r) s (fun t =>
      (t.hartMaster m).pass = none ∧ (t.hartMaster m).responses = ((s.hartMaster m).responses + 1) % 2 ^ 32 ∧ (t.hartMaster m).response = leBytes 1 r.code ++ leBytes 1 r.devStatus ++ r.data ∧
      OnlyIn [.mode, .evr, .sys, .tri, .mer, .wpt, .tsk, .ring, .cen, .red, .wit, .net, .leg, .sur, .dio, .aio, .saf, .can, .crt, .clk, .mem, .pwr, .elems, .sent] s t)) ∧
  (∀ (s : State) (m : Fin 8) (l : Nat) (r : HartReply),
    s.up = true ∧ s.hartOut m = some l ∧ r.good = false ∧ ((s.hartLoop l).state ≠ .cyclic ∨ (s.hartLoop l).unanswered < 2) →
    Does (.hartResponseReceived m r) s (fun t =>
      (t.hartLoop l).out = none ∧ (t.hartLoop l).unanswered = (s.hartLoop l).unanswered + 1 ∧ (t.hartLoop l).state = (s.hartLoop l).state ∧ Records s t 0x7033 [l] ∧
      ((t.hartMaster m).unanswered = ((s.hartMaster m).unanswered + 1) % 2 ^ 32 ∧ t.sur = s.sur ∧ (∀ n, n ≠ l → t.hartLoop n = s.hartLoop n)) ∧
      OnlyIn [.mode, .evr, .sys, .tri, .mer, .wpt, .tsk, .ring, .cen, .red, .wit, .net, .leg, .sur, .dio, .aio, .saf, .can, .crt, .clk, .mem, .pwr, .elems, .sent] s t)) ∧
  (∀ (s : State) (m : Fin 8) (l : Nat),
    s.up = true ∧ s.hartOut m = some l ∧ ((s.hartLoop l).state ≠ .cyclic ∨ (s.hartLoop l).unanswered < 2) →
    Does (.hartResponseTimeout m) s (fun t =>
      (t.hartLoop l).out = none ∧ (t.hartLoop l).unanswered = (s.hartLoop l).unanswered + 1 ∧ (t.hartLoop l).state = (s.hartLoop l).state ∧
      ((t.hartMaster m).unanswered = ((s.hartMaster m).unanswered + 1) % 2 ^ 32 ∧ (∀ n, n ≠ l → t.hartLoop n = s.hartLoop n) ∧ OnlyIn [.aio] s t))) ∧
  (∀ (s : State) (m : Fin 8) (l k : Nat),
    s.up = true ∧ s.hartOut m = some l ∧ (s.hartLoop l).state = .cyclic ∧ 2 ≤ (s.hartLoop l).unanswered ∧ s.hartSlots l = [k] →
    s.configured ((s.hartSlot m k).2.2 % 524288) = true ∧ s.forceOf ((s.hartSlot m k).2.2 % 524288) = none →
    Does (.hartResponseTimeout m) s (fun t =>
      (t.hartLoop l).state = .lost ∧ (t.hartLoop l).out = none ∧ (t.record ((s.hartSlot m k).2.2 % 524288)).quality = qBad ∧ (t.record ((s.hartSlot m k).2.2 % 524288)).value = (s.record ((s.hartSlot m k).2.2 % 524288)).value % 2 ^ 64 ∧
      (Records s t 0x7030 [l] ∧ (t.openFault? (0x0300 + m) 0x7030 l).isSome = true ∧ (∀ n, n ≠ l → t.hartLoop n = s.hartLoop n)) ∧
      OnlyIn [.mode, .evr, .sys, .tri, .mer, .wpt, .tsk, .ring, .cen, .red, .wit, .net, .leg, .sur, .dio, .aio, .saf, .can, .crt, .clk, .mem, .pwr, .elems, .sent] s t)) ∧
  (∀ (s : State) (m : Fin 8) (r : HartReply),
    s.up = true ∧ s.hartOut m = none →
    Does (.hartResponseReceived m r) s (fun t =>
      t = s)) ∧
  (∀ (s : State) (l : Fin 16) (k code bits st : Nat) (r : HartReply),
    s.up = true ∧ s.hartOn l = true ∧ r.good = true ∧ (r.command = 1 ∨ r.command = 2 ∨ r.command = 3 ∨ r.command = 9) ∧ s.hartSlots l = [k] ∧ r.vars = [(code, bits, st)] ∧ (s.hartSlot (l / 2) k).1 = code ∧ bits < 2 ^ 32 →
    s.configured ((s.hartSlot (l / 2) k).2.2 % 524288) = true ∧ s.forceOf ((s.hartSlot (l / 2) k).2.2 % 524288) = none →
    Does (.hartBurstReceived l r) s (fun t =>
      (t.record ((s.hartSlot (l / 2) k).2.2 % 524288)).value = bits ∧ Table.find (t.hartMaster (l / 2)).refreshed k = some s.mer.raw ∧ (t.hartLoop l).out = (s.hartLoop l).out ∧ (t.hartLoop l).state = (s.hartLoop l).state ∧
      OnlyIn [.mode, .evr, .tsk, .sur, .aio, .mem] s t)) ∧
  (∀ (s : State) (l : Fin 16) (r : HartReply),
    s.up = true ∧ (s.hartOn l = false ∨ (r.good = true ∧ r.command ≠ 1 ∧ r.command ≠ 2 ∧ r.command ≠ 3 ∧ r.command ≠ 9)) →
    Does (.hartBurstReceived l r) s (fun t =>
      t = s)) ∧
  (∀ (s : State) (l : Fin 16) (r : HartReply),
    s.up = true ∧ s.hartOn l = true ∧ r.good = false →
    Does (.hartBurstReceived l r) s (fun t =>
      (t.hartMaster (l / 2)).unanswered = ((s.hartMaster (l / 2)).unanswered + 1) % 2 ^ 32 ∧ Records s t 0x7033 [l] ∧ (t.hartLoop l).out = (s.hartLoop l).out ∧ t.sur = s.sur ∧
      OnlyIn [.evr, .aio] s t)) ∧
  (∀ (s : State) (m k : Fin 8) (l : Nat),
    s.up = true ∧ (s.hartSlots l).contains k.val = true ∧ l = 2 * m.val + (s.hartSlot m k).2.1 % 2 ∧ (s.hartLoop l).state ≠ .lost ∧ Table.get (s.hartMaster m).refreshed 0 k + 3 * s.hartPeriod m ≤ s.mer.raw →
    s.configured ((s.hartSlot m k).2.2 % 524288) = true ∧ s.forceOf ((s.hartSlot m k).2.2 % 524288) = none ∧ qCode (s.record ((s.hartSlot m k).2.2 % 524288)).quality ≠ qStale →
    Does (.hartVariableStale m k) s (fun t =>
      (t.record ((s.hartSlot m k).2.2 % 524288)).quality = qStale ∧ (t.record ((s.hartSlot m k).2.2 % 524288)).value = (s.record ((s.hartSlot m k).2.2 % 524288)).value % 2 ^ 64 ∧ t.aio = s.aio ∧
      OnlyIn [.mode, .tsk, .sur, .mem] s t)) ∧
  (∀ (s : State) (m k : Fin 8),
    s.up = true ∧ s.mer.raw < Table.get (s.hartMaster m).refreshed 0 k + 3 * s.hartPeriod m →
    Does (.hartVariableStale m k) s (fun t =>
      t = s)) ∧
  (∀ (s : State) (who : Who) (m : Fin 8) (l cmd : Nat) (data : List Byte),
    Asked s who 2 ∧ l < 2 ∧ cmd < 65536 ∧ (s.hartMaster m).pass = none →
    Does (.hartPassThrough who m l cmd data) s (fun t =>
      (t.hartMaster m = { s.hartMaster m with pass := some (l, cmd, data) } ∧ Answered t .ok 0 ∧ (∀ k, k ≠ m.val → t.hartMaster k = s.hartMaster k) ∧ OnlyIn [.aio, .net, .sent] s t))) ∧
  (∀ (s : State) (who : Who) (m : Fin 8) (l cmd : Nat) (data : List Byte),
    Asked s who 2 ∧ l < 2 ∧ cmd < 65536 ∧ (s.hartMaster m).pass ≠ none →
    Does (.hartPassThrough who m l cmd data) s (fun t =>
      t.sent.head? = some (.status Status.busy.code 0 1000) ∧ t.aio = s.aio ∧ OnlyIn [.net, .sent] s t))

/-- A channel that goes OFF, or is latched by PULSE-MISSING, DISCREPANCY or SOURCE-SHORT, stops every STO function it demands, whose pairs are then off; an SS1 function goes to RAMP with its t0 and v0. A channel back ON lets a function without demand become READY, or RUNNING with automatic restart. A reset edge after 100 ms to 2 s ON moves a function without demand to RUNNING; any other is discarded and counted. Speeds are taken over W; a speed fault latches and stops the axis's functions; SS1-r stops above its limit, at standstill and at T_MAX, SS1-t at T_STOP. (R317, R318, R319, R320, R321, R322, R328, R329, R330, R331, R333, 12_safety_functions.md Table 12-5) -/
def Obligations.SafetyInputsDemandAndResetFunctions : Prop :=
  (∀ (s : State) (ch : Fin 12) (f : Nat),
    s.up = true ∧ s.safUsed ch = true ∧ (s.safCh ch).on = true ∧ f < 8 ∧ (s.fnRec f).type = 1 ∧ bitOf (s.fnRec f).demand (named s ch) = true →
    (s.inRec (ch / 2)).mode = 2 → ch.val % 2 = 0 →
    Does (.safetyInputOff ch) s (fun t =>
      ((t.safCh ch).on = false ∧ Stopped s t f ∧ (t.safFn f).demand = true ∧ (∀ k, k ≠ ch.val → k / 2 ≠ ch.val / 2 → (t.safCh k).on = (s.safCh k).on)) ∧
      (((s.safFn f).demand = false → (s.safFn f).state ≠ 3 → (t.safFn f).t0 = s.now ∧ (t.safFn f).demands = (s.safFn f).demands + 1)) ∧
      OnlyIn [.freeCtr, .mode, .evr, .tri, .mer, .wpt, .tsk, .ring, .cen, .red, .wit, .net, .leg, .sur, .dio, .aio, .saf, .can, .crt, .clk, .mem, .pwr, .elems, .sent] s t)) ∧
  (∀ (s : State) (ch : Fin 12) (f : Nat),
    s.up = true ∧ s.safUsed ch = true ∧ (s.safCh ch).on = true ∧ f < 8 ∧ (s.fnRec f).type = 1 ∧ bitOf (s.fnRec f).demand (named s ch) = true →
    (s.inRec (ch / 2)).mode = 2 → ch.val % 2 = 0 →
    Does (.safetyResetEdge ch) s (fun t =>
      (t.safCh ch).on = false ∧ Stopped s t f ∧
      OnlyIn [.freeCtr, .mode, .evr, .tri, .mer, .wpt, .tsk, .ring, .cen, .red, .wit, .net, .leg, .sur, .dio, .aio, .saf, .can, .crt, .clk, .mem, .pwr, .elems, .sent] s t)) ∧
  (∀ (s : State) (ch : Fin 12) (f : Nat),
    s.up = true ∧ s.safUsed ch = true ∧ (s.safCh ch).on = true ∧ f < 8 ∧ ((s.fnRec f).type = 2 ∨ (s.fnRec f).type = 3) ∧ bitOf (s.fnRec f).demand (named s ch) = true →
    ((s.inRec (ch / 2)).mode = 2 → ch.val % 2 = 0) ∧ (∀ g, g < 8 → (s.fnRec g).resetCh ≠ ch.val) ∧ (s.safFn f).state = 2 ∧ (s.safFn f).demand = false →
    axisBits (s.safAxis 0) = 0 ∧ axisBits (s.safAxis 1) = 0 ∧ (s.fnRec f).axis ≤ 1 ∧ (∀ g, g < 8 → (s.fnRec g).type = 1 → ∀ p, p < 4 → ¬(bitOf (s.fnRec g).outputs p = true ∧ bitOf (s.fnRec f).outputs p = true)) →
    Does (.safetyInputOff ch) s (fun t =>
      ((t.safFn f).state = 3 ∧ (t.safFn f).t0 = s.now ∧ (t.safFn f).t0Raw = s.mer.raw ∧ ((s.fnRec f).type = 3 → (t.safFn f).v0 = (s.safAxis (s.fnRec f).axis).speed.natAbs)) ∧
      OnlyIn [.freeCtr, .mode, .evr, .tri, .mer, .wpt, .tsk, .ring, .cen, .red, .wit, .net, .leg, .sur, .dio, .aio, .saf, .can, .crt, .clk, .mem, .pwr, .elems, .sent] s t)) ∧
  (∀ (s : State) (ch : Fin 12),
    s.up = true ∧ (s.safUsed ch = false ∨ (s.safCh ch).on = false) →
    Does (.safetyInputOff ch) s (fun t =>
      t = s)) ∧
  (∀ (s : State) (ch : Fin 12) (f : Nat),
    s.up = true ∧ s.safUsed ch = true ∧ (s.safCh ch).on = false ∧ f < 8 ∧ (s.fnRec f).type ≠ 0 ∧ (s.safFn f).state = 0 →
    (∀ n ∈ s.demandChans f, s.chanOff n = false ∨ (n = ch.val ∧ (s.inRec (n / 2)).mode = 0)) ∧ (s.safFn f).triadOff = false ∧ s.faultDemand f = false →
    (s.inRec (ch / 2)).mode = 0 →
    Does (.safetyInputOn ch) s (fun t =>
      (t.safCh ch = { s.safCh ch with on := true, raw := true, onAt := s.mer.raw } ∧ (∀ k, k ≠ ch.val → t.safCh k = s.safCh k)) ∧
      (t.safFn f).state = (if (s.fnRec f).restart = 1 then 2 else 1) ∧ (t.safFn f).demand = false ∧
      OnlyIn [.freeCtr, .mode, .evr, .tri, .mer, .wpt, .tsk, .ring, .cen, .red, .wit, .net, .leg, .sur, .dio, .aio, .saf, .can, .crt, .clk, .mem, .pwr, .elems, .sent] s t)) ∧
  (∀ (s : State) (ch : Fin 12),
    s.up = true ∧ (s.safUsed ch = false ∨ (s.safCh ch).on = true) →
    Does (.safetyInputOn ch) s (fun t =>
      t = s)) ∧
  (∀ (s : State) (ch : Fin 12) (f : Nat),
    s.up = true ∧ s.safUsed ch = true ∧ s.safMode ch ≤ 4 ∧ (s.safCh ch).on = true ∧ (s.safCh ch).pulseMissing = false →
    f < 8 ∧ (s.fnRec f).type = 1 ∧ bitOf (s.fnRec f).demand (named s ch) = true →
    Does (.pulseMissing ch) s (fun t =>
      (t.safCh ch).pulseMissing = true ∧ t.safOn ch = false ∧ (t.safCh ch).missCount = ((s.safCh ch).missCount + 1) % 2 ^ 32 ∧ Stopped s t f ∧
      (Records s t 0x8020 [ch] ∧ bitOf t.saf.pend 1 = true ∧ (∀ k, k ≠ ch.val → t.safCh k = s.safCh k)) ∧
      OnlyIn [.mode, .evr, .tsk, .sur, .saf, .mem] s t)) ∧
  (∀ (s : State) (q : Fin 6) (a f : Nat),
    s.up = true ∧ s.safActive = true ∧ Table.find s.saf.disagree q = some a ∧ s.saf.disc.contains q.val = false ∧ a + 400000 * (s.inRec q).disc ≤ s.mer.raw →
    f < 8 ∧ (s.fnRec f).type = 1 ∧ (s.inRec q).mode ≠ 0 ∧ bitOf (s.fnRec f).demand (2 * q) = true →
    Does (.discrepancy q) s (fun t =>
      t.saf.disc.contains q.val = true ∧ t.inPairOn q = false ∧ Stopped s t f ∧ Records s t 0x8021 [q] ∧ bitOf t.saf.pend 1 = true ∧ t.saf.chans = s.saf.chans ∧
      OnlyIn [.mode, .evr, .tsk, .sur, .saf, .mem] s t)) ∧
  (∀ (s : State) (k : Fin 4) (ch f : Nat),
    s.up = true ∧ s.safActive = true ∧ s.saf.sources.contains k.val = false ∧ s.safMode ch = k.val + 1 ∧ ch < 12 ∧ f < 8 ∧ (s.fnRec f).type = 1 ∧ bitOf (s.fnRec f).demand (named s ch) = true →
    Does (.sourceShort k) s (fun t =>
      t.saf.sources = s.saf.sources ++ [k.val] ∧ t.safOn ch = false ∧ Stopped s t f ∧ Records s t 0x8022 [k] ∧ bitOf t.saf.pend 1 = true ∧ t.saf.chans = s.saf.chans ∧
      OnlyIn [.mode, .evr, .tsk, .sur, .saf, .mem] s t)) ∧
  (∀ (s : State) (ch : Fin 12) (f : Nat),
    s.up = true ∧ s.safUsed ch = true ∧ s.safOn ch = true ∧ (s.safCh ch).onAt + 40000000 ≤ s.mer.raw ∧ s.mer.raw ≤ (s.safCh ch).onAt + 800000000 →
    f < 8 ∧ (s.fnRec f).type ≠ 0 ∧ (s.fnRec f).resetCh = ch.val ∧ (s.safFn f).state = 1 ∧ (s.safFn f).triadOff = false ∧ s.faultDemand f = false →
    ∀ n ∈ s.demandChans f, s.chanOff n = false ∧ n / 2 ≠ ch.val / 2 →
    Does (.safetyResetEdge ch) s (fun t =>
      (t.safFn f).state = 2 ∧ (t.safCh ch).on = false ∧ t.saf.resets = (s.saf.resets + 1) % 2 ^ 32 ∧ t.saf.resetsDiscarded = s.saf.resetsDiscarded ∧ Records s t 0x8012 [ch] ∧ bitOf t.saf.edges ch = true ∧
      OnlyIn [.freeCtr, .mode, .evr, .tri, .mer, .wpt, .tsk, .ring, .cen, .red, .wit, .net, .leg, .sur, .dio, .aio, .saf, .can, .crt, .clk, .mem, .pwr, .elems, .sent] s t)) ∧
  (∀ (s : State) (ch : Fin 12) (f : Nat),
    s.up = true ∧ s.safUsed ch = true ∧ s.safOn ch = true ∧ (s.mer.raw < (s.safCh ch).onAt + 40000000 ∨ (s.safCh ch).onAt + 800000000 < s.mer.raw) →
    f < 8 ∧ (s.fnRec f).type ≠ 0 ∧ (s.fnRec f).resetCh = ch.val ∧ (s.safFn f).state ≤ 1 ∧ (s.fnRec f).restart = 0 →
    Does (.safetyResetEdge ch) s (fun t =>
      (t.safFn f).state ≤ 1 ∧ t.saf.resetsDiscarded = (s.saf.resetsDiscarded + 1) % 2 ^ 32 ∧ t.saf.resets = s.saf.resets ∧ Records s t 0x8013 [ch] ∧
      OnlyIn [.freeCtr, .mode, .evr, .tri, .mer, .wpt, .tsk, .ring, .cen, .red, .wit, .net, .leg, .sur, .dio, .aio, .saf, .can, .crt, .clk, .mem, .pwr, .elems, .sent] s t)) ∧
  (∀ (s : State) (ch : Fin 12),
    s.up = true ∧ s.safUsed ch = true ∧ s.safOn ch = true →
    (∃ f, f < 8 ∧ (s.fnRec f).type ≠ 0 ∧ (s.fnRec f).resetCh = ch.val) ∧ (∀ f, f < 8 → (s.fnRec f).type ≠ 0 → (s.fnRec f).resetCh = ch.val → (s.safFn f).triadOff = true) →
    Does (.safetyResetEdge ch) s (fun t =>
      (t.saf.resetsDiscarded = (s.saf.resetsDiscarded + 1) % 2 ^ 32 ∧ t.saf.resets = s.saf.resets ∧ (∀ f, f < 8 → (s.fnRec f).resetCh = ch.val → (s.fnRec f).type = 1 → Stopped s t f)) ∧
      OnlyIn [.freeCtr, .mode, .evr, .tri, .mer, .wpt, .tsk, .ring, .cen, .red, .wit, .net, .leg, .sur, .dio, .aio, .saf, .can, .crt, .clk, .mem, .pwr, .elems, .sent] s t)) ∧
  (∀ (s : State) (i0 i1 : SpeedIn),
    s.up = true ∧ s.safActive = true ∧ (s.axisRec 0).source = 0 ∧ s.safAxis 0 = { speed := (s.safAxis 0).speed } ∧ s.safAxis 1 = { speed := (s.safAxis 1).speed } →
    i0.phase = false ∧ i0.freq = false ∧ i0.wire = false ∧ i1.phase = false ∧ i1.freq = false ∧ i1.wire = false →
    (speedOf i0.edges (s.axisRec 0).w).natAbs ≤ 2000000 ∧ (speedOf i1.edges (s.axisRec 1).w).natAbs ≤ 2000000 →
    Does (.speedUpdate i0 i1) s (fun t =>
      t.safAxis 0 = { speed := speedOf i0.edges (s.axisRec 0).w } ∧ t.safAxis 1 = { speed := speedOf i1.edges (s.axisRec 1).w } ∧ t.saf.chans = s.saf.chans ∧
      OnlyIn [.mode, .evr, .tsk, .sur, .saf, .mem] s t)) ∧
  (∀ (s : State) (i0 i1 : SpeedIn) (f : Nat),
    s.up = true ∧ s.safActive = true ∧ (i0.phase = true ∨ i0.freq = true ∨ ((s.axisRec 0).ttl = true ∧ i0.wire = true)) ∧ axisBits (s.safAxis 0) = 0 →
    f < 8 ∧ (s.fnRec f).type = 3 ∧ (s.fnRec f).axis = 0 ∧ 2 ≤ (s.safFn f).state →
    Does (.speedUpdate i0 i1) s (fun t =>
      ((t.safAxis 0).bad = true ∧ Stopped s t f ∧ (i0.phase = true → (t.safAxis 0).phase = true ∧ Records s t 0x8023 [0, 0]) ∧ (i0.freq = true → (t.safAxis 0).freq = true ∧ Records s t 0x8023 [0, 1])) ∧
      OnlyIn [.mode, .evr, .tsk, .sur, .saf, .mem] s t)) ∧
  (∀ (s : State) (i0 i1 : SpeedIn) (f : Nat),
    s.up = true ∧ s.safActive = true ∧ (s.axisRec 0).source = 0 ∧ axisBits (s.safAxis 0) = 0 ∧ i0.phase = false ∧ i0.freq = false ∧ i0.wire = false ∧ (speedOf i0.edges (s.axisRec 0).w).natAbs ≤ 2000000 →
    f < 8 ∧ (s.fnRec f).type = 3 ∧ (s.fnRec f).axis = 0 ∧ (s.safFn f).state = 3 ∧ AboveLimit (s.fnRec f) (s.safFn f).v0 (speedOf i0.edges (s.axisRec 0).w).natAbs (s.now - (s.safFn f).t0) →
    Does (.speedUpdate i0 i1) s (fun t =>
      Stopped s t f ∧ (t.safFn f).envelope = true ∧ Records s t 0x8011 [f, 3] ∧
      OnlyIn [.mode, .evr, .tsk, .sur, .saf, .mem] s t)) ∧
  (∀ (s : State) (i0 i1 : SpeedIn) (f : Nat),
    s.up = true ∧ s.safActive = true ∧ (s.axisRec 0).source = 0 ∧ s.safAxis 0 = { speed := (s.safAxis 0).speed } ∧ i0.phase = false ∧ i0.freq = false ∧ i0.wire = false ∧ (speedOf i0.edges (s.axisRec 0).w).natAbs ≤ 2000000 →
    f < 8 ∧ (s.fnRec f).type = 3 ∧ (s.fnRec f).axis = 0 ∧ (s.safFn f).state = 3 ∧ ¬AboveLimit (s.fnRec f) (s.safFn f).v0 (speedOf i0.edges (s.axisRec 0).w).natAbs (s.now - (s.safFn f).t0) →
    Does (.speedUpdate i0 i1) s (fun t =>
      (t.safFn f).state = 3 ∧ (t.safFn f).envelope = (s.safFn f).envelope ∧ (t.safFn f).t0 = (s.safFn f).t0 ∧ (t.safFn f).v0 = (s.safFn f).v0 ∧
      (t.safFn f).stillSince = (if (speedOf i0.edges (s.axisRec 0).w).natAbs ≤ (s.fnRec f).vStill then some ((s.safFn f).stillSince.getD s.mer.raw) else none) ∧
      OnlyIn [.mode, .evr, .tsk, .sur, .saf, .mem] s t)) ∧
  (∀ (s : State) (f : Fin 8),
    s.up = true ∧ s.safActive = true ∧ (s.fnRec f).type = 2 ∧ (s.safFn f).state = 3 ∧ (s.safFn f).t0Raw + 400000 * (s.fnRec f).tStop ≤ s.mer.raw →
    Does (.ss1tStopExpiry f) s (fun t =>
      Stopped s t f ∧ Records s t 0x8011 [f, 0] ∧ t.saf.chans = s.saf.chans ∧
      OnlyIn [.mode, .evr, .tsk, .sur, .saf, .mem] s t)) ∧
  (∀ (s : State) (f : Fin 8),
    s.up = true ∧ ((s.safFn f).state ≠ 3 ∨ s.mer.raw < (s.safFn f).t0Raw + 400000 * (s.fnRec f).tStop) →
    Does (.ss1tStopExpiry f) s (fun t =>
      t = s)) ∧
  (∀ (s : State) (f : Fin 8) (a : Nat),
    s.up = true ∧ s.safActive = true ∧ (s.fnRec f).type = 3 ∧ (s.safFn f).state = 3 ∧ (s.safFn f).stillSince = some a ∧ a + 4000000 ≤ s.mer.raw →
    Does (.ss1rStandstill f) s (fun t =>
      Stopped s t f ∧ Records s t 0x8011 [f, 1] ∧ t.saf.chans = s.saf.chans ∧
      OnlyIn [.mode, .evr, .tsk, .sur, .saf, .mem] s t)) ∧
  (∀ (s : State) (f : Fin 8),
    s.up = true ∧ s.safActive = true ∧ (s.fnRec f).type = 3 ∧ (s.safFn f).state = 3 ∧ (s.safFn f).t0Raw + 400000 * (s.fnRec f).tMax ≤ s.mer.raw →
    Does (.rampTimeout f) s (fun t =>
      Stopped s t f ∧ Records s t 0x8011 [f, 2] ∧ t.saf.chans = s.saf.chans ∧
      OnlyIn [.mode, .evr, .tsk, .sur, .saf, .mem] s t)) ∧
  (∀ (s : State) (f : Fin 8),
    s.up = true ∧ ((s.safFn f).state ≠ 3 ∨ s.mer.raw < (s.safFn f).t0Raw + 400000 * (s.fnRec f).tMax) →
    Does (.rampTimeout f) s (fun t =>
      t = s))

/-- A status frame carries the die's states and a check frame the recomputed enables, PERMIT bits and OFF demands; after a valid one every pair is energised exactly where die and PERMIT allow it. A bad frame changes only the expected sequence; two divergent frames, 1.5 ms without one, a failed self-test, a stuck switch or a cross-short take every pair off and enter SAFE. Open switches, trips and contactor-feedback faults latch their pair off. The holder starts the test-pulse frame and stages its enables; a conducting non-holder and 100 ms of differing states make the member not ready. (R313, R314, R315, R316, R323, R324, R325, R326, R335, R336, 12_safety_functions.md Table 12-3, Table 12-7) -/
def Obligations.TwoChannelsDecideEachSafetyPair : Prop :=
  (∀ (s : State),
    s.up = true ∧ s.safActive = true →
    Does (.safetyStatusFrame) s (fun t =>
      t.sent.head? = some (.safety 0 s.statusFields) ∧ t.saf = { s.saf with frameSeq := (s.saf.frameSeq + 1) % 2 ^ 32, edges := 0 } ∧ OnlyIn [.saf, .net, .sent] s t)) ∧
  (∀ (s : State),
    s.up = true ∧ s.safActive = true ∧ s.tri.dead = false →
    Does (.safetyCheck) s (fun t =>
      t.sent.head? = some (.safety 1 [s.saf.checkSeq, packBits ((upto 4).map (fun p => s.dieEnable p && !s.withdrawn p)), packBits ((upto 8).map s.programDemand), packBits ((upto 4).map s.dieEnable)]) ∧
      t.saf = { s.saf with checkSeq := (s.saf.checkSeq + 1) % 2 ^ 32 } ∧ OnlyIn [.saf, .net, .sent] s t)) ∧
  (∀ (s : State),
    s.up = true ∧ (s.safActive = false ∨ s.tri.dead = true) →
    Does (.safetyCheck) s (fun t =>
      t = s)) ∧
  (∀ (s : State) (fr : CheckFrame),
    s.up = true ∧ s.safActive = true ∧ fr.crcOk = true ∧ fr.seq = s.saf.expectSeq ∧ s.saf.divergence = false ∧ (s.saf.divRun = 0 ∨ fr.enables.val = packBits ((upto 4).map s.dieEnable)) →
    Does (.safetyCheckFrameReceived fr) s (fun t =>
      ((∀ p, p < 4 → (t.safPair p).permit = bitOf fr.permit p) ∧ (∀ f, f < 8 → (t.safFn f).triadOff = bitOf fr.off f) ∧ TwoChannels t) ∧
      ((∀ f, f < 8 → (s.fnRec f).type = 1 → bitOf fr.off f = true → Stopped s t f) ∧ t.saf.lastCheck = s.mer.raw ∧ t.saf.checks = (s.saf.checks + 1) % 2 ^ 32) ∧
      t.saf.expectSeq = (fr.seq + 1) % 2 ^ 32 ∧ t.saf.divRun = (if fr.enables.val = packBits ((upto 4).map s.dieEnable) then 0 else 1) ∧ t.saf.chans = s.saf.chans ∧
      OnlyIn [.mode, .evr, .tsk, .sur, .saf, .mem] s t)) ∧
  (∀ (s : State) (fr : CheckFrame),
    s.up = true ∧ s.safActive = true ∧ (fr.crcOk = false ∨ fr.seq ≠ s.saf.expectSeq) →
    Does (.safetyCheckFrameReceived fr) s (fun t =>
      t.saf = { s.saf with expectSeq := (fr.seq + 1) % 2 ^ 32 } ∧ OnlyIn [.saf] s t)) ∧
  (∀ (s : State) (fr : CheckFrame),
    s.up = true ∧ s.safActive = true ∧ fr.crcOk = true ∧ fr.seq = s.saf.expectSeq ∧ s.saf.divergence = false ∧ 1 ≤ s.saf.divRun ∧ fr.enables.val ≠ packBits ((upto 4).map s.dieEnable) →
    Does (.safetyCheckFrameReceived fr) s (fun t =>
      (t.saf.divergence = true ∧ (∀ p, p < 4 → (t.safPair p).permit = false) ∧ DieStops s t ∧ Records s t 0x8040 [] ∧ bitOf t.saf.pend 3 = true) ∧
      OnlyIn [.mode, .evr, .tri, .tsk, .ring, .cen, .red, .net, .sur, .dio, .aio, .saf, .mem, .sent] s t)) ∧
  (∀ (s : State),
    s.up = true ∧ s.safActive = true ∧ s.saf.channelFault = false ∧ s.saf.lastCheck + 600000 ≤ s.mer.raw →
    Does (.safetyChannelTimeout) s (fun t =>
      t.saf.channelFault = true ∧ DieStops s t ∧ Records s t 0x8041 [] ∧
      OnlyIn [.mode, .evr, .tri, .tsk, .ring, .cen, .red, .net, .sur, .dio, .aio, .saf, .mem, .sent] s t)) ∧
  (∀ (s : State),
    s.up = true ∧ (s.safActive = false ∨ s.mer.raw < s.saf.lastCheck + 600000) →
    Does (.safetyChannelTimeout) s (fun t =>
      t = s)) ∧
  (∀ (s : State),
    s.up = true ∧ s.safActive = true →
    Does (.dieSelfTestFault) s (fun t =>
      t.saf.selfTest = true ∧ DieStops s t ∧ Records s t 0x8042 [] ∧
      OnlyIn [.mode, .evr, .tri, .tsk, .ring, .cen, .red, .net, .sur, .dio, .aio, .saf, .mem, .sent] s t)) ∧
  (∀ (s : State),
    s.up = true ∧ s.safActive = true ∧ s.saf.frameAt < s.now - s.now % 4000000 →
    Does (.testPulseFrame) s (fun t =>
      t.saf = { s.saf with frameAt := s.now - s.now % 4000000 } ∧ t.sent = (if s.safHolder then .safety 2 [i64 (s.now - s.now % 4000000), packBits ((upto 4).map (fun k => !s.saf.sources.contains k))] :: s.sent else s.sent) ∧ OnlyIn [.saf, .net, .sent] s t)) ∧
  (∀ (s : State) (p : Fin 4) (fd : TestFind),
    s.up = true ∧ s.safActive = true ∧ s.safHolder = true ∧ ((s.safPair p).lastTest = 0 ∨ (s.safPair p).lastTest + 400000 * (s.outRec p).testInterval ≤ s.mer.raw ∨ (s.safPair p).testLow = true) →
    fd.followed = true ∧ fd.moved = [] →
    Does (.safetyOutputTest p fd) s (fun t =>
      ((t.safPair p).testLow = (!(s.safPair p).testLow) ∧ ((s.safPair p).energised = false → (if (s.safPair p).testLow then (t.safPair p).passL else (t.safPair p).passH) = true)) ∧
      (((s.safPair p).energised = true → (t.safPair p).passL = (s.safPair p).passL ∧ (t.safPair p).passH = (s.safPair p).passH) ∧ (t.safPair p).energised = (s.safPair p).energised) ∧
      ((∀ k, k ≠ p.val → t.safPair k = s.safPair k) ∧ OnlyIn [.saf] s t))) ∧
  (∀ (s : State) (p : Fin 4) (fd : TestFind),
    s.up = true ∧ s.safActive = true ∧ s.safHolder = true ∧ ((s.safPair p).lastTest = 0 ∨ (s.safPair p).lastTest + 400000 * (s.outRec p).testInterval ≤ s.mer.raw ∨ (s.safPair p).testLow = true) →
    fd.followed = false ∧ (s.safPair p).energised = true →
    Does (.safetyOutputTest p fd) s (fun t =>
      (((t.safPair p).stuckL = true ∨ (t.safPair p).stuckH = true) ∧ DieStops s t ∧ Records s t 0x8030 [p]) ∧
      OnlyIn [.mode, .evr, .tri, .tsk, .ring, .cen, .red, .net, .sur, .dio, .aio, .saf, .mem, .sent] s t)) ∧
  (∀ (s : State) (p : Fin 4) (fd : TestFind),
    s.up = true ∧ s.safActive = true ∧ s.safHolder = true ∧ ((s.safPair p).lastTest = 0 ∨ (s.safPair p).lastTest + 400000 * (s.outRec p).testInterval ≤ s.mer.raw ∨ (s.safPair p).testLow = true) →
    fd.followed = false ∧ (s.safPair p).energised = false ∧ fd.moved = [] →
    Does (.safetyOutputTest p fd) s (fun t =>
      (if (s.safPair p).testLow then (t.safPair p).openL else (t.safPair p).openH) = true ∧ (t.safPair p).energised = false ∧ t.mode.mode = s.mode.mode ∧
      Records s t 0x8031 [p, (s.safPair p).testLow.toNat] ∧ (t.openFault? 0x0500 0x8031 p).map (·.rung) = some 2 ∧
      OnlyIn [.mode, .evr, .tsk, .sur, .saf, .mem] s t)) ∧
  (∀ (s : State) (p q : Fin 4) (fd : TestFind),
    s.up = true ∧ s.safActive = true ∧ s.safHolder = true ∧ ((s.safPair p).lastTest = 0 ∨ (s.safPair p).lastTest + 400000 * (s.outRec p).testInterval ≤ s.mer.raw ∨ (s.safPair p).testLow = true) →
    fd.moved.contains q = true ∧ q ≠ p →
    Does (.safetyOutputTest p fd) s (fun t =>
      (t.safPair q).xshort = true ∧ DieStops s t ∧ Records s t 0x8030 [q] ∧
      OnlyIn [.mode, .evr, .tri, .tsk, .ring, .cen, .red, .net, .sur, .dio, .aio, .saf, .mem, .sent] s t)) ∧
  (∀ (s : State) (p : Fin 4),
    s.up = true ∧ s.safActive = true ∧ (s.safPair p).energised = true →
    Does (.safetyOutputShort p) s (fun t =>
      (t.safPair p).short = true ∧ (t.safPair p).energised = false ∧ Records s t 0x8032 [p, 0] ∧ bitOf t.saf.pend 1 = true ∧
      OnlyIn [.mode, .evr, .tsk, .sur, .saf, .mem] s t)) ∧
  (∀ (s : State) (p : Fin 4),
    s.up = true ∧ s.safActive = true ∧ (s.safPair p).energised = true →
    Does (.safetyOutputOverload p) s (fun t =>
      (t.safPair p).overload = true ∧ (t.safPair p).energised = false ∧ Records s t 0x8032 [p, 1] ∧ bitOf t.saf.pend 1 = true ∧
      OnlyIn [.mode, .evr, .tsk, .sur, .saf, .mem] s t)) ∧
  (∀ (s : State) (p : Fin 4) (a : Nat),
    s.up = true ∧ s.safActive = true ∧ (s.outRec p).edmInput ≠ 0xFF ∧ (s.safPair p).edmFault = false ∧ (s.safPair p).edmWait = some a ∧ a + 400000 * (s.outRec p).edmT ≤ s.mer.raw →
    Does (.edmTimeout p) s (fun t =>
      (t.safPair p).edmFault = true ∧ (t.safPair p).energised = false ∧ (t.safPair p).edmOn = (s.safPair p).energised ∧ Records s t 0x8034 [p] ∧
      OnlyIn [.mode, .evr, .tsk, .sur, .saf, .mem] s t)) ∧
  (∀ (s : State) (p : Fin 4),
    s.up = true ∧ s.safActive = true ∧ (s.outRec p).edmInput ≠ 0xFF ∧ (s.safPair p).energised = false →
    Does (.epOnFor10Ms p) s (fun t =>
      (TwoChannels t ∧ ((t.safPair p).energised = false → (t.safPair p).edmOn = true ∧ (t.safPair p).edmReady = true) ∧ (t.safPair p).permit = (s.safPair p).permit ∧ t.saf.chans = s.saf.chans) ∧
      OnlyIn [.mode, .evr, .tsk, .sur, .saf, .mem] s t)) ∧
  (∀ (s : State) (p : Fin 4),
    s.up = true ∧ s.safActive = true ∧ s.pairMember = true ∧ s.red.holds = false ∧ (s.safPair p).stagedEnable = false ∧ (s.safPair p).nhCond = false →
    Does (.nonHolderConducting p) s (fun t =>
      (t.safPair p).nhCond = true ∧ t.red.ready = false ∧ Records s t 0x8035 [p] ∧ (t.openFault? 0x0500 0x8035 p).map (·.rung) = some 2 ∧ t.mode.mode = s.mode.mode ∧
      OnlyIn [.mode, .evr, .tsk, .red, .sur, .saf, .mem] s t)) ∧
  (∀ (s : State),
    s.up = true ∧ s.safActive = true ∧ s.pairMember = true ∧ s.red.holds = true ∧ ((∃ p, p < 4 ∧ s.dieEnable p ≠ (s.safPair p).lastSent) ∨ s.saf.lastEnableSend + 400000 ≤ s.mer.raw) →
    Does (.safetyEnableStageSend) s (fun t =>
      (t.sent = (upto 4).reverse.map (fun p => .copy 4 (0x500 + p) s.now [(s.dieEnable p).toNat]) ++ s.sent ∧ (∀ p, p < 4 → (t.safPair p).lastSent = s.dieEnable p) ∧ t.saf.lastEnableSend = s.mer.raw) ∧
      ((∀ p, p < 4 → (t.safPair p).energised = (s.safPair p).energised) ∧ OnlyIn [.saf, .net, .sent] s t))) ∧
  (∀ (s : State) (a : Nat),
    s.up = true ∧ s.safActive = true ∧ s.pairMember = true ∧ s.red.holds = false ∧ s.saf.mismatchSince = some a ∧ a + 40000000 ≤ s.mer.raw ∧ s.red.ready = true →
    Does (.safetyStateMismatch) s (fun t =>
      t.red.ready = false ∧ t.mode.mode = s.mode.mode ∧ t.saf = s.saf ∧ (t.openFault? 0 0x500A 0xFFFF).isSome = true ∧
      OnlyIn [.mode, .evr, .red] s t)) ∧
  (∀ (s : State),
    s.up = true ∧ (s.pairMember = false ∨ s.red.holds = true ∨ s.saf.mismatchSince = none) →
    Does (.safetyStateMismatch) s (fun t =>
      t = s))

/-- A set is loaded in STOP at Engineer level: refused WRITE-PROTECT in SEALED, STATE-REFUSED elsewhere, CHECK-FAILED with event 0x8003 where its signature fails or a record breaks a rule; otherwise it is PENDING under the CRC-32C of its bytes, with event 0x8001. The same CRC within 600 s activates it: every function is STOPPED and every pair off, with event 0x8002; another value or the expiry discards it. A member whose new set differs from the partner's is not ready and records event 0x8004. (R338, R339, R340, 12_safety_functions.md Table 12-10) -/
def Obligations.SafetySetsAreCheckedSignedAndConfirmed : Prop :=
  (∀ (s : State) (who : Who) (x : SafetySet),
    Asked s who 2 ∧ s.sealed_ = false ∧ s.mode.mode = .stop ∧ 65 ≤ s.staged.length ∧ s.signed s.staged = true ∧ s.setFault x = none →
    Does (.safetySetLoad who x) s (fun t =>
      t.saf = { s.saf with pending := some x, pendCrc := crc32c s.staged, pendAt := s.mer.raw } ∧ Answered t .ok 0 ∧ Records s t 0x8001 [crc32c s.staged] ∧ OnlyIn [.saf, .evr, .net, .sent] s t)) ∧
  (∀ (s : State) (who : Who) (x : SafetySet),
    Asked s who 2 ∧ s.sealed_ = true →
    Does (.safetySetLoad who x) s (fun t =>
      Answered t .writeProtect 0 ∧ OnlyIn [.net, .sent] s t)) ∧
  (∀ (s : State) (who : Who) (x : SafetySet),
    Asked s who 2 ∧ s.sealed_ = false ∧ s.mode.mode ≠ .stop →
    Does (.safetySetLoad who x) s (fun t =>
      Answered t .stateRefused s.stateDetail ∧ OnlyIn [.net, .sent] s t)) ∧
  (∀ (s : State) (who : Who) (x : SafetySet),
    Asked s who 2 ∧ s.sealed_ = false ∧ s.mode.mode = .stop ∧ s.signed s.staged = false →
    Does (.safetySetLoad who x) s (fun t =>
      Answered t .checkFailed (2 ^ 28) ∧ Records s t 0x8003 [1] ∧ OnlyIn [.evr, .net, .sent] s t)) ∧
  (∀ (s : State) (who : Who) (x : SafetySet) (n : Nat),
    Asked s who 2 ∧ s.sealed_ = false ∧ s.mode.mode = .stop ∧ 65 ≤ s.staged.length ∧ s.signed s.staged = true →
    (n < 6 ∧ ((x.pairs.getD n {}).mode = 1 ∨ (x.pairs.getD n {}).mode = 2) ∧ 1 ≤ x.chMode.getD (2 * n) 0 ∧ x.chMode.getD (2 * n) 0 ≤ 4 ∧ x.chMode.getD (2 * n + 1) 0 = x.chMode.getD (2 * n) 0) ∨ (n < 8 ∧ 3 < (x.fns.getD n {}).type) ∨ (n < 4 ∧ (x.outs.getD n {}).testInterval < 100) →
    Does (.safetySetLoad who x) s (fun t =>
      t.saf = s.saf ∧ Records s t 0x8003 [11] ∧ OnlyIn [.evr, .net, .sent] s t ∧ t.sent.length = s.sent.length + 1 ∧ ¬Answered t .ok 0)) ∧
  (∀ (s : State) (who : Who) (x : SafetySet) (q : Option Nat),
    Asked s who 2 ∧ s.saf.pending = some x →
    Does (.safetySetConfirm who s.saf.pendCrc q) s (fun t =>
      (t.saf.set = some x ∧ t.saf.crc = s.saf.pendCrc ∧ t.saf.pending = none ∧ t.saf.activated = s.now ∧ (∀ f, f < 8 → (t.safFn f).state = 0) ∧ (∀ p, p < 4 → (t.safPair p).energised = false)) ∧
      ((∀ n, n < 12 → x.chMode.getD n 0 < 8 → t.safMode n = x.chMode.getD n 0) ∧ Answered t .ok 0 ∧ Records s t 0x8002 [s.saf.pendCrc]) ∧
      OnlyIn [.freeCtr, .mode, .evr, .tri, .mer, .wpt, .tsk, .ring, .cen, .red, .wit, .net, .leg, .sur, .dio, .aio, .saf, .can, .crt, .clk, .mem, .pwr, .elems, .sent] s t)) ∧
  (∀ (s : State) (who : Who) (q : Nat),
    Asked s who 2 ∧ s.saf.pending.isSome = true ∧ s.role = 1 ∧ q ≠ s.saf.pendCrc →
    Does (.safetySetConfirm who s.saf.pendCrc (some q)) s (fun t =>
      t.red.ready = false ∧ t.setDiffers = true ∧ Records s t 0x8004 [])) ∧
  (∀ (s : State) (who : Who) (crc : Nat) (q : Option Nat),
    Asked s who 2 ∧ s.saf.pending.isSome = true ∧ crc ≠ s.saf.pendCrc →
    Does (.safetySetConfirm who crc q) s (fun t =>
      t.saf = { s.saf with pending := none, pendCrc := 0, pendAt := 0 } ∧ Answered t .checkFailed (2 ^ 28) ∧ OnlyIn [.saf, .evr, .net, .sent] s t)) ∧
  (∀ (s : State),
    s.up = true ∧ s.saf.pending.isSome = true ∧ s.saf.pendAt + 240000000000 ≤ s.mer.raw →
    Does (.safetySetPendingExpiry) s (fun t =>
      t.saf = { s.saf with pending := none, pendCrc := 0, pendAt := 0 } ∧ Records s t 0x8003 [0] ∧ OnlyIn [.saf, .evr] s t)) ∧
  (∀ (s : State),
    s.up = true ∧ (s.saf.pending = none ∨ s.mer.raw < s.saf.pendAt + 240000000000) →
    Does (.safetySetPendingExpiry) s (fun t =>
      t = s))

/-- A transmission ends SENT with its timestamp and status, RETRY-LIMIT after RETRY further errors, or EXPIRED at its LIFETIME; an attempt that fails before is repeated, and the pending object of least identifier goes first. A frame is taken by the first of receive objects and filters that matches: an object writes its fields GOOD with the frame's time, a short one is discarded with event 0x9006, RXQ0 takes an item, and one that matches nothing is counted. Receive timeouts turn points STALE. Errors are counted by kind, the counters set the error state, TEC above 255 withdraws all objects and the recovery clears both counters. (R346, R350, R352, R354, R355, R356, R358, R359, 13_can_fd_controllers.md Table 13-7, Table 13-8, Table 13-9) -/
def Obligations.CanControllersSendReceiveAndRecover : Prop :=
  (∀ (s : State) (c : Fin 4) (o : Fin 128),
    s.up = true ∧ (s.canObj c o).inTx = true ∧ s.canMode c = 1 ∧ (s.canObj c o).held = none →
    Does (.canTxComplete c o) s (fun t =>
      t.sent.head? = some (.can c (s.objEl c o 2 0) (leBytes (dlcLen (bitOf (s.objEl c o 3 0) 0) (s.objEl c o 4 0)) (s.canObj c o).payload)) ∧
      (t.canObj c o).outcome = 1 ∧ (t.canObj c o).pending = false ∧ (t.canObj c o).inTx = false ∧ (t.canObj c o).lastTime = s.txStamp c (s.canObj c o).sofAt ∧ (t.canObj c o).frames = ((s.canObj c o).frames + 1) % 2 ^ 32 ∧
      ((t.canCtl c).txcnt = ((s.canCtl c).txcnt + 1) % 2 ^ 32 ∧ (t.canCtl c).tec = (s.canCtl c).tec - 1 ∧ bitOf (t.canCtl c).pend 4 = true ∧ (∀ d, d < 4 → d ≠ c.val → t.canCtl d = s.canCtl d)) ∧
      OnlyIn [.freeCtr, .mode, .evr, .mer, .tsk, .net, .sur, .can, .mem, .sent] s t)) ∧
  (∀ (s : State) (c : Fin 4) (o : Fin 128) (p : Nat),
    s.up = true ∧ (s.canObj c o).inTx = true ∧ s.canMode c = 1 ∧ s.objEl c o 12 0xFFFFFFFF = p ∧ s.configured p = true ∧ s.forceOf p = none →
    Does (.canTxComplete c o) s (fun t =>
      (t.record p).value = 1 ∧ (t.record p).quality = qGood ∧ (t.record p).age = ageOf (s.txStamp c (s.canObj c o).sofAt) ∧
      OnlyIn [.freeCtr, .mode, .evr, .mer, .tsk, .net, .sur, .can, .mem, .sent] s t)) ∧
  (∀ (s : State) (c : Fin 4) (o : Fin 128) (pl : Nat),
    s.up = true ∧ (s.canObj c o).inTx = true ∧ s.canMode c = 1 ∧ (s.canObj c o).held = some pl →
    Does (.canTxComplete c o) s (fun t =>
      (t.canObj c o).outcome = 1 ∧ (t.canObj c o).pending = true ∧ (t.canObj c o).payload = pl ∧ (t.canObj c o).attempts = 0 ∧ (t.canObj c o).held = none ∧
      OnlyIn [.freeCtr, .mode, .evr, .mer, .tsk, .net, .sur, .can, .mem, .sent] s t)) ∧
  (∀ (s : State) (c : Fin 4) (o : Fin 128) (p q : Nat),
    s.up = true ∧ (s.canObj c o).inTx = true ∧ s.canMode c = 1 ∧ p ≠ o.val ∧ q ≠ o.val ∧ (s.canObj c p).pending = true ∧ (s.canObj c q).inTx = false ∧ arbKey (s.objEl c p 2 0) < arbKey (s.objEl c q 2 0) →
    Does (.canTxComplete c o) s (fun t =>
      (t.canObj c q).inTx = false ∧ t.canObj c q = s.canObj c q ∧
      OnlyIn [.freeCtr, .mode, .evr, .mer, .tsk, .net, .sur, .can, .mem, .sent] s t)) ∧
  (∀ (s : State) (c : Fin 4) (o : Fin 128),
    s.up = true ∧ ((s.canObj c o).inTx = false ∨ s.canMode c ≠ 1) →
    Does (.canTxComplete c o) s (fun t =>
      t = s)) ∧
  (∀ (s : State) (c : Fin 4) (o : Fin 128),
    s.up = true ∧ (s.canObj c o).inTx = true ∧ (s.canObj c o).pending = true ∧ (s.canObj c o).attempts < s.objEl c o 7 0 →
    Does (.canTxError c o) s (fun t =>
      (t.canObj c o).attempts = (s.canObj c o).attempts + 1 ∧ (t.canObj c o).pending = true ∧ (t.canObj c o).outcome = (s.canObj c o).outcome ∧ (t.canObj c o).payload = (s.canObj c o).held.getD (s.canObj c o).payload ∧
      ((t.canObj c o).overwritten = (if (s.canObj c o).held.isSome then satInc 16 (s.canObj c o).overwritten else (s.canObj c o).overwritten) ∧ (∀ d, d < 4 → d ≠ c.val → t.canCtl d = s.canCtl d)) ∧
      OnlyIn [.freeCtr, .can] s t)) ∧
  (∀ (s : State) (c : Fin 4) (o : Fin 128),
    s.up = true ∧ (s.canObj c o).inTx = true ∧ s.objEl c o 7 0 ≤ (s.canObj c o).attempts ∧ (s.canObj c o).held = none →
    Does (.canTxError c o) s (fun t =>
      (t.canObj c o).outcome = 3 ∧ (t.canObj c o).pending = false ∧ (t.canObj c o).inTx = false ∧ (t.canObj c o).failures = (s.canObj c o).failures + 1 ∧ bitOf (t.canCtl c).pend 5 = true ∧
      (Records s t 0x9008 [c * 128 + o] ∧ (∀ d, d < 4 → d ≠ c.val → t.canCtl d = s.canCtl d)) ∧
      OnlyIn [.freeCtr, .mode, .evr, .tsk, .sur, .can, .mem] s t)) ∧
  (∀ (s : State) (c : Fin 4) (o : Fin 128),
    s.up = true ∧ (s.canObj c o).pending = true ∧ (s.canObj c o).inTx = false ∧ s.objEl c o 8 0 ≠ 0 ∧ (s.canObj c o).placedAt + 400 * s.objEl c o 8 0 ≤ s.mer.raw →
    Does (.canObjectExpired c o) s (fun t =>
      t.canObj c o = { s.canObj c o with outcome := 2, pending := false, held := none, failures := (s.canObj c o).failures + 1 } ∧ bitOf (t.canCtl c).pend 5 = true ∧ Records s t 0x9008 [c * 128 + o] ∧
      ((∀ k, k ≠ o.val → t.canObj c k = s.canObj c k) ∧ (∀ d, d < 4 → d ≠ c.val → t.canCtl d = s.canCtl d)) ∧
      OnlyIn [.mode, .evr, .tsk, .sur, .can, .mem] s t)) ∧
  (∀ (s : State) (c : Fin 4) (o : Fin 128),
    s.up = true ∧ ((s.canObj c o).pending = false ∨ (s.canObj c o).inTx = true ∨ s.objEl c o 8 0 = 0 ∨ s.mer.raw < (s.canObj c o).placedAt + 400 * s.objEl c o 8 0) →
    Does (.canObjectExpired c o) s (fun t =>
      t = s)) ∧
  (∀ (s : State) (c : Fin 4) (o : Nat) (f : CanFrame) (g : CanField) (dec : Decoded),
    FrameTaken s c f ∧ s.legendPair c f = none ∧ s.rxObject c f = some o ∧ dlcLen (bitOf (s.objEl c o 3 0) 0) (s.objEl c o 4 0) ≤ f.data.length ∧ s.mode.mode ≠ .standby →
    s.objFields c o = [g] ∧ s.configured (refLocal g.ref) = true ∧ s.forceOf (refLocal g.ref) = none ∧ F64.num (unpackField g (leNat f.data)) ≠ .nan →
    Does (.canFrameReceived c f dec) s (fun t =>
      (t.record (refLocal g.ref)).value = encodeVal (refType g.ref) (unpackField g (leNat f.data)) % 2 ^ 64 ∧ (t.record (refLocal g.ref)).quality = qGood ∧ (t.record (refLocal g.ref)).age = ageOf (s.rxStamp c f.capture) ∧
      (t.canCtl c).rxcnt = ((s.canCtl c).rxcnt + 1) % 2 ^ 32 ∧ (t.canObj c o).frames = ((s.canObj c o).frames + 1) % 2 ^ 32 ∧ (t.canObj c o).lastRx = s.mer.raw ∧ (t.canObj c o).rxStale = false ∧ (t.canObj c o).lastTime = s.rxStamp c f.capture ∧
      OnlyIn [.freeCtr, .mode, .evr, .sys, .tri, .mer, .wpt, .tsk, .ring, .cen, .red, .wit, .net, .leg, .sur, .dio, .aio, .saf, .can, .crt, .clk, .mem, .pwr, .elems, .sent] s t)) ∧
  (∀ (s : State) (c : Fin 4) (o : Nat) (f : CanFrame) (dec : Decoded),
    FrameTaken s c f ∧ s.legendPair c f = none ∧ s.rxObject c f = some o ∧ f.data.length < dlcLen (bitOf (s.objEl c o 3 0) 0) (s.objEl c o 4 0) →
    Does (.canFrameReceived c f dec) s (fun t =>
      (t.canCtl c).short = satInc 32 (s.canCtl c).short ∧ Records s t 0x9006 [c * 128 + o] ∧ t.sur = s.sur ∧ (t.canObj c o).frames = (s.canObj c o).frames ∧
      OnlyIn [.freeCtr, .mode, .evr, .sys, .tri, .mer, .wpt, .tsk, .ring, .cen, .red, .wit, .net, .leg, .sur, .dio, .aio, .saf, .can, .crt, .clk, .mem, .pwr, .elems, .sent] s t)) ∧
  (∀ (s : State) (c : Fin 4) (f : CanFrame) (dec : Decoded),
    FrameTaken s c f ∧ s.legendPair c f = none ∧ s.rxObject c f = none ∧ s.filterHit c f = none →
    Does (.canFrameReceived c f dec) s (fun t =>
      (t.canCtl c).noMatch = satInc 32 (s.canCtl c).noMatch ∧ (t.canCtl c).rxcnt = (s.canCtl c).rxcnt ∧ t.sur = s.sur ∧ t.can.rxq0 = s.can.rxq0 ∧ t.leg = s.leg ∧
      OnlyIn [.freeCtr, .mode, .evr, .sys, .tri, .mer, .wpt, .tsk, .ring, .cen, .red, .wit, .net, .leg, .sur, .dio, .aio, .saf, .can, .crt, .clk, .mem, .pwr, .elems, .sent] s t)) ∧
  (∀ (s : State) (c : Fin 4) (f : CanFrame) (k : Nat) (dec : Decoded),
    FrameTaken s c f ∧ s.legendPair c f = none ∧ s.rxObject c f = none ∧ s.filterHit c f = some k ∧ field (s.canFilter c k).2 30 29 = 1 →
    Does (.canFrameReceived c f dec) s (fun t =>
      t.can.rxq0.dropLast = s.can.rxq0 ∧ t.can.rxq0.getLast?.map (·.drop 16) = some (s.rxqPayload f k (s.rxStamp c f.capture)) ∧ (t.canCtl c).rxcnt = ((s.canCtl c).rxcnt + 1) % 2 ^ 32 ∧ bitOf (t.canCtl c).pend 2 = true ∧ t.sur = s.sur ∧
      OnlyIn [.freeCtr, .mode, .evr, .sys, .tri, .mer, .wpt, .tsk, .ring, .cen, .red, .wit, .net, .leg, .sur, .dio, .aio, .saf, .can, .crt, .clk, .mem, .pwr, .elems, .sent] s t)) ∧
  (∀ (s : State) (c : Fin 4) (f : CanFrame) (dec : Decoded),
    s.up = true ∧ canFrameOk f = true ∧ (s.canMode c = 0 ∨ (s.canCtl c).busOff = true ∨ (f.fdf = true ∧ bitOf (s.canCtl c).ctrl 2 = false)) →
    Does (.canFrameReceived c f dec) s (fun t =>
      t = s)) ∧
  (∀ (s : State) (c : Fin 4) (o : Fin 128) (g : CanField),
    s.up = true ∧ s.objOn c o = true ∧ s.objEl c o 1 0 = 0 ∧ s.objEl c o 11 0 ≠ 0 ∧ s.canMode c ≠ 0 ∧ s.mode.mode ≠ .standby ∧ (s.canObj c o).rxStale = false ∧ (s.canObj c o).rxBad = true →
    max (s.canObj c o).lastRx s.can.since + 400000 * s.objEl c o 11 0 ≤ s.mer.raw →
    s.objFields c o = [g] ∧ s.configured (refLocal g.ref) = true ∧ s.forceOf (refLocal g.ref) = none ∧ qCode (s.record (refLocal g.ref)).quality ≠ qBad →
    Does (.canReceiveTimeout c o) s (fun t =>
      (t.canObj c o).rxStale = true ∧ (t.record (refLocal g.ref)).quality = qStale ∧ (t.record (refLocal g.ref)).value = (s.record (refLocal g.ref)).value % 2 ^ 64 ∧ Records s t 0x900A [c * 128 + o] ∧
      OnlyIn [.mode, .evr, .tsk, .sur, .can, .mem] s t)) ∧
  (∀ (s : State) (c : Fin 4) (o : Fin 128) (g : CanField),
    s.up = true ∧ s.objOn c o = true ∧ s.objEl c o 1 0 = 0 ∧ s.objEl c o 11 0 ≠ 0 ∧ s.canMode c ≠ 0 ∧ s.mode.mode ≠ .standby ∧ (s.canObj c o).rxStale = true ∧ (s.canObj c o).rxBad = false →
    max (s.canObj c o).lastRx s.can.since + 400000 * (3 * s.objEl c o 11 0) ≤ s.mer.raw →
    s.objFields c o = [g] ∧ s.configured (refLocal g.ref) = true ∧ s.forceOf (refLocal g.ref) = none ∧ qCode (s.record (refLocal g.ref)).quality ≠ qBad →
    Does (.canReceiveTimeout c o) s (fun t =>
      (t.canObj c o).rxBad = true ∧ (t.record (refLocal g.ref)).quality = qBad ∧ (t.record (refLocal g.ref)).value = (s.record (refLocal g.ref)).value % 2 ^ 64 ∧
      OnlyIn [.mode, .tsk, .sur, .can, .mem] s t)) ∧
  (∀ (s : State) (c : Fin 4) (o : Fin 128),
    s.up = true ∧ (s.objEl c o 11 0 = 0 ∨ s.mer.raw < max (s.canObj c o).lastRx s.can.since + 400000 * s.objEl c o 11 0) →
    Does (.canReceiveTimeout c o) s (fun t =>
      t = s)) ∧
  (∀ (s : State) (c : Fin 4) (err : CanErr) (data : Bool),
    ErrorTaken s c ∧ (s.canCtl c).tec < 248 ∧ (err ≠ .ack ∨ (s.canCtl c).passive = false) →
    Does (.canErrorDetected c err data true) s (fun t =>
      (t.canCtl c).tec = (s.canCtl c).tec + 8 ∧ (t.canCtl c).rec_ = (s.canCtl c).rec_ ∧ (t.canCtl c).lec = err.code ∧ (t.canCtl c).lecData = data ∧ (t.canCtl c).busOff = false ∧
      (t.canCtl c).passive = (decide (128 ≤ (s.canCtl c).tec + 8) || decide (128 ≤ (s.canCtl c).rec_)) ∧ (t.canCtl c).episode = some s.mer.raw ∧ t.mode = s.mode ∧
      ((t.canCtl c).errBit = (if err = .bitRecessive ∨ err = .bitDominant then satInc 8 (s.canCtl c).errBit else (s.canCtl c).errBit) ∧ (t.canCtl c).errCrc = (if err = .crc then satInc 4 (s.canCtl c).errCrc else (s.canCtl c).errCrc)) ∧
      (((s.canCtl c).passive = false → 120 ≤ (s.canCtl c).tec → Records s t 0x9001 [c, (s.canCtl c).tec + 8, (s.canCtl c).rec_]) ∧ (∀ d, d < 4 → d ≠ c.val → t.canCtl d = s.canCtl d)) ∧
      (((s.canCtl c).episode = none → Records s t 0x9005 [c, err.code]) ∧ (t.canCtl c).objs = (s.canCtl c).objs) ∧
      OnlyIn [.evr, .can] s t)) ∧
  (∀ (s : State) (c : Fin 4) (err : CanErr) (data : Bool),
    ErrorTaken s c ∧ (s.canCtl c).tec < 256 ∧ (s.canCtl c).rec_ < 119 →
    Does (.canErrorDetected c err data false) s (fun t =>
      ((t.canCtl c).tec = (s.canCtl c).tec ∧ (t.canCtl c).rec_ = (s.canCtl c).rec_ + (if err = .bitRecessive ∨ err = .bitDominant then 8 else 1) ∧ (t.canCtl c).lec = err.code ∧ (∀ d, d < 4 → d ≠ c.val → t.canCtl d = s.canCtl d)) ∧
      OnlyIn [.evr, .can] s t)) ∧
  (∀ (s : State) (c : Fin 4) (err : CanErr) (data : Bool),
    ErrorTaken s c ∧ 248 ≤ (s.canCtl c).tec ∧ err ≠ .ack ∧ s.el (0x90000 + c) 4 0 = 0 ∧ s.retryFree (canFn c) = true →
    Does (.canErrorDetected c err data true) s (fun t =>
      (t.canCtl c).busOff = true ∧ (t.canCtl c).recovering = true ∧ (t.canCtl c).busoffs = (s.canCtl c).busoffs + 1 ∧ t.mode.mode = s.mode.mode ∧
      ((∀ o, o < 128 → (s.canObj c o).pending = true → (t.canObj c o).pending = false ∧ (t.canObj c o).inTx = false ∧ (t.canObj c o).outcome = 4) ∧ Records s t 0x9003 [c]) ∧
      OnlyIn [.mode, .evr, .tsk, .sur, .can, .mem] s t)) ∧
  (∀ (s : State) (c : Fin 4),
    s.up = true ∧ (s.canCtl c).busOff = true ∧ (s.canCtl c).recovering = true →
    Does (.canBusOffRecovery c) s (fun t =>
      (t.canCtl c).busOff = false ∧ (t.canCtl c).tec = 0 ∧ (t.canCtl c).rec_ = 0 ∧ (t.canCtl c).passive = false ∧ (t.canCtl c).recovering = false ∧ Records s t 0x9004 [c] ∧
      ((t.openFault? (0x0100 + c) 0x9003 c).isNone = true ∧ (∀ d, d < 4 → d ≠ c.val → t.canCtl d = s.canCtl d)) ∧
      OnlyIn [.freeCtr, .mode, .evr, .can] s t)) ∧
  (∀ (s : State) (c : Fin 4),
    s.up = true ∧ ((s.canCtl c).busOff = false ∨ (s.canCtl c).recovering = false) →
    Does (.canBusOffRecovery c) s (fun t =>
      t = s)) ∧
  (∀ (s : State) (c : Fin 4) (a : Nat),
    s.up = true ∧ (s.canCtl c).episode = some a →
    Does (.canErrorEpisodeEnd c) s (fun t =>
      (t.canCtl c = { s.canCtl c with episode := if a + 4000000000 ≤ s.mer.raw then none else some a } ∧ (∀ d, d < 4 → d ≠ c.val → t.canCtl d = s.canCtl d) ∧ OnlyIn [.can] s t)))

/-- A link change is counted, pends and is recorded, a loss calling for rung 1. A plant frame within its class's limit and not seen before is accepted and answered where it asks, ICMP at most 10 times a second; beyond the limit, seen before or of another kind it is dropped and counted. Supervision goes out on both ports. An aborted ring frame and a violation are counted; a returned COLLECT gives its heads' inputs once, a returned OUTPUT acknowledges; a wrap opens the ring and full circle closes it. A tie block is counted by its CRC; the loss of both lanes is recorded and makes a standby not ready. (R365, R366, R367, R368, R371, R373, R376, R378, R380, 14_networks.md Table 14-3, Table 14-11) -/
def Obligations.PortsRingAndTieLinkFollowTheirRules : Prop :=
  (∀ (s : State) (p : Port),
    s.up = true ∧ (s.net.port p).up = true ∧ s.retryFree (0x0200 + p) = true ∧ (s.openFault? (0x0200 + p) 0xA001 p).isNone = true →
    Does (.portLinkDown p) s (fun t =>
      t.net.port p = { s.net.port p with up := false, downs := satInc 32 (s.net.port p).downs } ∧ bitOf t.net.pend 0 = true ∧ OtherPorts p s t ∧
      Records s t 0xA001 [p] ∧ (t.openFault? (0x0200 + p) 0xA001 p).map (·.rung) = some 1 ∧
      OnlyIn [.mode, .evr, .net] s t)) ∧
  (∀ (s : State) (p : Port),
    s.up = true ∧ (s.net.port p).up = false →
    Does (.portLinkDown p) s (fun t =>
      t = s)) ∧
  (∀ (s : State) (p : Port),
    s.up = true ∧ (s.net.port p).up = false →
    Does (.portLinkUp p) s (fun t =>
      t.net.port p = { s.net.port p with up := true } ∧ bitOf t.net.pend 0 = true ∧ OtherPorts p s t ∧ Records s t 0xA002 [p] ∧ (t.openFault? (0x0200 + p) 0xA001 p).isNone = true ∧
      OnlyIn [.mode, .evr, .net] s t)) ∧
  (∀ (s : State) (p : Port) (f : PlantFrame),
    PlantTaken s p f ∧ f.kind = .arpOwn ∧ Table.get (s.net.port p).windows 0 1 < 100 →
    Does (.plantFrameReceived p f) s (fun t =>
      (t.net.port p).rxok = satInc 32 (s.net.port p).rxok ∧ Table.get (t.net.port p).windows 0 1 = Table.get (s.net.port p).windows 0 1 + 1 ∧ t.sent = .plant 1 1 :: .plant 0 1 :: s.sent ∧
      OnlyIn [.evr, .net, .sent] s t)) ∧
  (∀ (s : State) (p : Port) (f : PlantFrame),
    PlantTaken s p f ∧ f.kind = .icmpEcho ∧ Table.get (s.net.port p).windows 0 2 < 100 →
    Does (.plantFrameReceived p f) s (fun t =>
      (t.net.port p).rxok = satInc 32 (s.net.port p).rxok ∧ t.sent = (if (s.net.port p).icmpReplies < 10 then .plant 1 2 :: .plant 0 2 :: s.sent else s.sent) ∧
      OnlyIn [.evr, .net, .sent] s t)) ∧
  (∀ (s : State) (p : Port) (f : PlantFrame) (c : Nat × Nat),
    PlantTaken s p f ∧ policeClass f.kind = some c ∧ c.2 ≤ Table.get (s.net.port p).windows 0 c.1 →
    Does (.plantFrameReceived p f) s (fun t =>
      (t.net.port p).policed = satInc 32 (s.net.port p).policed ∧ (t.net.port p).rxok = (s.net.port p).rxok ∧ t.sent = s.sent ∧ Records s t 0xA004 [p, c.1] ∧ OtherPorts p s t ∧
      OnlyIn [.evr, .net] s t)) ∧
  (∀ (s : State) (p : Port) (f : PlantFrame) (q at_ : Nat),
    s.up = true ∧ p.val < 2 ∧ (s.net.port p).up = true ∧ f.kind = .udpLegend ∧ f.seq = some q ∧ (f.src, q, at_) ∈ s.net.seen ∧ s.mer.raw < at_ + 160000 →
    s.mer.raw < (s.net.port p).windowAt + 400000000 ∧ Table.get (s.net.port p).windows 0 3 < 20000 →
    Does (.plantFrameReceived p f) s (fun t =>
      (t.net.port p).dupdisc = satInc 32 (s.net.port p).dupdisc ∧ (t.net.port p).rxok = (s.net.port p).rxok ∧ OtherPorts p s t ∧ OnlyIn [.net] s t)) ∧
  (∀ (s : State) (p : Port) (f : PlantFrame),
    PlantTaken s p f ∧ (f.kind = .fragment ∨ f.kind = .other) ∧ s.el 0xA0000 0 0 = 0 →
    Does (.plantFrameReceived p f) s (fun t =>
      (t.net.port p).other = satInc 32 (s.net.port p).other ∧ (t.net.port p).rxok = (s.net.port p).rxok ∧ t.sent = s.sent ∧ OtherPorts p s t ∧ OnlyIn [.net] s t)) ∧
  (∀ (s : State),
    s.up = true ∧ s.net.lastSup + 400000 * s.el 0xA0000 4 2000 ≤ s.mer.raw →
    Does (.prpSupervisionSend) s (fun t =>
      t.sent = .supervision 1 s.net.prpSeq :: .supervision 0 s.net.prpSeq :: s.sent ∧ t.net.prpSeq = (s.net.prpSeq + 1) % 65536 ∧ t.net.lastSup = s.mer.raw ∧ OnlyIn [.net, .sent] s t)) ∧
  (∀ (s : State),
    s.up = true ∧ s.mer.raw < s.net.lastSup + 400000 * s.el 0xA0000 4 2000 →
    Does (.prpSupervisionSend) s (fun t =>
      t = s)) ∧
  (∀ (s : State) (p : Port) (f : RingFrame),
    s.up = true ∧ 2 ≤ p.val ∧ (s.net.port p).up = true ∧ f.aborted = true →
    Does (.ringFrameReceived p f) s (fun t =>
      t.net.port p = { s.net.port p with aborted := satInc 32 (s.net.port p).aborted } ∧ OtherPorts p s t ∧ OnlyIn [.net] s t)) ∧
  (∀ (s : State) (p : Port) (f : RingFrame),
    s.up = true ∧ 2 ≤ p.val ∧ (s.net.port p).up = true ∧ f.aborted = false →
    f.ver ≠ 1 ∨ f.kind = 0 ∨ 5 < f.kind ∨ 28 < f.len ∨ f.ring ≠ s.ringId ∨ (f.src ≠ s.modIndex ∧ s.pairMember = false) ∨ f.fcsOk = false →
    Does (.ringFrameReceived p f) s (fun t =>
      (t.net.port p).viol = satInc 32 (s.net.port p).viol ∧ (t.net.port p).rxok = (s.net.port p).rxok ∧ Records s t 0xA012 [p] ∧ OtherPorts p s t ∧ t.ring = s.ring ∧
      OnlyIn [.evr, .net] s t)) ∧
  (∀ (s : State) (p : Port) (f : RingFrame) (x : Exchange) (hd ch v q : Nat) (y : Nat × PointMeta),
    RingTaken s p f ∧ f.wrap = 0xFF ∧ s.ring.isOpen = false ∧ f.kind = 3 ∧ s.ring.exchanges = [x] ∧ exchCode x.owner = f.exch ∧ x.collected = false ∧ s.collectDue x = false →
    s.exchHeads x.owner = [hd] ∧ f.bits.contains (s.headPos hd) = true ∧ (s.head hd).answered = false ∧ f.inputs = [(hd, ch, v, q)] ∧ s.pointsOf 2 (256 * hd + ch) = [y] ∧ s.forceOf y.1 = none ∧ q < 256 ∧ v < 2 ^ 64 →
    (s.head hd).state = .present ∧ s.configured y.1 = true →
    Does (.ringFrameReceived p f) s (fun t =>
      ((t.head hd).answered = true ∧ (t.record y.1).value = v ∧ (t.record y.1).quality = q ∧ (t.record y.1).age = ageOf x.at_ ∧ (t.net.port p).rxok = satInc 32 (s.net.port p).rxok ∧ (∀ k, k < 24 → k ≠ hd → t.head k = s.head k)) ∧
      OnlyIn [.freeCtr, .mode, .evr, .tri, .tsk, .ring, .net, .sur, .mem] s t)) ∧
  (∀ (s : State) (p : Port) (f : RingFrame) (x : Exchange) (hd : Nat),
    RingTaken s p f ∧ f.wrap = 0xFF ∧ s.ring.isOpen = false ∧ f.kind = 4 ∧ s.ring.exchanges = [x] ∧ exchCode x.owner = f.exch ∧ x.sentOut = true ∧ s.exchHeads x.owner = [hd] ∧ f.bits.contains (s.headPos hd) = true →
    Does (.ringFrameReceived p f) s (fun t =>
      (t.head hd).acked = true ∧ t.ring.exchanges = [if p.val = 2 then { x with backA := true } else { x with backB := true }] ∧ t.sur = s.sur ∧
      OnlyIn [.freeCtr, .mode, .evr, .tri, .tsk, .ring, .net, .sur, .mem] s t)) ∧
  (∀ (s : State) (p : Port) (f : RingFrame),
    RingTaken s p f ∧ f.wrap ≠ 0xFF ∧ s.ring.isOpen = false →
    Does (.ringFrameReceived p f) s (fun t =>
      t.ring.isOpen = true ∧ t.ring.breakA = f.wrap ∧ Records s t 0xA010 [f.wrap] ∧ bitOf t.net.pend 1 = true ∧
      OnlyIn [.freeCtr, .mode, .evr, .tri, .tsk, .ring, .net, .sur, .mem] s t)) ∧
  (∀ (s : State) (p : Port) (f : RingFrame),
    RingTaken s p f ∧ f.wrap = 0xFF ∧ f.full = true ∧ s.ring.isOpen = true →
    Does (.ringFrameReceived p f) s (fun t =>
      t.ring.isOpen = false ∧ t.ring.breakA = 0xFF ∧ Records s t 0xA011 [] ∧ bitOf t.net.pend 1 = true ∧ (t.openFault? 0 0xA010 0).isNone = true ∧
      OnlyIn [.freeCtr, .mode, .evr, .tri, .tsk, .ring, .net, .sur, .mem] s t)) ∧
  (∀ (s : State) (l : Fin 2) (b : List Byte) (dec : Decoded),
    s.up = true ∧ (s.net.lane l).up = true ∧ b.length = (8 + byteAt b 3 + 7) / 8 * 8 ∧ byteAt b 3 ≤ 120 ∧ leAt b 4 4 ≠ tieCrc b →
    Does (.tieBlockReceived l b dec) s (fun t =>
      t.net.lane l = { s.net.lane l with crc := satInc 32 (s.net.lane l).crc } ∧ t.net.lane (1 - l) = s.net.lane (1 - l) ∧ Records s t 0xA022 [l] ∧ OnlyIn [.net, .evr] s t)) ∧
  (∀ (s : State) (l : Fin 2) (b : List Byte) (dec : Decoded),
    s.up = true ∧ (s.net.lane l).up = true ∧ b.length = (8 + byteAt b 3 + 7) / 8 * 8 ∧ byteAt b 3 ≤ 120 ∧ leAt b 4 4 = tieCrc b ∧ (byteAt b 0 ≠ 5 ∨ s.pairMember = false) →
    Does (.tieBlockReceived l b dec) s (fun t =>
      t.net.lane l = { s.net.lane l with rx := satInc 32 (s.net.lane l).rx } ∧ t.net.lane (1 - l) = s.net.lane (1 - l) ∧ OnlyIn [.net] s t)) ∧
  (∀ (s : State) (l : Fin 2) (b : List Byte) (dec : Decoded),
    s.up = true ∧ (s.net.lane l).up = true ∧ b.length = (8 + byteAt b 3 + 7) / 8 * 8 ∧ byteAt b 3 ≤ 120 ∧ leAt b 4 4 = tieCrc b ∧ byteAt b 0 = 5 ∧ s.pairMember = true ∧ byteAt b 1 = s.partner ∧ byteAt b 2 = s.modIndex →
    (s.net.relay ++ (b.drop 8).take (byteAt b 3)).length < 24 →
    Does (.tieBlockReceived l b dec) s (fun t =>
      t.net.relay = s.net.relay ++ (b.drop 8).take (byteAt b 3) ∧ (t.net.lane l).rx = satInc 32 (s.net.lane l).rx ∧ OnlyIn [.net] s t)) ∧
  (∀ (s : State) (l : Fin 2),
    s.up = true ∧ (s.net.lane l).up = true →
    Does (.tieLaneDown l) s (fun t =>
      t.net.lane l = { s.net.lane l with up := false, downs := satInc 32 (s.net.lane l).downs } ∧ t.net.lane (1 - l) = s.net.lane (1 - l) ∧ Records s t 0xA020 [l] ∧ bitOf t.net.pend 0 = true ∧
      (((s.net.lane (1 - l)).up = false → Records s t 0xA023 [] ∧ t.red.resync = false ∧ t.net.relay = [] ∧ (s.mode.mode = .standby → t.red.ready = false)) ∧ ((s.net.lane (1 - l)).up = true → t.red = s.red)) ∧
      OnlyIn [.mode, .evr, .red, .net] s t)) ∧
  (∀ (s : State) (l : Fin 2),
    s.up = true ∧ (s.net.lane l).up = false →
    Does (.tieLaneUp l) s (fun t =>
      t.net.lane l = { s.net.lane l with up := true } ∧ t.net.lane (1 - l) = s.net.lane (1 - l) ∧ Records s t 0xA021 [l] ∧ (t.openFault? 0 0xA023 0).isNone = true ∧ (t.openFault? 0 0xA020 l).isNone = true ∧
      OnlyIn [.mode, .evr, .net] s t))

/-- An offer enters the staging queue with its times, or is dropped and counted when 4096 stand there. The recorder writes the oldest entry into slot NEXT mod 524,288 under the next sequence number with UPD advanced by 2, merges a repeat into the record of its key without a number, puts extension records next, and stages 0xB001 in the first entry freed after drops. Outstanding merges reach MRAM at most once in 10 ms. A clear with a Custodian's token moves EPOCH_SEQ to the next number, writes 0xB002 first and 0xA804 last, and the old slots are zeroed. (R384, R385, R387, R389, R390, R391, R394, 15_event_recorder.md Table 15-1, Table 15-3) -/
def Obligations.RecorderStagesWritesMergesAndClears : Prop :=
  (∀ (s : State) (o : Offering),
    s.up = true ∧ s.evr.ready = true ∧ s.evr.staged.length < 4096 →
    Does (.eventOffer o) s (fun t =>
      t.evr.staged.dropLast = s.evr.staged ∧ t.evr.staged.getLast?.map (fun x => (x.code, x.src, x.rung, x.args, x.rep)) = some (o.code, o.src, o.rung, o.args, o.rep) ∧
      t.evr.staged.getLast?.map (fun x => (x.mt, x.mtLast, x.optime, x.pcyc)) = some (o.instant.getD s.now, o.instant.getD s.now, s.mer.opMs, s.mer.pcyc) ∧
      t.evr.dropped = s.evr.dropped ∧ t.evr.next = s.evr.next ∧ t.evr.recs = s.evr.recs ∧ OnlyIn [.evr] s t)) ∧
  (∀ (s : State) (o : Offering),
    s.up = true ∧ s.evr.ready = true ∧ 4096 ≤ s.evr.staged.length →
    Does (.eventOffer o) s (fun t =>
      t.evr.staged = s.evr.staged ∧ t.evr.dropped = min (s.evr.dropped + 1) (2 ^ 32 - 1) ∧ t.evr.dropRun = min (s.evr.dropRun + 1) (2 ^ 32 - 1) ∧ bitOf t.evr.pend 2 = true ∧
      t.evr.dropLast = o.instant.getD s.now ∧ t.evr.dropFirst = (if s.evr.dropRun = 0 then o.instant.getD s.now else s.evr.dropFirst) ∧ OnlyIn [.evr] s t)) ∧
  (∀ (s : State),
    s.evr.staged = [] →
    Does (.eventRecordWrite) s (fun t =>
      t = s)) ∧
  (∀ (s : State) (o : Offer) (rest : List Offer),
    s.up = true ∧ s.evr.ready = true ∧ s.evr.staged = o :: rest ∧ s.evr.dropRun = 0 ∧ o.ext = 0 ∧ NoMerge s.evr o →
    Does (.eventRecordWrite) s (fun t =>
      Table.get t.evr.recs {} (s.evr.next % 524288) = { seq := s.evr.next, code := o.code, src := o.src, rung := o.rung, epoch := o.epoch, mqFirst := o.mq, mqLast := o.mqLast, optime := o.optime, mtFirst := o.mt, mtLast := o.mtLast, pcyc := o.pcyc, args := o.args, upd := ((Table.get s.evr.recs {} (s.evr.next % 524288)).upd + 2) % 2 ^ 32 } ∧
      (t.evr.next = s.evr.next + 1 ∧ t.evr.staged = rest ∧ bitOf t.evr.pend 0 = true ∧ (o.rung ≠ 0 → bitOf t.evr.pend 1 = true) ∧ t.evr.merge.head? = some (o.src, o.code, o.args, s.evr.next) ∧ t.evr.epochSeq = s.evr.epochSeq ∧ t.evr.dropped = s.evr.dropped) ∧
      ((∀ k, k ≠ s.evr.next % 524288 → Table.get t.evr.recs {} k = Table.get s.evr.recs {} k)) ∧
      OnlyIn [.mode, .evr] s t)) ∧
  (∀ (s : State) (o : Offer) (rest : List Offer) (q : Nat),
    s.up = true ∧ s.evr.ready = true ∧ s.evr.staged = o :: rest ∧ s.evr.dropRun = 0 ∧ o.rep = true ∧ o.ext = 0 →
    s.evr.merge.find? (fun m => (m.1, m.2.1, m.2.2.1) == (o.src, o.code, o.args)) = some (o.src, o.code, o.args, q) ∧ (s.evr.current (q % 524288)).seq = q ∧ s.evr.epochSeq ≤ q ∧ (s.evr.current (q % 524288)).pcyc = o.pcyc ∧ (s.evr.current (q % 524288)).ext = 0 →
    Does (.eventRecordWrite) s (fun t =>
      t.evr.next = s.evr.next ∧ t.evr.recs = s.evr.recs ∧ t.evr.staged = rest ∧ t.evr.pend = s.evr.pend ∧ t.evr.merge.head? = some (o.src, o.code, o.args, q) ∧
      t.evr.current (q % 524288) = { s.evr.current (q % 524288) with repeats := min ((s.evr.current (q % 524288)).repeats + 1) (2 ^ 32 - 1), sat := (s.evr.current (q % 524288)).sat || decide (2 ^ 32 - 1 ≤ (s.evr.current (q % 524288)).repeats), mtLast := o.mt, mqLast := o.mq, optLast := min (o.optime - (s.evr.current (q % 524288)).optime) (2 ^ 32 - 1) } ∧
      OnlyIn [.mode, .evr] s t)) ∧
  (∀ (s : State) (o : Offer) (rest : List Offer) (k : Nat),
    s.up = true ∧ s.evr.ready = true ∧ s.evr.staged = o :: rest ∧ s.evr.dropRun = 0 ∧ k < o.ext ∧ o.ext ≤ 3 →
    Does (.eventRecordWrite) s (fun t =>
      t.evr.next = s.evr.next + 1 + o.ext ∧ (Table.get t.evr.recs {} (s.evr.next % 524288)).ext = o.ext ∧ t.evr.merge = s.evr.merge ∧
      (Table.get t.evr.recs {} ((s.evr.next + k + 1) % 524288)).seq = s.evr.next + k + 1 ∧ (Table.get t.evr.recs {} ((s.evr.next + k + 1) % 524288)).code = 0xB0FF ∧ (Table.get t.evr.recs {} ((s.evr.next + k + 1) % 524288)).part = k + 1 ∧
      OnlyIn [.mode, .evr] s t)) ∧
  (∀ (s : State) (o : Offer) (rest : List Offer),
    s.up = true ∧ s.evr.ready = true ∧ s.evr.staged = o :: rest ∧ s.evr.dropRun ≠ 0 →
    Does (.eventRecordWrite) s (fun t =>
      t.evr.staged.dropLast = rest ∧ t.evr.staged.getLast?.map (fun x => (x.code, x.args, x.mt, x.mtLast)) = some (0xB001, [s.evr.dropRun], s.evr.dropFirst, s.evr.dropLast) ∧ t.evr.dropRun = 0 ∧ t.evr.dropped = s.evr.dropped ∧
      OnlyIn [.mode, .evr] s t)) ∧
  (∀ (s : State) (q : Nat),
    s.up = true ∧ s.evr.ready = true ∧ s.evr.flushAt + 4000000 ≤ s.mer.raw ∧ s.evr.unflushed = [(q % 524288, s.evr.current (q % 524288))] →
    Does (.mergeFlush) s (fun t =>
      (t.evr.unflushed = [] ∧ t.evr.flushAt = s.mer.raw ∧ Table.get t.evr.recs {} (q % 524288) = { s.evr.current (q % 524288) with upd := ((Table.get s.evr.recs {} (q % 524288)).upd + 2) % 2 ^ 32 } ∧ (∀ k, k ≠ q % 524288 → Table.get t.evr.recs {} k = Table.get s.evr.recs {} k)) ∧
      t.evr.next = s.evr.next ∧ t.evr.staged = s.evr.staged ∧ OnlyIn [.evr] s t)) ∧
  (∀ (s : State),
    s.mer.raw < s.evr.flushAt + 4000000 →
    Does (.mergeFlush) s (fun t =>
      t = s)) ∧
  (∀ (s : State) (who : Who) (k : Nat),
    s.up = true ∧ s.mode.lifeCycle ≠ .retired ∧ s.leg.grant = some k ∧ s.evr.staged = [] →
    Does (.recorderClear who) s (fun t =>
      Answered t .ok 0 ∧ t.evr.epochSeq = s.evr.next ∧ t.evr.epoch = (s.evr.epoch + 1) % 2 ^ 32 ∧ t.evr.next = s.evr.next + 2 ∧ t.evr.merge = [] ∧
      (Table.get t.evr.recs {} (s.evr.next % 524288)).seq = s.evr.next ∧ (Table.get t.evr.recs {} (s.evr.next % 524288)).code = 0xB002 ∧ (Table.get t.evr.recs {} (s.evr.next % 524288)).src = k ∧ (Table.get t.evr.recs {} (s.evr.next % 524288)).epoch = true ∧ (Table.get t.evr.recs {} (s.evr.next % 524288)).args = [s.evr.epochSeq] ∧
      (Table.get t.evr.recs {} ((s.evr.next + 1) % 524288)).code = 0xA804 ∧ (Table.get t.evr.recs {} ((s.evr.next + 1) % 524288)).seq = s.evr.next + 1 ∧
      OnlyIn [.mode, .evr, .net, .leg, .sent] s t)) ∧
  (∀ (s : State) (who : Who) (k : Nat) (o : Offer),
    s.up = true ∧ s.mode.lifeCycle ≠ .retired ∧ s.leg.grant = some k ∧ s.evr.staged = [o] ∧ s.evr.dropRun = 0 ∧ o.ext = 0 ∧ o.rep = false →
    Does (.recorderClear who) s (fun t =>
      t.evr.staged = [] ∧ (Table.get t.evr.recs {} ((s.evr.next + 1) % 524288)).code = o.code ∧ (Table.get t.evr.recs {} ((s.evr.next + 1) % 524288)).mtFirst = o.mt ∧ (Table.get t.evr.recs {} ((s.evr.next + 2) % 524288)).code = 0xA804 ∧ t.evr.next = s.evr.next + 3 ∧
      OnlyIn [.mode, .evr, .net, .leg, .sent] s t)) ∧
  (∀ (s : State) (who : Who),
    s.up = true ∧ s.mode.lifeCycle ≠ .retired ∧ s.leg.grant = none ∧ who.token = none →
    Does (.recorderClear who) s (fun t =>
      Answered t .token 1 ∧ t.evr.epochSeq = s.evr.epochSeq ∧ t.evr.epoch = s.evr.epoch ∧ t.evr.recs = s.evr.recs ∧ t.evr.merge = s.evr.merge ∧ t.leg.tokenRefused = min (s.leg.tokenRefused + 1) (2 ^ 32 - 1) ∧
      OnlyIn [.mode, .evr, .net, .leg, .sent] s t)) ∧
  (∀ (s : State),
    s.up = true ∧ s.evr.ready = true →
    Does (.recorderZeroingDone) s (fun t =>
      t.evr = { s.evr with recs := s.evr.recs.filter (fun x => decide (s.evr.epochSeq ≤ x.2.seq)), wipeLeft := 0 } ∧ OnlyIn [.evr] s t))

/-- A GO starts an update while none runs and the reserve is at 4.2 V, writing START and latching the band and the frame, or is held, where a second GO merges. An update is full after power-on, after 20 of changed lines, after a band change, an interruption or FULL. Its end writes DONE, makes the shown frame the frame shown and starts the held update, the faceplate's first. At 3.0 V an update ends without DONE and 0xC003. Band, capacitance, key queue and the limits of page refresh follow their rules. (R399, R401, R402, R403, R406, R407, R408, R409, R410, R412, 16_cartouche_display.md Table 16-3, Table 16-5) -/
def Obligations.CartoucheUpdatesPanelsAndTakesKeys : Prop :=
  (∀ (s : State) (agent : Agent),
    s.up = true ∧ s.crt.update = none ∧ 4200 ≤ s.crt.reserveMv ∧ s.pwr.pfail = false →
    Does (.goFp agent) s (fun t =>
      t.crt.update.map (fun u => (u.external, u.band, u.frame, u.at_)) = some (false, s.crt.band, s.frameNow false, s.mer.raw) ∧ t.crt.markState = 1 ∧ t.crt.markSeq = (s.crt.markSeq + 1) % 2 ^ 32 ∧ t.crt.markPanel = 0 ∧ t.crt.markBand = s.crt.band ∧
      t.crt.update.map (·.full) = some (s.crt.full || s.crt.fp.fresh || decide (20 ≤ s.crt.fp.changed) || decide (s.crt.fp.band ≠ s.crt.band) || s.crt.fp.interrupted) ∧ t.crt.markKind = (if s.crt.full || s.crt.fp.fresh || decide (20 ≤ s.crt.fp.changed) || decide (s.crt.fp.band ≠ s.crt.band) || s.crt.fp.interrupted then 1 else 0) ∧
      t.crt.banner = (s.crt.banner || s.crt.fp.interrupted) ∧ t.crt.fp.held = false ∧ t.crt.fp.fresh = false ∧ t.crt.fp.interrupted = false ∧ t.crt.ext = s.crt.ext ∧ t.crt.shownFp = s.crt.shownFp ∧ SameMemory s t ∧ t.mem.own0.owner = 4 ∧ OnlyIn [.crt, .mem] s t)) ∧
  (∀ (s : State) (agent : Agent),
    s.up = true ∧ (s.crt.update.isSome = true ∨ s.crt.reserveMv < 4200) →
    Does (.goFp agent) s (fun t =>
      t.crt = { s.crt with fp := { s.crt.fp with held := true } } ∧ OnlyIn [.crt] s t)) ∧
  (∀ (s : State) (agent : Agent),
    s.up = true ∧ (s.crt.update.isSome = true ∨ s.crt.reserveMv < 4200) ∧ s.crt.present = true ∧ (field s.crt.extCfg 1 0 = 1 ∨ field s.crt.extCfg 1 0 = 2) →
    Does (.goExt agent) s (fun t =>
      t.crt = { s.crt with ext := { s.crt.ext with held := true } } ∧ OnlyIn [.crt] s t)) ∧
  (∀ (s : State) (agent : Agent),
    s.up = true ∧ s.crt.update = none ∧ 4200 ≤ s.crt.reserveMv ∧ s.pwr.pfail = false ∧ s.crt.present = true ∧ field s.crt.extCfg 1 0 = 1 ∧ s.crt.fp.held = false →
    Does (.goExt agent) s (fun t =>
      t.crt.update.map (fun u => (u.external, u.frame)) = some (true, s.frameNow true) ∧ t.crt.markState = 1 ∧ t.crt.markPanel = 1 ∧ t.crt.fp = s.crt.fp ∧ SameMemory s t ∧ OnlyIn [.crt, .mem] s t)) ∧
  (∀ (s : State) (agent : Agent),
    s.up = true ∧ s.crt.update = none ∧ 4200 ≤ s.crt.reserveMv ∧ s.pwr.pfail = false ∧ s.crt.present = true ∧ field s.crt.extCfg 1 0 = 2 ∧ s.crt.fp.held = false →
    Does (.goExt agent) s (fun t =>
      t.crt.scan = s.frameNow true ∧ t.crt.update = none ∧ t.crt.markState = s.crt.markState ∧ t.crt.markSeq = s.crt.markSeq ∧ bitOf t.crt.pend 0 = true ∧ OnlyIn [.crt] s t)) ∧
  (∀ (s : State) (agent : Agent),
    s.up = true ∧ (s.crt.present = false ∨ field s.crt.extCfg 1 0 = 0 ∨ field s.crt.extCfg 1 0 = 3) →
    Does (.goExt agent) s (fun t =>
      t = s)) ∧
  (∀ (s : State) (u : Update),
    s.crt.update = some u ∧ s.crt.late = [] ∧ s.crt.fp.held = false ∧ s.crt.ext.held = false ∧ s.mode.phase ≠ .off →
    Does (.cartoucheUpdateEnd) s (fun t =>
      t.crt.update = none ∧ t.crt.markState = 2 ∧ t.crt.markSeq = s.crt.markSeq ∧ (if u.external then t.crt.shownExt = u.frame else t.crt.shownFp = u.frame) ∧ bitOf t.crt.pend 0 = true ∧ t.crt.lastFirst = u.first ∧ t.crt.lastLast = u.last ∧
      ((∀ a, a < (if u.external then 0x1630000 else 0x1608000) → Memory.read t.mem.data a = Memory.read s.mem.data a) ∧ t.mem.own0.owner = 3 ∧ OnlyIn [.crt, .mem] s t))) ∧
  (∀ (s : State) (u : Update),
    s.up = true ∧ s.crt.update = some u ∧ s.crt.late = [] ∧ s.crt.fp.held = true ∧ 4200 ≤ s.crt.reserveMv ∧ s.pwr.pfail = false →
    Does (.cartoucheUpdateEnd) s (fun t =>
      t.crt.update.map (fun v => v.external) = some false ∧ t.crt.fp.held = false ∧ t.crt.ext.held = s.crt.ext.held ∧ t.crt.markState = 1 ∧ t.crt.markSeq = (s.crt.markSeq + 1) % 2 ^ 32 ∧
      OnlyIn [.freeCtr, .evr, .tri, .aio, .crt, .mem] s t)) ∧
  (∀ (s : State),
    s.crt.update = none →
    Does (.cartoucheUpdateEnd) s (fun t =>
      t = s)) ∧
  (∀ (s : State),
    s.up = true ∧ s.pwr.pfail = false ∧ s.crt.update = none ∧ s.crt.fp.held = true →
    Does (.reserveReady) s (fun t =>
      4200 ≤ t.crt.reserveMv ∧ t.crt.update.map (·.external) = some false ∧ t.crt.markState = 1 ∧ t.crt.fp.held = false ∧ OnlyIn [.crt, .mem] s t)) ∧
  (∀ (s : State),
    s.up = true ∧ s.crt.update = none ∧ s.crt.fp.held = false ∧ s.crt.ext.held = false →
    Does (.reserveReady) s (fun t =>
      t.crt = { s.crt with reserveMv := max s.crt.reserveMv 4200 } ∧ OnlyIn [.crt] s t)) ∧
  (∀ (s : State) (u : Update),
    s.crt.update = some u ∧ s.crt.late = [] →
    Does (.reserveExhausted) s (fun t =>
      t.crt = { s.crt with update := none, reserveMv := min s.crt.reserveMv 3000, pend := setBit s.crt.pend 2 true } ∧ t.crt.markState = s.crt.markState ∧ SameMemory s t ∧ t.mem.own0.owner = 3 ∧ Records s t 0xC003 [if u.external then 1 else 0] ∧ OnlyIn [.crt, .mem, .evr] s t)) ∧
  (∀ (s : State) (mF : Nat),
    s.up = true ∧ mF < 380 →
    Does (.reserveCapacityTest mF) s (fun t =>
      t.crt = { s.crt with capMf := mF, weak := true } ∧ Records s t 0xC002 [mF] ∧ OnlyIn [.crt, .evr] s t)) ∧
  (∀ (s : State) (mF : Nat),
    s.up = true ∧ 380 ≤ mF ∧ mF < 65536 →
    Does (.reserveCapacityTest mF) s (fun t =>
      t.crt = { s.crt with capMf := mF, weak := false } ∧ OnlyIn [.crt] s t)) ∧
  (∀ (s : State) (temp : Int) (k : Fin 8),
    s.up = true ∧ (k.val = 0 ∨ [-250, -100, 0, 100, 250, 400, 600].getD (k.val - 1) 0 ≤ temp) ∧ (k.val = 7 ∨ temp < [-250, -100, 0, 100, 250, 400, 600].getD k.val 0 - 20) →
    Does (.cartoucheTempMeasure temp) s (fun t =>
      t.crt = { s.crt with temp := temp, band := k } ∧ OnlyIn [.crt] s t)) ∧
  (∀ (s : State) (temp : Int) (k : Fin 8),
    s.up = true ∧ s.crt.band = k ∧ (k.val = 0 ∨ [-250, -100, 0, 100, 250, 400, 600].getD (k.val - 1) 0 - 20 ≤ temp) ∧ (k.val = 7 ∨ temp < [-250, -100, 0, 100, 250, 400, 600].getD k.val 0) →
    Does (.cartoucheTempMeasure temp) s (fun t =>
      t.crt = { s.crt with temp := temp } ∧ OnlyIn [.crt] s t)) ∧
  (∀ (s : State) (key : Fin 3) (long : Bool),
    s.up = true ∧ s.crt.keys.length < 8 →
    Does (.keyPress key long) s (fun t =>
      t.crt.keys = s.crt.keys ++ [key.val + (if long then 4 else 0)] ∧ bitOf t.crt.pend 1 = true ∧ t.crt.page = s.crt.page ∧ OnlyIn [.crt] s t)) ∧
  (∀ (s : State) (key : Fin 3) (long : Bool),
    s.up = true ∧ 8 ≤ s.crt.keys.length →
    Does (.keyPress key long) s (fun t =>
      t = s)) ∧
  (∀ (s : State) (agent : Agent),
    s.up = true ∧ s.crt.keys = [] →
    Does (.crtKeyRead agent) s (fun t =>
      t.crt = s.crt ∧ t.sent.head? = some (.busRead agent.code 0x4001101C 0) ∧ OnlyIn [.net, .sent] s t)) ∧
  (∀ (s : State) (agent : Agent) (ks : List Nat),
    s.up = true ∧ s.crt.keys = 0 :: ks ∧ s.crt.update = none ∧ s.aio.plate = none ∧ s.mode.mode ≠ .service →
    Does (.crtKeyRead agent) s (fun t =>
      t.crt.keys = ks ∧ t.crt.page = (s.crt.page + 1) % 3 ∧ t.crt.banner = false ∧ t.sent.head? = some (.busRead agent.code 0x4001101C (2 ^ 31)) ∧ OnlyIn [.crt, .net, .sent] s t)) ∧
  (∀ (s : State) (agent : Agent) (k : Nat) (ks : List Nat),
    s.up = true ∧ s.crt.keys = k :: ks ∧ s.crt.update.isSome = true →
    Does (.crtKeyRead agent) s (fun t =>
      t.crt = { s.crt with keys := ks, late := s.crt.late ++ [k] } ∧ t.sent.head? = some (.busRead agent.code 0x4001101C (k + 2 ^ 31)) ∧ OnlyIn [.crt, .net, .sent] s t)) ∧
  (∀ (s : State) (at_ : Nat),
    s.up = true ∧ s.crt.lastFp = some at_ ∧ s.mer.raw < at_ + 800000000 →
    Does (.pageRefresh) s (fun t =>
      t = s)) ∧
  (∀ (s : State),
    s.up = true ∧ s.crt.lastFp.all (fun at_ => decide (at_ + 800000000 ≤ s.mer.raw)) = true ∧ s.crt.update = none ∧ 4200 ≤ s.crt.reserveMv ∧ s.pwr.pfail = false →
    Does (.pageRefresh) s (fun t =>
      t.crt.update.map (·.external) = some false ∧ t.crt.markState = 1 ∧ t.crt.lastFp = some s.mer.raw ∧ OnlyIn [.crt, .mem] s t)) ∧
  (∀ (s : State) (who : Who),
    Asked s who 1 ∧ s.crt.update = none ∧ 4200 ≤ s.crt.reserveMv ∧ s.pwr.pfail = false ∧ s.crt.present = true ∧ field s.crt.extCfg 1 0 = 1 →
    Does (.fullRedraw who) s (fun t =>
      Answered t .ok 0 ∧ t.crt.update.map (fun u => (u.external, u.full, u.first, u.last)) = some (false, true, 0, 299) ∧ t.crt.ext.held = true ∧ t.crt.ext.fresh = true ∧ t.crt.markKind = 1 ∧
      OnlyIn [.freeCtr, .tri, .net, .crt, .mem, .sent] s t)) ∧
  (∀ (s : State) (who : Who),
    s.up = true ∧ s.mode.lifeCycle ≠ .retired ∧ who.level.val = 0 →
    Does (.fullRedraw who) s (fun t =>
      Answered t .privilege 1 ∧ t.crt = s.crt ∧
      OnlyIn [.freeCtr, .tri, .net, .crt, .mem, .sent] s t))

/-- A crystal that fails under the root moves the root to loop B on the fast RC with rung 4 and the non-maskable event; one not under it is only removed. The fast RC's failure under the root moves it to CLKIN at rung 15 or holds the module in reset with FAULT. A lost lock of loop A calls for rung 1 within the retries and rung 2 beyond. A completed switch counts, records 0xD006, and hands ρ the ratio so that M keeps its rate; loop A coasts, relocks and takes the root back after 1 ms. Trim steps on the root stay within 10 ppm in a second. (R413, R417, R418, R419, R420, R421, R422, 17_clocks_memory_power.md Table 17-4, Table 17-9, Table 17-15) -/
def Obligations.ClocksFallBackSwitchAndReturn : Prop :=
  (∀ (s : State) (err : Int),
    Charged s s.clk.xa ∧ s.clk.root = 0 ∧ s.clk.fastRc.ok = true →
    Does (.clockSourceFailure 2 err) s (fun t =>
      Gone t.clk.xa ∧ t.clk.xa.err = err ∧ t.clk.switching = some 2 ∧ t.clk.root = 0 ∧ t.clk.nmi = true ∧ bitOf t.clk.pend 0 = true ∧ t.clk.xb = s.clk.xb ∧ t.clk.fastRc = s.clk.fastRc ∧
      (t.openFault? 0 0xD001 0).map (·.rung) = some 4 ∧ Records s t 0xD001 [] ∧ OnlyIn [.clk, .mode, .evr] s t)) ∧
  (∀ (s : State) (err : Int),
    Charged s s.clk.xa ∧ s.clk.root ≠ 0 →
    Does (.clockSourceFailure 2 err) s (fun t =>
      (Gone t.clk.xa ∧ t.clk.root = s.clk.root ∧ t.clk.nmi = true ∧ (s.clk.aRef = 0 → t.clk.aLock = false ∧ t.clk.aCoast = true ∧ t.clk.aRef = 1 ∧ t.clk.returnFrom = none ∧ t.clk.switching ≠ some 0) ∧ (s.clk.aRef ≠ 0 → t.clk.switching = s.clk.switching ∧ t.clk.aLock = s.clk.aLock)) ∧
      (t.openFault? 0 0xD001 0).map (·.rung) = some 4 ∧ OnlyIn [.clk, .mode, .evr] s t)) ∧
  (∀ (s : State) (err : Int),
    Charged s s.clk.xb ∧ s.clk.root = 1 ∧ s.clk.fastRc.ok = true →
    Does (.clockSourceFailure 3 err) s (fun t =>
      Gone t.clk.xb ∧ t.clk.switching = some 2 ∧ t.clk.root = 1 ∧ t.clk.nmi = true ∧ (t.openFault? 0 0xD002 0).map (·.rung) = some 4 ∧ Records s t 0xD002 [] ∧ OnlyIn [.clk, .mode, .evr] s t)) ∧
  (∀ (s : State) (err : Int),
    Charged s s.clk.xb ∧ s.clk.root ≠ 1 →
    Does (.clockSourceFailure 3 err) s (fun t =>
      Gone t.clk.xb ∧ t.clk.root = s.clk.root ∧ t.clk.nmi = true ∧ t.mode = s.mode ∧ Records s t 0xD002 [] ∧ OnlyIn [.clk, .evr] s t)) ∧
  (∀ (s : State) (err : Int),
    Charged s s.clk.fastRc ∧ (s.clk.root = 0 ∨ s.clk.root = 1) ∧ s.clk.switching = none →
    Does (.clockSourceFailure 0 err) s (fun t =>
      Gone t.clk.fastRc ∧ t.clk.root = s.clk.root ∧ t.clk.switching = none ∧ t.clk.nmi = true ∧ (t.openFault? 0 0xD004 0).map (·.rung) = some 4 ∧ OnlyIn [.clk, .mode, .evr] s t)) ∧
  (∀ (s : State) (err : Int),
    Charged s s.clk.fastRc ∧ (s.clk.root = 2 ∨ s.clk.root = 4) ∧ s.clk.clkin.ok = true ∧ (field s.clk.ctrl 3 2 = 1 ∨ field s.clk.ctrl 3 2 = 2) →
    Does (.clockSourceFailure 0 err) s (fun t =>
      Gone t.clk.fastRc ∧ t.clk.switching = some 3 ∧ t.clk.nmi = true ∧ (t.openFault? 0 0xD004 0).map (·.rung) = some 15 ∧ Records s t 0xD004 [] ∧ OnlyIn [.clk, .mode, .evr] s t)) ∧
  (∀ (s : State) (err : Int),
    Charged s s.clk.fastRc ∧ (s.clk.root = 2 ∨ s.clk.root = 4) ∧ (s.clk.clkin.ok = false ∨ field s.clk.ctrl 3 2 = 0) →
    Does (.clockSourceFailure 0 err) s (fun t =>
      t.mode.phase = .held ∧ t.pwr.fault = true ∧ t.red.renewing = false ∧ t.evr.staged = [] ∧
      OnlyIn [.mode, .evr, .sys, .tri, .mer, .wpt, .tsk, .ring, .cen, .red, .wit, .net, .leg, .sur, .dio, .aio, .saf, .can, .crt, .clk, .mem, .pwr, .elems, .sent] s t)) ∧
  (∀ (s : State) (err : Int),
    Charged s s.clk.clkin ∧ s.clk.root = 3 ∧ (field s.clk.ctrl 3 2 = 1 ∨ field s.clk.ctrl 3 2 = 2) →
    Does (.clockSourceFailure 4 err) s (fun t =>
      t.mode.phase = .held ∧ t.pwr.fault = true ∧
      OnlyIn [.mode, .evr, .sys, .tri, .mer, .wpt, .tsk, .ring, .cen, .red, .wit, .net, .leg, .sur, .dio, .aio, .saf, .can, .crt, .clk, .mem, .pwr, .elems, .sent] s t)) ∧
  (∀ (s : State) (err : Int),
    Charged s s.clk.slowRc →
    Does (.clockSourceFailure 1 err) s (fun t =>
      Gone t.clk.slowRc ∧ t.clk.root = s.clk.root ∧ t.clk.switching = s.clk.switching ∧ t.clk.nmi = s.clk.nmi ∧ Records s t 0xD005 [] ∧ OnlyIn [.clk, .evr] s t)) ∧
  (∀ (s : State) (src : Fin 5) (err : Int),
    (s.clk.source src).failed = true ∨ (s.clk.source src).window = true →
    Does (.clockSourceFailure src err) s (fun t =>
      t = s)) ∧
  (∀ (s : State) (err : Int),
    Clocked s ∧ s.clk.xb.window = true ∧ s.clk.xb.failed = false →
    Does (.clockStartupWindowEnd 3 err) s (fun t =>
      t.clk = { s.clk with xb := { s.clk.xb with running := true, ok := true, window := false, err := err } } ∧ OnlyIn [.clk] s t)) ∧
  (∀ (s : State) (src : Fin 5) (err : Int),
    s.clk.source src = { s.clk.source src with window := false } ∨ src.val < 2 →
    Does (.clockStartupWindowEnd src err) s (fun t =>
      t = s)) ∧
  (∀ (s : State),
    Clocked s ∧ s.clk.xb.window = true ∧ s.clk.xb.failed = false ∧ s.clk.root ≠ 1 →
    Does (.clockStartupTimeout 3) s (fun t =>
      Gone t.clk.xb ∧ t.clk.nmi = true ∧ t.clk.root = s.clk.root ∧ Records s t 0xD002 [] ∧ OnlyIn [.clk, .evr] s t)) ∧
  (∀ (s : State) (src : Fin 5),
    s.clk.source src = { s.clk.source src with window := false } ∨ src.val < 2 →
    Does (.clockStartupTimeout src) s (fun t =>
      t = s)) ∧
  (∀ (s : State),
    Clocked s ∧ s.clk.aLock = true ∧ (s.clk.root = 0 ∨ s.clk.root = 1) ∧ s.clk.fastRc.ok = true ∧ (s.recentRetries 0).length < s.el 0x10031 0 3 →
    Does (.loopLockLost false) s (fun t =>
      t.clk = { s.clk with aLock := false, switching := some 2, returnFrom := none } ∧ (t.openFault? 0 0xD003 0).map (·.rung) = some 1 ∧ Records s t 0xD003 [0] ∧ OnlyIn [.clk, .mode, .evr] s t)) ∧
  (∀ (s : State),
    Clocked s ∧ s.clk.aLock = true ∧ (s.clk.root = 0 ∨ s.clk.root = 1) ∧ s.clk.fastRc.ok = true ∧ s.el 0x10031 0 3 ≤ (s.recentRetries 0).length →
    Does (.loopLockLost false) s (fun t =>
      t.clk = { s.clk with aLock := false, aStuck := true, switching := some 2, returnFrom := none } ∧ (t.openFault? 0 0x100A 0).map (·.rung) = some 2 ∧ Records s t 0x100A [0] ∧ OnlyIn [.clk, .mode, .evr] s t)) ∧
  (∀ (s : State),
    Clocked s ∧ s.clk.bLock = true →
    Does (.loopLockLost true) s (fun t =>
      t.clk = { s.clk with bLock := false, bCoast := true } ∧ (t.openFault? 0 0xD003 1).map (·.rung) = some 1 ∧ Records s t 0xD003 [1] ∧ OnlyIn [.clk, .mode, .evr] s t)) ∧
  (∀ (s : State) (lost : Fin 4) (dead : Bool) (xb rc clkin : Int),
    s.clk.switching = some 2 ∧ s.clk.root = 0 ∧ s.clk.xa.ok = false →
    0 < 100000000 + rc ∧ (1099511627776 + s.mer.rho) * 100000000 ≤ (1099511627776 + 2147483647) * (100000000 + rc) ∧ (1099511627776 - 2147483648) * (100000000 + rc) ≤ (1099511627776 + s.mer.rho) * 100000000 →
    Does (.rootSwitchComplete lost dead xb rc clkin) s (fun t =>
      (t.clk.root = 2 ∧ t.clk.switching = none ∧ t.clk.switches = min (s.clk.switches + 1) (2 ^ 32 - 1) ∧ t.clk.deadSw = (if dead then min (s.clk.deadSw + 1) (2 ^ 32 - 1) else s.clk.deadSw) ∧ bitOf t.clk.pend 1 = true ∧ (dead = true → bitOf t.clk.pend 2 = true)) ∧
      t.clk.aCoast = true ∧ t.clk.aLock = false ∧ t.clk.aRef = 1 ∧ t.clk.ratioRc = rc ∧ t.clk.ratioXb = xb ∧
      2 * ((1099511627776 + t.mer.rho) * (100000000 + rc) - (1099511627776 + s.mer.rho) * 100000000) ≤ 100000000 + rc ∧ -(100000000 + rc) ≤ 2 * ((1099511627776 + t.mer.rho) * (100000000 + rc) - (1099511627776 + s.mer.rho) * 100000000) ∧
      (Records s t 0xD006 [0, 2] ∧ (dead = true → Records s t 0xD007 []) ∧ OnlyIn [.clk, .mer, .evr] s t))) ∧
  (∀ (s : State) (lost : Fin 4) (dead : Bool) (xb rc clkin : Int),
    s.clk.switching = some 1 ∧ s.clk.root = 2 →
    0 < 100000000 + xb ∧ (1099511627776 + s.mer.rho) * (100000000 + rc) ≤ (1099511627776 + 2147483647) * (100000000 + xb) ∧ (1099511627776 - 2147483648) * (100000000 + xb) ≤ (1099511627776 + s.mer.rho) * (100000000 + rc) →
    Does (.rootSwitchComplete lost dead xb rc clkin) s (fun t =>
      t.clk.root = 1 ∧ t.clk.switching = none ∧ t.clk.aCoast = s.clk.aCoast ∧ t.clk.aLock = s.clk.aLock ∧
      2 * ((1099511627776 + t.mer.rho) * (100000000 + xb) - (1099511627776 + s.mer.rho) * (100000000 + rc)) ≤ 100000000 + xb ∧ -(100000000 + xb) ≤ 2 * ((1099511627776 + t.mer.rho) * (100000000 + xb) - (1099511627776 + s.mer.rho) * (100000000 + rc)) ∧
      Records s t 0xD006 [2, 1] ∧ OnlyIn [.clk, .mer, .evr] s t)) ∧
  (∀ (s : State) (lost : Fin 4) (dead : Bool) (xb rc clkin : Int),
    s.clk.switching = none →
    Does (.rootSwitchComplete lost dead xb rc clkin) s (fun t =>
      t = s)) ∧
  (∀ (s : State),
    Clocked s ∧ s.clk.aCoast = true ∧ s.clk.aStuck = false ∧ (if s.clk.aRef = 0 then s.clk.xa.ok = true else s.clk.xb.ok = true) →
    Does (.loopRelock) s (fun t =>
      t.clk = { s.clk with aCoast := false, aLock := true, returnFrom := some s.mer.raw } ∧ (t.openFault? 0 0xD003 0).isNone = true ∧ OnlyIn [.clk, .mode] s t)) ∧
  (∀ (s : State),
    s.clk.aCoast = false ∨ s.clk.aStuck = true →
    Does (.loopRelock) s (fun t =>
      t = s)) ∧
  (∀ (s : State) (since : Nat),
    Clocked s ∧ s.clk.aLock = true ∧ s.clk.switching = none ∧ s.clk.returnFrom = some since ∧ since + 400000 ≤ s.mer.raw →
    Does (.rootReturnToLoopA) s (fun t =>
      t.clk = { s.clk with switching := some s.clk.aRef, returnFrom := none } ∧ OnlyIn [.clk] s t)) ∧
  (∀ (s : State),
    s.clk.returnFrom = none ∨ s.clk.returnFrom.all (fun since => decide (s.mer.raw < since + 400000)) = true →
    Does (.rootReturnToLoopA) s (fun t =>
      t = s)) ∧
  (∀ (s : State) (step : Int) (code : Nat),
    Clocked s ∧ s.clk.fastRc.failed = false ∧ s.clk.xa.ok = true ∧ (s.clk.root = 0 ∨ s.clk.root = 1 ∨ s.clk.root = 3) ∧ code < 2 ^ 20 →
    Does (.rcTrimStep step 0 code) s (fun t =>
      t.clk = { s.clk with trimCode := code, trimRef := 1 } ∧ OnlyIn [.clk] s t)) ∧
  (∀ (s : State) (step : Int) (code : Nat),
    Clocked s ∧ s.clk.fastRc.failed = false ∧ s.clk.xa.ok = true ∧ (s.clk.root = 2 ∨ s.clk.root = 4) ∧ code < 2 ^ 20 ∧ s.clk.trimAt + 400000000 ≤ s.mer.raw ∧ step.natAbs ≤ 1000 →
    (1099511627776 + s.mer.rho) * 100000000 ≤ (1099511627776 + 2147483647) * (100000000 + step) ∧ (1099511627776 - 2147483648) * (100000000 + step) ≤ (1099511627776 + s.mer.rho) * 100000000 →
    Does (.rcTrimStep step 0 code) s (fun t =>
      t.clk = { s.clk with trimCode := code, trimRef := 1, trimUsed := step.natAbs, trimAt := s.mer.raw } ∧ OnlyIn [.clk, .mer] s t ∧
      2 * ((1099511627776 + t.mer.rho) * (100000000 + step) - (1099511627776 + s.mer.rho) * 100000000) ≤ 100000000 + step ∧ -(100000000 + step) ≤ 2 * ((1099511627776 + t.mer.rho) * (100000000 + step) - (1099511627776 + s.mer.rho) * 100000000))) ∧
  (∀ (s : State) (step : Int) (ref : Fin 3) (code : Nat),
    (s.clk.root = 2 ∨ s.clk.root = 4) ∧ s.mer.raw < s.clk.trimAt + 400000000 ∧ 1000 < s.clk.trimUsed + step.natAbs →
    Does (.rcTrimStep step ref code) s (fun t =>
      t = s))

/-- A corrected error is counted and recorded; an uncorrectable one is counted, noted and recorded with rung 1 in a triad private bank, a Survey record (whose quality becomes BAD) or a loop record (which enters HELD with cause 2), rung 3 elsewhere and at a second one in the word within 10 s. Only the owner of a handover bank gives it away; any other write is refused as one of a locked register. Tamper ends the renewals and stops the secure bank. (R423, R425, R426, 17_clocks_memory_power.md Table 17-10, Table 17-11, Table 17-15) -/
def Obligations.MemoryErrorsHandoverAndTamper : Prop :=
  (∀ (s : State) (b : Fin 49) (w : Nat),
    Clocked s ∧ w < 65536 →
    Does (.eccScrub (.sram b w) false) s (fun t =>
      t.mem = { s.mem with sramCe := min (s.mem.sramCe + 1) (2 ^ 32 - 1), sramAddr := w + b * 65536, pend := setBit s.mem.pend 0 true } ∧ Records s t 0xD010 [b.val] ∧ OnlyIn [.mem, .evr] s t)) ∧
  (∀ (s : State) (w : Nat),
    Clocked s →
    Does (.eccScrub (.dram w) false) s (fun t =>
      t.mem = { s.mem with dramCe := min (s.mem.dramCe + 1) (2 ^ 32 - 1), pend := setBit s.mem.pend 0 true } ∧ Records s t 0xD014 [] ∧ OnlyIn [.mem, .evr] s t)) ∧
  (∀ (s : State) (w : Nat),
    Clocked s →
    Does (.eccScrub (.dram w) true) s (fun t =>
      t.mem.dramUe = min (s.mem.dramUe + 1) (2 ^ 32 - 1) ∧ bitOf t.mem.pend 1 = true ∧ SameMemory s t ∧ (t.openFault? 0 0xD015 0).map (·.rung) = some 3 ∧ Records s t 0xD015 [] ∧ OnlyIn [.mem, .mode, .evr] s t)) ∧
  /- a Survey record -/ (∀ (s : State) (b : Fin 49) (w : Nat),
    Clocked s ∧ w < 65536 ∧ b.val < 16 ∧ Table.find s.mem.lastUe (b * 524288 + w * 8) = none →
    Does (.eccScrub (.sram b w) true) s (fun t =>
      t.mem.sramUe = min (s.mem.sramUe + 1) (2 ^ 32 - 1) ∧ t.mem.sramAddr = w + b * 65536 + 2 ^ 31 ∧ t.mem.bad.contains (b * 524288 + w * 8) = true ∧ bitOf t.mem.pend 1 = true ∧
      (qCode (t.record ((b * 524288 + w * 8) / 16)).quality = qBad ∧ (∀ p, p ≠ (b * 524288 + w * 8) / 16 → t.record p = s.record p)) ∧
      (t.openFault? 0 0xD012 (b * 524288 + w * 8)).map (·.rung) = some 1 ∧ Records s t 0xD012 [b.val, w] ∧ OnlyIn [.mem, .sur, .mode, .evr] s t)) ∧
  /- a loop record -/ (∀ (s : State) (b : Fin 49) (w : Nat),
    Clocked s ∧ w < 65536 ∧ 16 ≤ b.val ∧ b.val < 20 ∧ Table.find s.mem.lastUe (b * 524288 + w * 8) = none →
    Does (.eccScrub (.sram b w) true) s (fun t =>
      (t.loop ((b * 524288 + w * 8 - 8388608) / 512)).modeAct = mHeld ∧ bitOf (t.loop ((b * 524288 + w * 8 - 8388608) / 512)).heldSet 2 = true ∧ (t.openFault? 0 0xD012 (b * 524288 + w * 8)).map (·.rung) = some 1 ∧ OnlyIn [.mem, .cen, .mode, .evr] s t)) ∧
  /- a triad private bank -/ (∀ (s : State) (b : Fin 49) (w : Nat),
    Clocked s ∧ w < 65536 ∧ 24 ≤ b.val ∧ b.val < 36 ∧ Table.find s.mem.lastUe (b * 524288 + w * 8) = none →
    Does (.eccScrub (.sram b w) true) s (fun t =>
      (t.openFault? 0 0xD012 (b * 524288 + w * 8)).map (·.rung) = some 1 ∧ t.mem.bad.contains (b * 524288 + w * 8) = true ∧ SameMemory s t ∧ OnlyIn [.mem, .mode, .evr] s t)) ∧
  /- elsewhere -/ (∀ (s : State) (b : Fin 49) (w : Nat),
    Clocked s ∧ w < 65536 ∧ (36 ≤ b.val ∨ (20 ≤ b.val ∧ b.val < 24)) →
    Does (.eccScrub (.sram b w) true) s (fun t =>
      (t.openFault? 0 0xD012 (b * 524288 + w * 8)).map (·.rung) = some 3 ∧ SameMemory s t ∧ OnlyIn [.mem, .mode, .evr] s t)) ∧
  /- a second one within 10 s -/ (∀ (s : State) (b : Fin 49) (w : Nat) (at_ : Nat),
    Clocked s ∧ w < 65536 ∧ Table.find s.mem.lastUe (b * 524288 + w * 8) = some at_ ∧ s.mer.raw < at_ + 4000000000 →
    Does (.eccScrub (.sram b w) true) s (fun t =>
      (t.openFault? 0 0xD012 (b * 524288 + w * 8)).map (·.rung) = some 3 ∧
      OnlyIn [.mode, .evr, .cen, .sur, .mem] s t)) ∧
  (∀ (s : State) (site : EccSite) (uncorrectable : Bool),
    s.mode.phase = .off ∨ s.mode.phase = .charging ∨ s.mode.phase = .held →
    Does (.eccScrub site uncorrectable) s (fun t =>
      t = s)) ∧
  (∀ (s : State) (agent : Agent) (k : Fin 4) (owner : Fin 8),
    s.up = true ∧ k.val ≠ 1 ∧ (s.mem.own k).owner = agent.code →
    Does (.memOwnWrite agent k owner) s (fun t =>
      (t.mem.own k = { owner := owner, transferring := true } ∧ (∀ j, j < 4 → j ≠ k.val → t.mem.own j = s.mem.own j) ∧ SameMemory s t ∧ OnlyIn [.mem] s t))) ∧
  (∀ (s : State) (agent : Agent) (k : Fin 4) (owner : Fin 8),
    s.up = true ∧ (k.val = 1 ∨ (s.mem.own k).owner ≠ agent.code) →
    Does (.memOwnWrite agent k owner) s (fun t =>
      t.mem = s.mem ∧ t.sys.errCause = 4 ∧ t.sys.errAgent = agent.code ∧ t.sys.errAddr = 0x40013020 + 4 * k ∧ t.sys.errCnt = min (s.sys.errCnt + 1) (2 ^ 32 - 1) ∧ Records s t 0xF001 [0x13, 0x20 + 4 * k, agent.code] ∧ OnlyIn [.sys, .evr] s t)) ∧
  (∀ (s : State) (k : Fin 4),
    s.up = true →
    Does (.ownerTransferComplete k) s (fun t =>
      (t.mem.own k = { owner := (s.mem.own k).owner, transferring := false } ∧ (∀ j, j < 4 → j ≠ k.val → t.mem.own j = s.mem.own j) ∧ SameMemory s t ∧ OnlyIn [.mem] s t))) ∧
  (∀ (s : State) (cause : Nat),
    Clocked s →
    Does (.tamper cause) s (fun t =>
      t.mem.tamper = true ∧ t.mem.secureReady = false ∧ bitOf t.mem.pend 2 = true ∧ t.red.renewing = false ∧ t.red.permitAt = none ∧ SameMemory s t ∧
      (t.openFault? 0 0xD013 0).map (·.rung) = some 3 ∧ Records s t 0xD013 [cause] ∧ OnlyIn [.mem, .red, .mode, .evr] s t))

/-- An input below 17.0 V is lost and one at 18.0 V restored; above 34 V it is isolated and below 33 V reconnected, each as PWR_STATUS shows it and with its event. PFAIL counts the sequence, stops renewals, tasks and exchanges, takes digital outputs off, analogue outputs to zero and every safety pair down; its end writes operating seconds and everything staged and asserts reset. Supply at 18 V restarts at step 1, also on insertion; removal runs the sequence. Only CODE 1 to 10 moves the core set point. (R428, R430, R432, R112, R386, R454, 17_clocks_memory_power.md Table 17-7, Table 17-12) -/
def Obligations.SupplyInputsAndPowerDownFollowTheirRules : Prop :=
  (∀ (s : State) (mv : Nat),
    Clocked s ∧ s.pwr.inaOk = true ∧ mv < 17000 →
    Does (.supplyInputLost 0 mv) s (fun t =>
      t.pwr = { s.pwr with ina := mv, inaOk := false, pend := setBit s.pwr.pend 0 true } ∧ Records s t 0xD021 [0] ∧ OnlyIn [.pwr, .evr] s t)) ∧
  (∀ (s : State) (mv : Nat),
    Clocked s ∧ s.pwr.inbOk = true ∧ mv < 17000 →
    Does (.supplyInputLost 1 mv) s (fun t =>
      t.pwr = { s.pwr with inb := mv, inbOk := false, pend := setBit s.pwr.pend 0 true } ∧ Records s t 0xD021 [1] ∧ OnlyIn [.pwr, .evr] s t)) ∧
  (∀ (s : State) (i : Fin 2) (mv : Nat),
    s.pwr.ok i = false ∨ 17000 ≤ mv →
    Does (.supplyInputLost i mv) s (fun t =>
      t = s)) ∧
  (∀ (s : State) (mv : Nat),
    Clocked s ∧ s.pwr.inaOk = false ∧ 18000 ≤ mv →
    Does (.supplyInputRestored 0 mv) s (fun t =>
      t.pwr = { s.pwr with ina := mv, inaOk := true, pend := setBit s.pwr.pend 0 true } ∧ Records s t 0xD022 [0] ∧ OnlyIn [.pwr, .evr] s t)) ∧
  (∀ (s : State) (mv : Nat),
    Clocked s ∧ s.pwr.inbOk = false ∧ 18000 ≤ mv →
    Does (.supplyInputRestored 1 mv) s (fun t =>
      t.pwr = { s.pwr with inb := mv, inbOk := true, pend := setBit s.pwr.pend 0 true } ∧ Records s t 0xD022 [1] ∧ OnlyIn [.pwr, .evr] s t)) ∧
  (∀ (s : State) (mv : Nat),
    Clocked s ∧ s.pwr.inaIso = false ∧ 34000 < mv →
    Does (.supplyInputOvervoltage 0 mv) s (fun t =>
      t.pwr = { s.pwr with ina := mv, inaIso := true, pend := setBit s.pwr.pend 0 true } ∧ Records s t 0xD023 [0] ∧ OnlyIn [.pwr, .evr] s t)) ∧
  (∀ (s : State) (mv : Nat),
    Clocked s ∧ s.pwr.inbIso = false ∧ 34000 < mv →
    Does (.supplyInputOvervoltage 1 mv) s (fun t =>
      t.pwr = { s.pwr with inb := mv, inbIso := true, pend := setBit s.pwr.pend 0 true } ∧ Records s t 0xD023 [1] ∧ OnlyIn [.pwr, .evr] s t)) ∧
  (∀ (s : State) (mv : Nat),
    Clocked s ∧ s.pwr.inbIso = true ∧ mv < 33000 →
    Does (.supplyInputReconnect 1 mv) s (fun t =>
      t.pwr = { s.pwr with inb := mv, inbIso := false, pend := setBit s.pwr.pend 0 true } ∧ OnlyIn [.pwr] s t)) ∧
  (∀ (s : State) (i : Fin 2) (mv : Nat),
    s.pwr.iso i = false ∨ 33000 ≤ mv →
    Does (.supplyInputReconnect i mv) s (fun t =>
      t = s)) ∧
  (∀ (s : State),
    s.mode.phase = .up ∨ s.mode.phase = .boot →
    Does (.pfail) s (fun t =>
      t.mode.phase = .pfail ∧ t.pwr = { s.pwr with pfail := true, pfails := min (s.pwr.pfails + 1) (2 ^ 32 - 1), pend := setBit s.pwr.pend 1 true } ∧ t.red.renewing = false ∧ t.red.permitAt = none ∧ t.red.ownRenew = none ∧ t.ring.exchanges = [] ∧ t.mode.trans = none ∧
      ((∀ n, n < 32 → s.dioIsOut n = true → s.dioBase n = n → (t.dioCh n).cmd = false) ∧ (∀ n, n < 8 → bitOf (s.aoCfg n) 0 = true → (t.aoCh n).iCmd = F64.zero) ∧ (∀ p, p < 4 → (t.safPair p).energised = false)) ∧
      Records s t 0xD020 [s.pwr.ina, s.pwr.inb] ∧ SameMemory s t ∧
      OnlyIn [.mode, .evr, .tri, .tsk, .ring, .cen, .red, .sur, .dio, .aio, .saf, .mem, .pwr] s t)) ∧
  (∀ (s : State),
    s.mode.phase = .charging ∨ s.mode.phase = .held →
    Does (.pfail) s (fun t =>
      t.mode = { s.mode with phase := .off } ∧ OnlyIn [.mode] s t)) ∧
  (∀ (s : State),
    s.mode.phase = .off ∨ s.mode.phase = .pfail →
    Does (.pfail) s (fun t =>
      t = s)) ∧
  (∀ (s : State),
    s.mode.phase = .pfail →
    Does (.powerDownReset) s (fun t =>
      t.mode.phase = .off ∧ t.mer.opSecs = max s.mer.opSecs (s.mer.opMs / 1000) ∧ t.mer.running = false ∧ t.evr.staged = [] ∧ t.evr.unflushed = [] ∧ t.evr.ready = false ∧ t.evr.epochSeq = s.evr.epochSeq ∧ t.clk.root = 4 ∧ t.pwr.pfail = false ∧
      ((∀ n, n < 32 → (t.dioCh n).cmd = false) ∧ (∀ p, p < 4 → (t.safPair p).energised = false) ∧ t.red.renewing = false ∧ t.tri = {} ∧ t.wpt = {}) ∧
      OnlyIn [.mode, .evr, .sys, .tri, .mer, .wpt, .tsk, .ring, .cen, .red, .wit, .net, .leg, .sur, .dio, .aio, .saf, .can, .crt, .clk, .mem, .pwr, .elems, .sent] s t)) ∧
  (∀ (s : State) (o : Offer),
    s.mode.phase = .pfail ∧ s.evr.staged = [o] ∧ s.evr.dropRun = 0 ∧ o.rep = false ∧ o.ext = 0 →
    Does (.powerDownReset) s (fun t =>
      t.evr.next = s.evr.next + 1 ∧ (Table.get t.evr.recs {} (s.evr.next % 524288)).seq = s.evr.next ∧ (Table.get t.evr.recs {} (s.evr.next % 524288)).code = o.code ∧
      OnlyIn [.mode, .evr, .sys, .tri, .mer, .wpt, .tsk, .ring, .cen, .red, .wit, .net, .leg, .sur, .dio, .aio, .saf, .can, .crt, .clk, .mem, .pwr, .elems, .sent] s t)) ∧
  (∀ (s : State),
    s.mode.phase ≠ .pfail →
    Does (.powerDownReset) s (fun t =>
      t = s)) ∧
  (∀ (s : State) (ina inb : Nat),
    s.mode.phase = .off ∧ s.pwr.inserted = true ∧ (18000 ≤ ina ∨ 18000 ≤ inb) →
    Does (.supplyReturnRestart ina inb) s (fun t =>
      t.mode = { s.mode with phase := .charging } ∧ t.pwr.ina = ina ∧ t.pwr.inb = inb ∧ t.pwr.pfail = false ∧ t.clk.root = 4 ∧ t.clk.fastRc.ok = true ∧ t.clk.slowRc.ok = true ∧ t.crt.fp.fresh = true ∧ t.crt.ext.fresh = true ∧ OnlyIn [.mode, .pwr, .clk, .crt] s t)) ∧
  (∀ (s : State) (ina inb : Nat),
    s.mode.phase ≠ .off ∨ s.pwr.inserted = false ∨ (ina < 18000 ∧ inb < 18000) →
    Does (.supplyReturnRestart ina inb) s (fun t =>
      t = s)) ∧
  (∀ (s : State),
    s.pwr.inserted = false ∧ s.mode.phase = .off ∧ (18000 ≤ s.pwr.ina ∨ 18000 ≤ s.pwr.inb) →
    Does (.moduleInserted) s (fun t =>
      t.pwr.inserted = true ∧ t.mode = { s.mode with phase := .charging } ∧ t.clk.root = 4 ∧ t.clk.fastRc.ok = true ∧ OnlyIn [.mode, .pwr, .clk, .crt] s t)) ∧
  (∀ (s : State),
    s.pwr.inserted = false ∧ s.mode.phase = .off ∧ s.pwr.ina < 18000 ∧ s.pwr.inb < 18000 →
    Does (.moduleInserted) s (fun t =>
      t.pwr = { s.pwr with inserted := true } ∧ OnlyIn [.pwr] s t)) ∧
  (∀ (s : State),
    s.mode.phase = .up ∨ s.mode.phase = .boot →
    Does (.moduleRemoved) s (fun t =>
      (t.mode.phase = .pfail ∧ t.pwr.inserted = false ∧ t.pwr.pfail = true ∧ t.red.renewing = false ∧ t.ring.exchanges = [] ∧ (∀ n, n < 32 → s.dioIsOut n = true → s.dioBase n = n → (t.dioCh n).cmd = false) ∧ (∀ p, p < 4 → (t.safPair p).energised = false) ∧ Records s t 0xD020 [s.pwr.ina, s.pwr.inb]) ∧
      OnlyIn [.mode, .evr, .tri, .tsk, .ring, .cen, .red, .sur, .dio, .aio, .saf, .mem, .pwr] s t)) ∧
  (∀ (s : State),
    s.mode.phase = .off ∨ s.mode.phase = .pfail →
    Does (.moduleRemoved) s (fun t =>
      t.pwr = { s.pwr with inserted := false } ∧ OnlyIn [.pwr] s t)) ∧
  (∀ (s : State) (agent : Agent) (code : Nat),
    s.up = true ∧ 1 ≤ code ∧ code ≤ 10 →
    Does (.vcoreSetWrite agent code) s (fun t =>
      t.pwr = { s.pwr with code := code } ∧ OnlyIn [.pwr] s t)) ∧
  (∀ (s : State) (agent : Agent) (code : Nat),
    code = 0 ∨ (11 ≤ code ∧ code < 16) →
    Does (.vcoreSetWrite agent code) s (fun t =>
      t = s))

/-- An unaligned, badly sized or reserved access has no effect but its note and event. Locked fields, a trim outside SERVICE and a second write of the asset tag are refused WRITE-PROTECT; a mixed register takes a write that changes no locked field. The high half of a pair waits on a communication core for its low half, and 64-bit writes are atomic. Alias words act by access code. A snapshot is armed, refused, overrun, taken at the first tick past its instant and copied. The scrub restores a copy that differs and reports a field without majority. (R180, R437, R438, R440, R441, R442, R444, R445, R446, 18_register_interface.md Table 18-2, Table 18-3, Table 18-4) -/
def Obligations.RegistersAliasesSnapshotsAndTriplicatedFields : Prop :=
  (∀ (s : State) (agent : Agent) (addr value : Nat) (width : Fin 4),
    s.up = true ∧ 0x40000000 ≤ addr ∧ addr < 0x40100000 ∧ addr % 2 ^ width.val ≠ 0 →
    Does (.registerWrite agent addr width value) s (fun t =>
      BusErr s t agent 1 addr ∧ Records s t 0xF004 [1, addr, agent.code])) ∧
  (∀ (s : State) (agent : Agent) (f o value : Nat),
    s.up = true ∧ ((21 ≤ f ∧ f < 0x80) ∨ (0x95 ≤ f ∧ f < 0x100)) ∧ o < 0x1000 ∧ o % 4 = 0 →
    Does (.registerWrite agent (0x40000000 + f * 0x1000 + o) 2 value) s (fun t =>
      BusErr s t agent 3 (0x40000000 + f * 0x1000 + o) ∧ Records s t 0xF004 [3, 0x40000000 + f * 0x1000 + o, agent.code])) ∧
  (∀ (s : State) (agent : Agent) (f o value : Nat),
    s.up = true ∧ 0x80 ≤ f ∧ f < 0x95 ∧ o < 0x1000 ∧ o % 4 = 0 →
    Does (.registerWrite agent (0x40000000 + f * 0x1000 + o) 2 value) s (fun t =>
      BusErr s t agent 3 (0x40000000 + f * 0x1000 + o))) ∧
  (∀ (s : State) (agent : Agent) (f o value : Nat) (width : Fin 2),
    s.up = true ∧ f < 21 ∧ o < 0x1000 ∧ o % 2 ^ width.val = 0 ∧ (regDesc f (o / 4 * 4)).isSome = true →
    Does (.registerWrite agent (0x40000000 + f * 0x1000 + o) ⟨width.val, by omega⟩ value) s (fun t =>
      BusErr s t agent 2 (0x40000000 + f * 0x1000 + o) ∧ Records s t 0xF004 [2, 0x40000000 + f * 0x1000 + o, agent.code])) ∧
  (∀ (s : State) (agent : Agent) (k : Nat),
    s.up = true ∧ k < 2 ^ 32 ∧ s.sys.tmr = [] →
    Does (.registerWrite agent 0x4000100C 2 k) s (fun t =>
      t.tri.skewK = (if 20 ≤ k % 2048 ∧ k % 2048 ≤ 2000 then k % 2048 else s.tri.skewK) ∧ OnlyIn [.tri] s t)) ∧
  (∀ (s : State) (agent : Agent) (value : Nat),
    s.up = true ∧ value < 2 ^ 32 ∧ s.sys.tmr = [] →
    Does (.registerWrite agent 0x40010008 2 value) s (fun t =>
      t.evr = { s.evr with pend := s.evr.pend - (s.evr.pend &&& value) } ∧ OnlyIn [.evr] s t)) ∧
  (∀ (s : State) (agent : Agent) (value : Nat),
    s.up = true ∧ value < 2 ^ 32 ∧ s.sys.tmr = [] →
    Does (.registerWrite agent 0x40003030 2 value) s (fun t =>
      ((t.sys.bank agent).cenGrpSel = (if value < 256 then value else (s.sys.bank agent).cenGrpSel) ∧ (agent ≠ .triad → t.sys.triad = s.sys.triad) ∧ (agent ≠ .cc0 → t.sys.cc0 = s.sys.cc0) ∧ (agent ≠ .cc1 → t.sys.cc1 = s.sys.cc1) ∧ OnlyIn [.sys] s t))) ∧
  /- a lock -/ (∀ (s : State) (agent : Agent) (n : Fin 32) (value : Nat),
    s.up = true ∧ s.sys.armed = true ∧ s.sys.window = false ∧ value < 2 ^ 32 →
    Does (.registerWrite agent (0x40007100 + 0x10 * n) 2 value) s (fun t =>
      Protected s t agent 7 (0x100 + 0x10 * n))) ∧
  (∀ (s : State) (agent : Agent) (n : Fin 32) (value : Nat),
    s.up = true ∧ (s.sys.armed = false ∨ s.sys.window = true) ∧ value < 2 ^ 32 ∧ s.sys.tmr = [] →
    Does (.registerWrite agent (0x40007100 + 0x10 * n) 2 value) s (fun t =>
      (Table.get t.dio.cfg 0 n = value % 16384 ∧ (∀ k, k < 32 → k ≠ n.val → Table.get t.dio.cfg 0 k = Table.get s.dio.cfg 0 k) ∧ OnlyIn [.dio] s t))) ∧
  /- a register that mixes locked and other fields -/ (∀ (s : State) (agent : Agent) (value : Nat),
    s.up = true ∧ s.sys.armed = true ∧ s.sys.window = false ∧ value < 2 ^ 32 ∧ s.sys.tmr = [] ∧ s.clk.ctrl < 128 →
    Does (.registerWrite agent 0x40012004 2 value) s (fun t =>
      (if value % 128 / 4 = s.clk.ctrl / 4 then t.clk = { s.clk with ctrl := value % 128 } ∧ OnlyIn [.clk] s t else Protected s t agent 0x12 4))) ∧
  /- the asset tag -/ (∀ (s : State) (agent : Agent) (value : Nat),
    s.up = true ∧ s.sys.assetWritten = false ∧ value < 2 ^ 64 →
    Does (.registerWrite agent 0x40000020 3 value) s (fun t =>
      t.sys = { s.sys with asset := value, assetWritten := true } ∧ OnlyIn [.sys] s t)) ∧
  (∀ (s : State) (agent : Agent) (value : Nat),
    s.up = true ∧ s.sys.assetWritten = true →
    Does (.registerWrite agent 0x40000020 3 value) s (fun t =>
      Protected s t agent 0 0x20 ∧ t.sys.asset = s.sys.asset)) ∧
  /- an analogue trim -/ (∀ (s : State) (agent : Agent) (n : Fin 8) (value : Nat),
    s.up = true ∧ s.mode.mode ≠ .service →
    Does (.registerWrite agent (0x4000810C + 0x20 * n) 2 value) s (fun t =>
      Protected s t agent 8 (0x10C + 0x20 * n))) ∧
  /- a pair -/ (∀ (s : State) (agent : Agent) (value : Nat),
    s.up = true ∧ agent ≠ .triad ∧ value < 2 ^ 32 →
    Does (.registerWrite agent 0x4000003C 2 value) s (fun t =>
      t.sys.snapAt = s.sys.snapAt ∧ Table.find (t.sys.bank agent).heldHigh 0x3C = some value ∧ OnlyIn [.sys] s t)) ∧
  (∀ (s : State) (agent : Agent) (value high : Nat),
    s.up = true ∧ agent ≠ .triad ∧ value < 2 ^ 32 ∧ Table.find (s.sys.bank agent).heldHigh 0x3C = some high →
    Does (.registerWrite agent 0x40000038 2 value) s (fun t =>
      t.sys.snapAt = value + high * 2 ^ 32 ∧ Table.find (t.sys.bank agent).heldHigh 0x3C = none ∧ OnlyIn [.sys] s t)) ∧
  (∀ (s : State) (value : Nat),
    s.up = true ∧ value < 2 ^ 32 ∧ s.sys.snapAt < 2 ^ 64 →
    Does (.registerWrite .triad 0x40000038 2 value) s (fun t =>
      t.sys.snapAt = value + s.sys.snapAt / 2 ^ 32 * 2 ^ 32 ∧ OnlyIn [.sys] s t)) ∧
  (∀ (s : State) (agent : Agent) (value : Nat),
    s.up = true ∧ value < 2 ^ 64 →
    Does (.registerWrite agent 0x40000038 3 value) s (fun t =>
      t.sys.snapAt = value ∧ OnlyIn [.sys] s t)) ∧
  /- the alias of an RW bit -/ (∀ (s : State) (agent : Agent) (b : Fin 2) (value : Nat),
    s.up = true ∧ s.tri.ctrl < 4 ∧ s.sys.tmr = [] →
    Does (.bitAliasWrite agent (0x42000000 + (0x1004 * 32 + b) * 4) value) s (fun t =>
      t.tri = { s.tri with ctrl := setBit s.tri.ctrl b (value % 2 = 1) } ∧ OnlyIn [.tri] s t)) ∧
  /- the alias of a W1C bit -/ (∀ (s : State) (agent : Agent) (b : Fin 3) (value : Nat),
    s.up = true ∧ s.sys.tmr = [] →
    Does (.bitAliasWrite agent (0x42000000 + (0x10008 * 32 + b) * 4) value) s (fun t =>
      ((value % 2 = 1 → t.evr = { s.evr with pend := s.evr.pend - (s.evr.pend &&& 2 ^ b.val) } ∧ OnlyIn [.evr] s t) ∧ (value % 2 = 0 → t = s)))) ∧
  /- the alias of an RO bit -/ (∀ (s : State) (agent : Agent) (b : Fin 32) (value : Nat),
    s.up = true →
    Does (.bitAliasWrite agent (0x42000000 + (0x1000 * 32 + b) * 4) value) s (fun t =>
      t = s)) ∧
  /- the alias of a reserved location, or of an offset that is no multiple of 4 -/ (∀ (s : State) (agent : Agent) (o : Nat) (b : Fin 32) (value : Nat),
    s.up = true ∧ o < 0x100000 ∧ (o % 4 ≠ 0 ∨ regDesc (o / 0x1000) (o % 0x1000) = none) →
    Does (.bitAliasWrite agent (0x42000000 + (o * 32 + b) * 4) value) s (fun t =>
      BusErr s t agent 3 (0x42000000 + (o * 32 + b) * 4) ∧ t.sys.errAlias = true)) ∧
  (∀ (s : State) (agent : Agent),
    s.up = true ∧ s.sys.snapArmed = false ∧ s.sys.snapBusy = false ∧ (s.sys.snapAt = 0 ∨ (s.now + 5000 ≤ toSigned 64 s.sys.snapAt ∧ toSigned 64 s.sys.snapAt ≤ s.now + 10000000000)) →
    Does (.snapshotGo agent) s (fun t =>
      (t.sys.snapArmed = true ∧ t.sys.snapRefused = false ∧ t.sys.snapOverrun = false ∧ (toSigned 64 s.sys.snapAt ≠ 0 → t.sys.snapDue = toSigned 64 s.sys.snapAt) ∧ (s.sys.snapAt = 0 → s.now < t.sys.snapDue ∧ t.sys.snapDue ≤ s.now + 2) ∧ OnlyIn [.sys] s t))) ∧
  (∀ (s : State) (agent : Agent),
    s.up = true ∧ s.sys.snapArmed = false ∧ s.sys.snapBusy = false ∧ toSigned 64 s.sys.snapAt ≠ 0 ∧ (toSigned 64 s.sys.snapAt < s.now + 5000 ∨ s.now + 10000000000 < toSigned 64 s.sys.snapAt) →
    Does (.snapshotGo agent) s (fun t =>
      t.sys = { s.sys with snapRefused := true } ∧ Records s t 0xF005 [0] ∧ OnlyIn [.sys, .evr] s t)) ∧
  (∀ (s : State) (agent : Agent),
    s.up = true ∧ (s.sys.snapArmed = true ∨ s.sys.snapBusy = true) →
    Does (.snapshotGo agent) s (fun t =>
      t.sys = { s.sys with snapOverrun := true } ∧ Records s t 0xF005 [1] ∧ OnlyIn [.sys, .evr] s t)) ∧
  (∀ (s : State) (who : Who) (instant : MTime),
    Asked s who 1 ∧ s.sys.snapArmed = false ∧ s.sys.snapBusy = false ∧ s.now + 5000 ≤ instant ∧ instant ≤ s.now + 10000000000 ∧ instant ≠ 0 →
    Does (.snapshotCommand who instant) s (fun t =>
      Answered t .ok 0 ∧ t.sys.snapArmed = true ∧ t.sys.snapDue = instant ∧
      OnlyIn [.sys, .net, .sent] s t)) ∧
  (∀ (s : State) (who : Who) (instant : MTime),
    Asked s who 1 ∧ s.sys.snapArmed = false ∧ s.sys.snapBusy = false ∧ instant ≠ 0 ∧ (instant < s.now + 5000 ∨ s.now + 10000000000 < instant) →
    Does (.snapshotCommand who instant) s (fun t =>
      ((if instant < s.now + 5000 then Answered t .tooLate 0 else t.sent.head?.map (fun m => match m with | .status c _ _ => c | _ => 0) = some (Status.code .range)) ∧ t.sys = s.sys) ∧
      OnlyIn [.sys, .net, .sent] s t)) ∧
  (∀ (s : State) (who : Who) (instant : MTime),
    Asked s who 1 ∧ s.sys.snapArmed = true ∧ s.now ≤ s.sys.snapDue →
    Does (.snapshotCommand who instant) s (fun t =>
      t.sent.head? = some (.status Status.busy.code 0 ((s.sys.snapDue - s.now + 999999) / 1000000 + 1).toNat) ∧ t.sys = s.sys ∧
      OnlyIn [.sys, .net, .sent] s t)) ∧
  (∀ (s : State),
    s.up = true ∧ s.sys.snapArmed = true ∧ s.sys.snapDue ≤ s.now →
    Does (.snapshotTake) s (fun t =>
      (t.sys.snapArmed = false ∧ t.sys.snapBusy = true ∧ t.sys.snapTick = s.now ∧ t.sys.holding = s.sys.holding ∧ t.sys.snapSeq = s.sys.snapSeq ∧ (∀ k ∈ heldRegs, Table.get t.sys.latched 0 k = s.regRead s.sys.triad (k / 0x1000) (k % 0x1000)) ∧ OnlyIn [.sys] s t))) ∧
  (∀ (s : State),
    s.sys.snapArmed = false ∨ s.now < s.sys.snapDue →
    Does (.snapshotTake) s (fun t =>
      t = s)) ∧
  (∀ (s : State),
    s.up = true ∧ s.sys.snapBusy = true →
    Does (.snapshotCopyEnd) s (fun t =>
      t.sys.snapBusy = false ∧ t.sys.holding = s.sys.latched ∧ t.sys.snapSeq = (s.sys.snapSeq + 1) % 65536 ∧ t.sys.snapTime = ofSigned 64 s.sys.snapTick ∧ OnlyIn [.sys] s t)) ∧
  (∀ (s : State),
    s.sys.snapBusy = false →
    Does (.snapshotCopyEnd) s (fun t =>
      t = s)) ∧
  /- one copy of a triplicated field differs -/ (∀ (s : State) (k x y : Nat),
    s.up = true ∧ s.sys.tmr = [] ∧ (k = 0x000C ∨ k = 0x0010 ∨ k = 0x100C ∨ k = 0x4024 ∨ k = 0x600C ∨ k = 0x6010) ∧ s.regRead s.sys.triad (k / 0x1000) (k % 0x1000) = x ∧ y ≠ x →
    Does (.tmrScrub [(k, x, y, x)]) s (fun t =>
      t.sys = { s.sys with tmrCorr := min (s.sys.tmrCorr + 1) (2 ^ 32 - 1) } ∧ Records s t 0xF002 [k / 0x1000, k % 0x1000] ∧ OnlyIn [.sys, .evr] s t)) ∧
  /- no two copies agree -/ (∀ (s : State) (k x y z : Nat),
    s.up = true ∧ s.sys.tmr = [] ∧ (k = 0x000C ∨ k = 0x0010 ∨ k = 0x100C ∨ k = 0x4024 ∨ k = 0x600C ∨ k = 0x6010) ∧ x ≠ y ∧ y ≠ z ∧ x ≠ z ∧ s.openFault? 0 0xF003 k = none →
    Does (.tmrScrub [(k, x, y, z)]) s (fun t =>
      t.sys.tmrFail = min (s.sys.tmrFail + 1) (2 ^ 32 - 1) ∧ (Table.find t.sys.tmr k).isSome = true ∧ t.sys.tmrCorr = s.sys.tmrCorr ∧ (t.openFault? 0 0xF003 k).map (·.rung) = some 3 ∧ Records s t 0xF003 [k / 0x1000, k % 0x1000] ∧ OnlyIn [.sys, .mode, .evr] s t)) ∧
  (∀ (s : State) (k x : Nat),
    s.up = true ∧ s.sys.tmr = [] →
    Does (.tmrScrub [(k, x, x, x)]) s (fun t =>
      t = s))

/-- For every command and state a step with that command at the front of the queue is its effect on the state with the rest of the queue. With an empty queue, a running counter and nothing staged for an instant, a step counts one raw tick and one four-hundred-thousandth of a millisecond of operating time, M grows by at least 2.495 ns (ρ within its range), and nothing but Meridian changes; with the counter stopped nothing changes. That the tick passes on an empty queue is the model's choice (log entry 6). (R91, R93, R112, 04_meridian_and_waypoints.md R91 to R94) -/
def Obligations.AStepRunsTheFrontCommandOrOneTick : Prop :=
  (∀ (c : Instr) (rest : List Instr) (s : State), s.pending = c :: rest → step s = exec c { s with pending := rest }) ∧
  (∀ s : State, s.pending = [] → s.mer.running = true → s.red.staged = [] → -(2 ^ 31) ≤ s.mer.rho → s.mer.rho < 2 ^ 31 →
    ∃ t, step s = .next t ∧ t.mer.raw = s.mer.raw + 1 ∧ t.mer.opMs * 400000 + t.mer.opTicks = s.mer.opMs * 400000 + s.mer.opTicks + 1 ∧
      meridian s.mer.offset s.mer.raw s.mer.rho + 2495 / 1000 ≤ meridian t.mer.offset t.mer.raw t.mer.rho ∧ OnlyIn [.mer] s t) ∧
  (∀ s : State, s.pending = [] → s.mer.running = false → step s = .next s)

/-- In every state a command whose operands fit its row answers a next state with the queue unchanged, and a command whose operands do not fit stops with the fault illFormed, the only stop of the model. Which operands fit is the model's reading of the rows, logged in entry 24. (95_what_each_step_holds.md, 98_reader.md) -/
def Obligations.CommandsCompleteExactlyWhereWellFormed : Prop :=
  ∀ (c : Instr) (s : State), (c.wf = true → ∃ t, exec c s = .next t ∧ t.pending = s.pending) ∧ (c.wf = false → exec c s = .fault .illFormed)

/-- From every state whose byte memory lists rising addresses and no zero byte, every step that answers a next state leaves the memory in that form, whatever command runs: stores of the three cores and their rebuilt banks, loads of programs and configurations, wipes, copies to a standby, and frames of the display. The canonical form is the model's own representation (log entry 3). (17_clocks_memory_power.md R426, 03_triad_execution.md Table 03-1, 01_station_architecture.md Table 01-2) -/
def Obligations.MemoryStaysCanonical : Prop :=
  ∀ s t : State, MemOk s → step s = .next t → MemOk t

/-- From every state whose life-cycle state is RETIRED, every step that answers a next state leaves it RETIRED: no request, reset, supply loss, firmware installation or commit leads out of it. (R44, R45, R47, 02_modes_startup_recovery.md Table 02-7) -/
def Obligations.RetiredIsFinal : Prop :=
  ∀ s t : State, s.mode.lifeCycle = .retired → step s = .next t → t.mode.lifeCycle = .retired

/-- For every pair of modes that Table 02-3 lists no requested transition for, the request is refused STATE-REFUSED with event 0x1002, the mode and everything but the recorder's queue and the answer as before; a retired module refuses every mode request, with no event. (R35, R37, R47, 02_modes_startup_recovery.md Table 02-3) -/
def Obligations.TransitionsOutsideTable0203AreRefused : Prop :=
  (∀ (s : State) (who : Who) (m : Mode) (c : Instr), requestFor who m = some c → ModeAsked s who 1 → requestable s.mode.mode m = false →
    ¬(s.mode.mode = .stop ∧ m = .stop ∧ s.mode.applying = true) →
    Does c s (fun t => t.mode = s.mode ∧ Answered t .stateRefused s.stateDetail ∧ Records s t 0x1002 [m.code, 0] ∧ OnlyIn [.evr, .net, .sent] s t)) ∧
  (∀ (s : State) (who : Who) (m : Mode) (c : Instr), requestFor who m = some c → s.up = true → s.mode.lifeCycle = .retired →
    Does c s (fun t => Answered t .stateRefused s.stateDetail ∧ OnlyIn [.net, .sent] s t))

/-- State.reset holds an empty queue, a canonical memory that lists nothing, the supply off, recorder numbers from 1, and the registers whose tables give a value other than zero at that value: SKEW 200 µs, N 65,536, no holder, no LATE slot, root on the fast RC, core set point 5, and the owners of the handover banks. The life-cycle state and the contents of flash and MRAM are the model's choice (log entries 1 and 2). (18_register_interface.md Table 18-7, Table 18-11, Table 18-13, 17_clocks_memory_power.md Table 17-8, Table 17-11, Table 17-12, R384, R425) -/
def Obligations.ResetHoldsTheStatedValues : Prop :=
  State.reset.pending = [] ∧ MemOk State.reset ∧ State.reset.mem.data = [] ∧ State.reset.mode.phase = .off ∧ State.reset.evr.next = 1 ∧
  State.reset.regRead {} 0x01 0x00C = 0xC8 ∧ State.reset.regRead {} 0x01 0x010 = 0x10000 ∧ State.reset.regRead {} 0x06 0x010 = 0xFFFF ∧
  State.reset.regRead {} 0x05 0x00C = 0xFFFFFFFF ∧ State.reset.regRead {} 0x12 0x000 = 4 ∧ State.reset.regRead {} 0x14 0x020 = 5 ∧
  State.reset.regRead {} 0x00 0x00C = 0 ∧ State.reset.regRead {} 0x10 0x024 = 0x80000 ∧
  (List.range 4).map (fun k => State.reset.regRead {} 0x13 (0x020 + 4 * k)) = [3, 5, 2, 2] ∧
  (List.range 32).all (fun n => State.reset.regRead {} 0x07 (0x104 + 0x10 * n) == 1) = true
end

