-- ==== Sys2Proof/Laws/State.lean ====
section
/-!
SUPPORT. Frames compose: how the frame of a state change follows from the frames of its parts.
-/
namespace Sys2Proof.Machine

/-- Nothing changes. -/
theorem OnlyIn.refl (l : List Part) (s : State) : OnlyIn l s s := ⟨rfl, fun p _ => by cases p <;> rfl⟩

/-- Two changes that leave a field leave it together. -/
theorem Part.Same.trans {p : Part} {s u t : State} (h : p.Same s u) (k : p.Same u t) : p.Same s t := by
  cases p <;> exact Eq.trans k h

/-- A state change after another, within a larger list of fields. -/
theorem OnlyIn.step {l m : List Part} {s u t : State} (h : OnlyIn l s u) (k : OnlyIn m u t) (hm : ∀ p ∈ m, p ∈ l) : OnlyIn l s t :=
  ⟨k.1.trans h.1, fun p hp => (h.2 p hp).trans (k.2 p (fun q => hp (hm p q)))⟩

/-- A change that leaves the queue and every field outside the list. -/
theorem OnlyIn.upd {l : List Part} {s u t : State} (hq : t.pending = u.pending) (h : ∀ p, p ∉ l → p.Same u t) (hs : OnlyIn l s u) :
    OnlyIn l s t := ⟨hq.trans hs.1, fun p hp => (hs.2 p hp).trans (h p hp)⟩

/-- A change made for each of a list. -/
theorem OnlyIn.each {α : Type} {l : List Part} {f : State → α → State} (h : ∀ s x, OnlyIn l s (f s x)) (s : State) (xs : List α) :
    OnlyIn l s (s.each xs f) := by
  induction xs generalizing s with
  | nil => exact OnlyIn.refl l s
  | cons x xs ih => exact (h s x).step (ih (f s x)) (fun _ q => q)

/-- The same, as a fold. -/
theorem OnlyIn.foldl {α : Type} {l : List Part} {f : State → α → State} (h : ∀ s x, OnlyIn l s (f s x)) (s : State) (xs : List α) :
    OnlyIn l s (xs.foldl f s) := OnlyIn.each h s xs

/-- A named intermediate state. -/
theorem OnlyIn.letS {l : List Part} {s v : State} {b : State → State} (h : OnlyIn l s v) (hb : ∀ u, OnlyIn l s u → OnlyIn l s (b u)) :
    let x := v; OnlyIn l s (b x) := hb v h

/-- A named value. -/
theorem OnlyIn.letZ {α : Sort _} {l : List Part} {s : State} {v : α} {b : α → State} (h : OnlyIn l s (b v)) : let x := v; OnlyIn l s (b x) := h
theorem OnlyIn.lit {l : List Part} {s u : State} {x0 : Nat} {x1 : ModePart} {x2 : RecorderPart} {x3 : RegPart} {x4 : TriadPart} {x5 : MeridianPart} {x6 : WaypointPart} {x7 : TaskPart} {x8 : RingPart} {x9 : EnginePart} {x10 : StationPart} {x11 : WitnessPart} {x12 : NetPart} {x13 : LegendPart} {x14 : SurveyPart} {x15 : DioPart} {x16 : AioPart} {x17 : SafetyPart} {x18 : CanPart} {x19 : CartouchePart} {x20 : ClockPart} {x21 : MemPart} {x22 : PowerPart} {x23 : Table Nat} {x24 : List OutMsg}
    (hs : OnlyIn l s u) (h0 : .freeCtr ∈ l ∨ x0 = u.freeCtr) (h1 : .mode ∈ l ∨ x1 = u.mode) (h2 : .evr ∈ l ∨ x2 = u.evr) (h3 : .sys ∈ l ∨ x3 = u.sys) (h4 : .tri ∈ l ∨ x4 = u.tri) (h5 : .mer ∈ l ∨ x5 = u.mer) (h6 : .wpt ∈ l ∨ x6 = u.wpt) (h7 : .tsk ∈ l ∨ x7 = u.tsk) (h8 : .ring ∈ l ∨ x8 = u.ring) (h9 : .cen ∈ l ∨ x9 = u.cen) (h10 : .red ∈ l ∨ x10 = u.red) (h11 : .wit ∈ l ∨ x11 = u.wit) (h12 : .net ∈ l ∨ x12 = u.net) (h13 : .leg ∈ l ∨ x13 = u.leg) (h14 : .sur ∈ l ∨ x14 = u.sur) (h15 : .dio ∈ l ∨ x15 = u.dio) (h16 : .aio ∈ l ∨ x16 = u.aio) (h17 : .saf ∈ l ∨ x17 = u.saf) (h18 : .can ∈ l ∨ x18 = u.can) (h19 : .crt ∈ l ∨ x19 = u.crt) (h20 : .clk ∈ l ∨ x20 = u.clk) (h21 : .mem ∈ l ∨ x21 = u.mem) (h22 : .pwr ∈ l ∨ x22 = u.pwr) (h23 : .elems ∈ l ∨ x23 = u.elems) (h24 : .sent ∈ l ∨ x24 = u.sent) :
    OnlyIn l s (State.mk u.pending x0 x1 x2 x3 x4 x5 x6 x7 x8 x9 x10 x11 x12 x13 x14 x15 x16 x17 x18 x19 x20 x21 x22 x23 x24) := by
  refine OnlyIn.step hs (m := l) ⟨rfl, fun p hp => ?_⟩ (fun _ q => q)
  cases p <;> simp_all [Part.Same]

/-- The queue of a framed change. -/
theorem OnlyIn.pending {l : List Part} {s t : State} (h : OnlyIn l s t) : t.pending = s.pending := h.1

/-- A wider frame. -/
theorem OnlyIn.mono {l m : List Part} {s t : State} (h : OnlyIn l s t) (hm : ∀ p ∈ l, p ∈ m) : OnlyIn m s t :=
  ⟨h.1, fun p hp => h.2 p (fun q => hp (hm p q))⟩

/-- A change whose frame lacks memory keeps every byte. -/
theorem OnlyIn.memory {l : List Part} {s t : State} (h : OnlyIn l s t) (hm : Part.mem ∉ l) : SameMemory s t :=
  fun a => by rw [show t.mem = s.mem from h.2 .mem hm]

/-- A change whose frame lacks memory keeps its canonical form. -/
theorem OnlyIn.memOk {l : List Part} {s t : State} (h : OnlyIn l s t) (hm : Part.mem ∉ l) (hs : MemOk s) : MemOk t := by
  rw [MemOk, show t.mem = s.mem from h.2 .mem hm]; exact hs

/-- A change whose frame lacks the mode keeps the life-cycle state. -/
theorem OnlyIn.lifeCycle {l : List Part} {s t : State} (h : OnlyIn l s t) (hm : Part.mode ∉ l) : t.mode.lifeCycle = s.mode.lifeCycle := by
  rw [show t.mode = s.mode from h.2 .mode hm]

end Sys2Proof.Machine
end

