-- ==== Sys2Proof/Laws/Frames.lean ====
section
/-!
SUPPORT. Frames of the shared operations: which fields each may change.
-/
namespace Sys2Proof.Machine

theorem State.setEl_only (s : State) (e n v : Nat) :
    OnlyIn [.elems] s (s.setEl e n v) := by
  unfold State.setEl
  repeat' first
    | with_reducible exact Or.inr rfl | exact Or.inl (by decide) | assumption | decide
    | with_reducible exact OnlyIn.refl _ _ | split | with_reducible apply OnlyIn.lit

theorem State.send_only (s : State) (m : OutMsg) :
    OnlyIn [.net, .sent] s (s.send m) := by
  unfold State.send
  repeat' first
    | with_reducible exact Or.inr rfl | exact Or.inl (by decide) | assumption | decide
    | with_reducible exact OnlyIn.refl _ _ | split | with_reducible apply OnlyIn.lit

theorem State.offer_only (s : State) (o : Offer) :
    OnlyIn [.evr] s (s.offer o) := by
  unfold State.offer
  repeat' first
    | with_reducible exact Or.inr rfl | exact Or.inl (by decide) | assumption | decide
    | with_reducible exact OnlyIn.refl _ _ | (intro x; revert x; with_reducible refine OnlyIn.letS ?_ (fun _ _ => ?_))
    | (intro x; revert x; with_reducible refine OnlyIn.letZ ?_) | (lift_lets; intro x; revert x) | split
    | with_reducible apply OnlyIn.lit

theorem State.evS_only (s : State) (code src : Nat) (args : List Nat) :
    OnlyIn [.evr] s (s.evS code src args) := by
  unfold State.evS
  repeat' first
    | with_reducible exact Or.inr rfl | exact Or.inl (by decide) | assumption | decide
    | with_reducible exact OnlyIn.refl _ _ | with_reducible refine OnlyIn.step ?_ (State.offer_only ..) ?_ | split
    | with_reducible apply OnlyIn.lit

theorem State.ev_only (s : State) (code : Nat) (args : List Nat) :
    OnlyIn [.evr] s (s.ev code args) := by
  unfold State.ev
  repeat' first
    | with_reducible exact Or.inr rfl | exact Or.inl (by decide) | assumption | decide
    | with_reducible exact OnlyIn.refl _ _ | with_reducible refine OnlyIn.step ?_ (State.evS_only ..) ?_ | split
    | with_reducible apply OnlyIn.lit

theorem State.evRep_only (s : State) (code src : Nat) (args : List Nat) :
    OnlyIn [.evr] s (s.evRep code src args) := by
  unfold State.evRep
  repeat' first
    | with_reducible exact Or.inr rfl | exact Or.inl (by decide) | assumption | decide
    | with_reducible exact OnlyIn.refl _ _ | with_reducible refine OnlyIn.step ?_ (State.offer_only ..) ?_ | split
    | with_reducible apply OnlyIn.lit

theorem State.evAt_only (s : State) (code src : Nat) (t : MTime) (args : List Nat) :
    OnlyIn [.evr] s (s.evAt code src t args) := by
  unfold State.evAt
  repeat' first
    | with_reducible exact Or.inr rfl | exact Or.inl (by decide) | assumption | decide
    | with_reducible exact OnlyIn.refl _ _ | with_reducible refine OnlyIn.step ?_ (State.offer_only ..) ?_ | split
    | with_reducible apply OnlyIn.lit

theorem State.fault_only (s : State) (fn code obj rung : Nat) (args : List Nat) :
    OnlyIn [.mode, .evr] s (s.fault fn code obj rung args) := by
  unfold State.fault
  repeat' first
    | with_reducible exact Or.inr rfl | exact Or.inl (by decide) | assumption | decide
    | with_reducible exact OnlyIn.refl _ _ | (intro x; revert x; with_reducible refine OnlyIn.letS ?_ (fun _ _ => ?_))
    | (intro x; revert x; with_reducible refine OnlyIn.letZ ?_)
    | with_reducible refine OnlyIn.step ?_ (State.offer_only ..) ?_ | (lift_lets; intro x; revert x) | split
    | with_reducible apply OnlyIn.lit

theorem State.faultRep_only (s : State) (fn code obj rung : Nat) (args : List Nat) :
    OnlyIn [.mode, .evr] s (s.faultRep fn code obj rung args) := by
  unfold State.faultRep
  repeat' first
    | with_reducible exact Or.inr rfl | exact Or.inl (by decide) | assumption | decide
    | with_reducible exact OnlyIn.refl _ _ | (intro x; revert x; with_reducible refine OnlyIn.letS ?_ (fun _ _ => ?_))
    | (intro x; revert x; with_reducible refine OnlyIn.letZ ?_)
    | with_reducible refine OnlyIn.step ?_ (State.offer_only ..) ?_ | (lift_lets; intro x; revert x) | split
    | with_reducible apply OnlyIn.lit

theorem State.closeFault_only (s : State) (fn code obj : Nat) :
    OnlyIn [.mode] s (s.closeFault fn code obj) := by
  unfold State.closeFault
  repeat' first
    | with_reducible exact Or.inr rfl | exact Or.inl (by decide) | assumption | decide
    | with_reducible exact OnlyIn.refl _ _ | split | with_reducible apply OnlyIn.lit

theorem State.closeFn_only (s : State) (fn : Nat) :
    OnlyIn [.mode] s (s.closeFn fn) := by
  unfold State.closeFn
  repeat' first
    | with_reducible exact Or.inr rfl | exact Or.inl (by decide) | assumption | decide
    | with_reducible exact OnlyIn.refl _ _ | split | with_reducible apply OnlyIn.lit

theorem State.restoreWords_only (s : State) (lo n : Nat) :
    OnlyIn [.mode, .mem] s (s.restoreWords lo n) := by
  unfold State.restoreWords
  repeat' first
    | with_reducible exact Or.inr rfl | exact Or.inl (by decide) | assumption | decide
    | with_reducible exact OnlyIn.refl _ _ | (intro x; revert x; with_reducible refine OnlyIn.letS ?_ (fun _ _ => ?_))
    | (intro x; revert x; with_reducible refine OnlyIn.letZ ?_) | (lift_lets; intro x; revert x) | split
    | with_reducible apply OnlyIn.lit

theorem State.countRetry_only (s : State) (fn : Nat) :
    OnlyIn [.mode] s (s.countRetry fn) := by
  unfold State.countRetry
  repeat' first
    | with_reducible exact Or.inr rfl | exact Or.inl (by decide) | assumption | decide
    | with_reducible exact OnlyIn.refl _ _ | split | with_reducible apply OnlyIn.lit

theorem State.clearRetries_only (s : State) (fn : Nat) :
    OnlyIn [.mode] s (s.clearRetries fn) := by
  unfold State.clearRetries
  repeat' first
    | with_reducible exact Or.inr rfl | exact Or.inl (by decide) | assumption | decide
    | with_reducible exact OnlyIn.refl _ _ | split | with_reducible apply OnlyIn.lit

theorem State.keepInsets_only (s : State) (p : Nat) :
    OnlyIn [.tsk] s (s.keepInsets p) := by
  unfold State.keepInsets
  repeat' first
    | with_reducible exact Or.inr rfl | exact Or.inl (by decide) | assumption | decide
    | with_reducible exact OnlyIn.refl _ _ | split | with_reducible apply OnlyIn.lit

theorem State.updDio_only (s : State) (n : Nat) (f : DioChan → DioChan) :
    OnlyIn [.dio] s (s.updDio n f) := by
  unfold State.updDio
  repeat' first
    | with_reducible exact Or.inr rfl | exact Or.inl (by decide) | assumption | decide
    | with_reducible exact OnlyIn.refl _ _ | split | with_reducible apply OnlyIn.lit

theorem State.updGrp_only (s : State) (g : Nat) (f : DioGroup → DioGroup) :
    OnlyIn [.dio] s (s.updGrp g f) := by
  unfold State.updGrp
  repeat' first
    | with_reducible exact Or.inr rfl | exact Or.inl (by decide) | assumption | decide
    | with_reducible exact OnlyIn.refl _ _ | split | with_reducible apply OnlyIn.lit

theorem State.setCond_only (s : State) (n d : Nat) (on : Bool) :
    OnlyIn [.dio] s (s.setCond n d on) := by
  unfold State.setCond
  repeat' first
    | with_reducible exact Or.inr rfl | exact Or.inl (by decide) | assumption | decide
    | with_reducible exact OnlyIn.refl _ _ | with_reducible refine OnlyIn.step ?_ (State.updDio_only ..) ?_ | split
    | with_reducible apply OnlyIn.lit

theorem State.updAi_only (s : State) (n : Nat) (f : AiChan → AiChan) :
    OnlyIn [.aio] s (s.updAi n f) := by
  unfold State.updAi
  repeat' first
    | with_reducible exact Or.inr rfl | exact Or.inl (by decide) | assumption | decide
    | with_reducible exact OnlyIn.refl _ _ | split | with_reducible apply OnlyIn.lit

theorem State.updAo_only (s : State) (n : Nat) (f : AoChan → AoChan) :
    OnlyIn [.aio] s (s.updAo n f) := by
  unfold State.updAo
  repeat' first
    | with_reducible exact Or.inr rfl | exact Or.inl (by decide) | assumption | decide
    | with_reducible exact OnlyIn.refl _ _ | split | with_reducible apply OnlyIn.lit

theorem State.aioPend_only (s : State) (b : Nat) :
    OnlyIn [.aio] s (s.aioPend b) := by
  unfold State.aioPend
  repeat' first
    | with_reducible exact Or.inr rfl | exact Or.inl (by decide) | assumption | decide
    | with_reducible exact OnlyIn.refl _ _ | split | with_reducible apply OnlyIn.lit

theorem State.driveAo_only (s : State) (n : Nat) (i : F64) :
    OnlyIn [.aio] s (s.driveAo n i) := by
  unfold State.driveAo
  repeat' first
    | with_reducible exact Or.inr rfl | exact Or.inl (by decide) | assumption | decide
    | with_reducible exact OnlyIn.refl _ _ | (intro x; revert x; with_reducible refine OnlyIn.letS ?_ (fun _ _ => ?_))
    | (intro x; revert x; with_reducible refine OnlyIn.letZ ?_)
    | with_reducible refine OnlyIn.step ?_ (State.updAo_only ..) ?_ | (lift_lets; intro x; revert x) | split
    | with_reducible apply OnlyIn.lit

theorem State.updHead_only (s : State) (h : Nat) (f : Head → Head) :
    OnlyIn [.ring] s (s.updHead h f) := by
  unfold State.updHead
  repeat' first
    | with_reducible exact Or.inr rfl | exact Or.inl (by decide) | assumption | decide
    | with_reducible exact OnlyIn.refl _ _ | split | with_reducible apply OnlyIn.lit

theorem State.updTask_only (s : State) (t : Nat) (f : TaskRun → TaskRun) :
    OnlyIn [.tsk] s (s.updTask t f) := by
  unfold State.updTask
  repeat' first
    | with_reducible exact Or.inr rfl | exact Or.inl (by decide) | assumption | decide
    | with_reducible exact OnlyIn.refl _ _ | split | with_reducible apply OnlyIn.lit

theorem State.tskPend_only (s : State) (b : Nat) :
    OnlyIn [.tsk] s (s.tskPend b) := by
  unfold State.tskPend
  repeat' first
    | with_reducible exact Or.inr rfl | exact Or.inl (by decide) | assumption | decide
    | with_reducible exact OnlyIn.refl _ _ | split | with_reducible apply OnlyIn.lit

theorem State.setSlot_only (s : State) (n : Nat) (r : WptRec) :
    OnlyIn [.wpt] s (s.setSlot n r) := by
  unfold State.setSlot
  repeat' first
    | with_reducible exact Or.inr rfl | exact Or.inl (by decide) | assumption | decide
    | with_reducible exact OnlyIn.refl _ _ | split | with_reducible apply OnlyIn.lit

theorem State.armTask_only (s : State) (t : Nat) :
    OnlyIn [.wpt] s (s.armTask t) := by
  unfold State.armTask
  repeat' first
    | with_reducible exact Or.inr rfl | exact Or.inl (by decide) | assumption | decide
    | with_reducible exact OnlyIn.refl _ _ | (intro x; revert x; with_reducible refine OnlyIn.letS ?_ (fun _ _ => ?_))
    | (intro x; revert x; with_reducible refine OnlyIn.letZ ?_)
    | with_reducible refine OnlyIn.step ?_ (State.setSlot_only ..) ?_ | (lift_lets; intro x; revert x) | split
    | with_reducible apply OnlyIn.lit

theorem State.armGroup_only (s : State) (g : Nat) (period phase : Int) :
    OnlyIn [.wpt] s (s.armGroup g period phase) := by
  unfold State.armGroup
  repeat' first
    | with_reducible exact Or.inr rfl | exact Or.inl (by decide) | assumption | decide
    | with_reducible exact OnlyIn.refl _ _ | with_reducible refine OnlyIn.step ?_ (State.setSlot_only ..) ?_ | split
    | with_reducible apply OnlyIn.lit

theorem State.applyEvals_only (s : State) (tt : MTime) (l : List Eval) :
    OnlyIn [.tsk] s (s.applyEvals tt l) := by
  unfold State.applyEvals
  repeat' first
    | with_reducible exact Or.inr rfl | exact Or.inl (by decide) | assumption | decide
    | with_reducible exact OnlyIn.refl _ _ | (intro x; revert x; with_reducible refine OnlyIn.letS ?_ (fun _ _ => ?_))
    | (intro x; revert x; with_reducible refine OnlyIn.letZ ?_)
    | with_reducible refine OnlyIn.each (fun _ _ => ?_) _ _ | (lift_lets; intro x; revert x) | split
    | with_reducible apply OnlyIn.lit

theorem State.shiftTimers_only (s : State) (t : Nat) (delta : Int) :
    OnlyIn [.tsk] s (s.shiftTimers t delta) := by
  unfold State.shiftTimers
  repeat' first
    | with_reducible exact Or.inr rfl | exact Or.inl (by decide) | assumption | decide
    | with_reducible exact OnlyIn.refl _ _ | (intro x; revert x; with_reducible refine OnlyIn.letS ?_ (fun _ _ => ?_))
    | (intro x; revert x; with_reducible refine OnlyIn.letZ ?_) | (lift_lets; intro x; revert x) | split
    | with_reducible apply OnlyIn.lit

theorem State.clearInsts_only (s : State) :
    OnlyIn [.tsk] s (s.clearInsts) := by
  unfold State.clearInsts
  repeat' first
    | with_reducible exact Or.inr rfl | exact Or.inl (by decide) | assumption | decide
    | with_reducible exact OnlyIn.refl _ _ | split | with_reducible apply OnlyIn.lit

theorem State.handOver_only (s : State) (t : Nat) (at_ : MTime) (outs : List OutVal) :
    OnlyIn [.tsk] s (s.handOver t at_ outs) := by
  unfold State.handOver
  repeat' first
    | with_reducible exact Or.inr rfl | exact Or.inl (by decide) | assumption | decide
    | with_reducible exact OnlyIn.refl _ _ | with_reducible refine OnlyIn.step ?_ (State.updTask_only ..) ?_ | split
    | with_reducible apply OnlyIn.lit

theorem State.updExch_only (s : State) (owner : Nat) (f : Exchange → Exchange) :
    OnlyIn [.ring] s (s.updExch owner f) := by
  unfold State.updExch
  repeat' first
    | with_reducible exact Or.inr rfl | exact Or.inl (by decide) | assumption | decide
    | with_reducible exact OnlyIn.refl _ _ | split | with_reducible apply OnlyIn.lit

theorem State.netPend_only (s : State) (b : Nat) :
    OnlyIn [.net] s (s.netPend b) := by
  unfold State.netPend
  repeat' first
    | with_reducible exact Or.inr rfl | exact Or.inl (by decide) | assumption | decide
    | with_reducible exact OnlyIn.refl _ _ | split | with_reducible apply OnlyIn.lit

theorem State.updLoop_only (s : State) (slot : Nat) (f : LoopState → LoopState) :
    OnlyIn [.cen] s (s.updLoop slot f) := by
  unfold State.updLoop
  repeat' first
    | with_reducible exact Or.inr rfl | exact Or.inl (by decide) | assumption | decide
    | with_reducible exact OnlyIn.refl _ _ | split | with_reducible apply OnlyIn.lit

theorem State.updGroup_only (s : State) (g : Nat) (f : GroupRun → GroupRun) :
    OnlyIn [.cen] s (s.updGroup g f) := by
  unfold State.updGroup
  repeat' first
    | with_reducible exact Or.inr rfl | exact Or.inl (by decide) | assumption | decide
    | with_reducible exact OnlyIn.refl _ _ | split | with_reducible apply OnlyIn.lit

theorem State.updCan_only (s : State) (c : Nat) (f : CanCtrl → CanCtrl) :
    OnlyIn [.can] s (s.updCan c f) := by
  unfold State.updCan
  repeat' first
    | with_reducible exact Or.inr rfl | exact Or.inl (by decide) | assumption | decide
    | with_reducible exact OnlyIn.refl _ _ | split | with_reducible apply OnlyIn.lit

theorem State.updObj_only (s : State) (c o : Nat) (f : CanObj → CanObj) :
    OnlyIn [.can] s (s.updObj c o f) := by
  unfold State.updObj
  repeat' first
    | with_reducible exact Or.inr rfl | exact Or.inl (by decide) | assumption | decide
    | with_reducible exact OnlyIn.refl _ _ | with_reducible refine OnlyIn.step ?_ (State.updCan_only ..) ?_ | split
    | with_reducible apply OnlyIn.lit

theorem State.canPend_only (s : State) (c b : Nat) :
    OnlyIn [.can] s (s.canPend c b) := by
  unfold State.canPend
  repeat' first
    | with_reducible exact Or.inr rfl | exact Or.inl (by decide) | assumption | decide
    | with_reducible exact OnlyIn.refl _ _ | with_reducible refine OnlyIn.step ?_ (State.updCan_only ..) ?_ | split
    | with_reducible apply OnlyIn.lit

theorem State.popQueue_only (s : State) (q : Nat) :
    OnlyIn [.leg] s (s.popQueue q) := by
  unfold State.popQueue
  repeat' first
    | with_reducible exact Or.inr rfl | exact Or.inl (by decide) | assumption | decide
    | with_reducible exact OnlyIn.refl _ _ | split | with_reducible apply OnlyIn.lit

theorem State.updSafCh_only (s : State) (n : Nat) (f : SafChan → SafChan) :
    OnlyIn [.saf] s (s.updSafCh n f) := by
  unfold State.updSafCh
  repeat' first
    | with_reducible exact Or.inr rfl | exact Or.inl (by decide) | assumption | decide
    | with_reducible exact OnlyIn.refl _ _ | split | with_reducible apply OnlyIn.lit

theorem State.updSafFn_only (s : State) (n : Nat) (f : SafFn → SafFn) :
    OnlyIn [.saf] s (s.updSafFn n f) := by
  unfold State.updSafFn
  repeat' first
    | with_reducible exact Or.inr rfl | exact Or.inl (by decide) | assumption | decide
    | with_reducible exact OnlyIn.refl _ _ | split | with_reducible apply OnlyIn.lit

theorem State.updSafPair_only (s : State) (n : Nat) (f : SafPair → SafPair) :
    OnlyIn [.saf] s (s.updSafPair n f) := by
  unfold State.updSafPair
  repeat' first
    | with_reducible exact Or.inr rfl | exact Or.inl (by decide) | assumption | decide
    | with_reducible exact OnlyIn.refl _ _ | split | with_reducible apply OnlyIn.lit

theorem State.updSafAxis_only (s : State) (n : Nat) (f : SafAxis → SafAxis) :
    OnlyIn [.saf] s (s.updSafAxis n f) := by
  unfold State.updSafAxis
  repeat' first
    | with_reducible exact Or.inr rfl | exact Or.inl (by decide) | assumption | decide
    | with_reducible exact OnlyIn.refl _ _ | split | with_reducible apply OnlyIn.lit

theorem State.safPend_only (s : State) (b : Nat) :
    OnlyIn [.saf] s (s.safPend b) := by
  unfold State.safPend
  repeat' first
    | with_reducible exact Or.inr rfl | exact Or.inl (by decide) | assumption | decide
    | with_reducible exact OnlyIn.refl _ _ | split | with_reducible apply OnlyIn.lit

theorem State.noteMismatch_only (s : State) :
    OnlyIn [.saf] s (s.noteMismatch) := by
  unfold State.noteMismatch
  repeat' first
    | with_reducible exact Or.inr rfl | exact Or.inl (by decide) | assumption | decide
    | with_reducible exact OnlyIn.refl _ _ | (intro x; revert x; with_reducible refine OnlyIn.letS ?_ (fun _ _ => ?_))
    | (intro x; revert x; with_reducible refine OnlyIn.letZ ?_) | (lift_lets; intro x; revert x) | split
    | with_reducible apply OnlyIn.lit

theorem State.safTakeover_only (s : State) :
    OnlyIn [.saf] s (s.safTakeover) := by
  unfold State.safTakeover
  repeat' first
    | with_reducible exact Or.inr rfl | exact Or.inl (by decide) | assumption | decide
    | with_reducible exact OnlyIn.refl _ _ | split | with_reducible apply OnlyIn.lit

theorem State.updTrans_only (s : State) (f : Trans → Trans) :
    OnlyIn [.mode] s (s.updTrans f) := by
  unfold State.updTrans
  repeat' first
    | with_reducible exact Or.inr rfl | exact Or.inl (by decide) | assumption | decide
    | with_reducible exact OnlyIn.refl _ _ | (intro x; revert x; with_reducible refine OnlyIn.letS ?_ (fun _ _ => ?_))
    | (intro x; revert x; with_reducible refine OnlyIn.letZ ?_) | (lift_lets; intro x; revert x) | split
    | with_reducible apply OnlyIn.lit

theorem State.taskSettled_only (s : State) (t : Nat) :
    OnlyIn [.mode] s (s.taskSettled t) := by
  unfold State.taskSettled
  repeat' first
    | with_reducible exact Or.inr rfl | exact Or.inl (by decide) | assumption | decide
    | with_reducible exact OnlyIn.refl _ _ | with_reducible refine OnlyIn.step ?_ (State.updTrans_only ..) ?_ | split
    | with_reducible apply OnlyIn.lit

theorem State.groupSettled_only (s : State) (g : Nat) :
    OnlyIn [.mode] s (s.groupSettled g) := by
  unfold State.groupSettled
  repeat' first
    | with_reducible exact Or.inr rfl | exact Or.inl (by decide) | assumption | decide
    | with_reducible exact OnlyIn.refl _ _ | with_reducible refine OnlyIn.step ?_ (State.updTrans_only ..) ?_ | split
    | with_reducible apply OnlyIn.lit

theorem State.groupStarted_only (s : State) (g : Nat) :
    OnlyIn [.mode] s (s.groupStarted g) := by
  unfold State.groupStarted
  repeat' first
    | with_reducible exact Or.inr rfl | exact Or.inl (by decide) | assumption | decide
    | with_reducible exact OnlyIn.refl _ _ | with_reducible refine OnlyIn.step ?_ (State.updTrans_only ..) ?_ | split
    | with_reducible apply OnlyIn.lit

theorem State.startLoops_only (s : State) :
    OnlyIn [.cen] s (s.startLoops) := by
  unfold State.startLoops
  repeat' first
    | with_reducible exact Or.inr rfl | exact Or.inl (by decide) | assumption | decide
    | with_reducible exact OnlyIn.refl _ _ | with_reducible refine OnlyIn.step ?_ (State.updLoop_only ..) ?_
    | with_reducible refine OnlyIn.each (fun _ _ => ?_) _ _ | split | with_reducible apply OnlyIn.lit

theorem State.clearGroups_only (s : State) :
    OnlyIn [.cen] s (s.clearGroups) := by
  unfold State.clearGroups
  repeat' first
    | with_reducible exact Or.inr rfl | exact Or.inl (by decide) | assumption | decide
    | with_reducible exact OnlyIn.refl _ _ | split | with_reducible apply OnlyIn.lit

theorem State.clearTasks_only (s : State) :
    OnlyIn [.tri, .tsk] s (s.clearTasks) := by
  unfold State.clearTasks
  repeat' first
    | with_reducible exact Or.inr rfl | exact Or.inl (by decide) | assumption | decide
    | with_reducible exact OnlyIn.refl _ _ | split | with_reducible apply OnlyIn.lit

theorem State.abortCyclic_only (s : State) :
    OnlyIn [.mode, .tri, .tsk, .ring, .cen, .dio] s (s.abortCyclic) := by
  unfold State.abortCyclic
  repeat' first
    | with_reducible exact Or.inr rfl | exact Or.inl (by decide) | assumption | decide
    | with_reducible exact OnlyIn.refl _ _ | (intro x; revert x; with_reducible refine OnlyIn.letS ?_ (fun _ _ => ?_))
    | (intro x; revert x; with_reducible refine OnlyIn.letZ ?_)
    | with_reducible refine OnlyIn.step ?_ (State.clearTasks_only ..) ?_
    | with_reducible refine OnlyIn.step ?_ (State.clearGroups_only ..) ?_ | (lift_lets; intro x; revert x) | split
    | with_reducible apply OnlyIn.lit

theorem State.abandon_only (s : State) (dest : Mode) :
    OnlyIn [.mode, .evr, .red, .net, .sent] s (s.abandon dest) := by
  unfold State.abandon
  repeat' first
    | with_reducible exact Or.inr rfl | exact Or.inl (by decide) | assumption | decide
    | with_reducible exact OnlyIn.refl _ _ | (intro x; revert x; with_reducible refine OnlyIn.letS ?_ (fun _ _ => ?_))
    | (intro x; revert x; with_reducible refine OnlyIn.letZ ?_)
    | with_reducible refine OnlyIn.step ?_ (State.ev_only ..) ?_ | (lift_lets; intro x; revert x) | split
    | with_reducible apply OnlyIn.lit

theorem State.notReady_only (s : State) :
    OnlyIn [.red] s (s.notReady) := by
  unfold State.notReady
  repeat' first
    | with_reducible exact Or.inr rfl | exact Or.inl (by decide) | assumption | decide
    | with_reducible exact OnlyIn.refl _ _ | split | with_reducible apply OnlyIn.lit

theorem State.stopRenewals_only (s : State) :
    OnlyIn [.red] s (s.stopRenewals) := by
  unfold State.stopRenewals
  repeat' first
    | with_reducible exact Or.inr rfl | exact Or.inl (by decide) | assumption | decide
    | with_reducible exact OnlyIn.refl _ _ | split | with_reducible apply OnlyIn.lit

theorem State.loadImage_only (s : State) (img : List (Nat × List Byte)) :
    OnlyIn [.mem] s (s.loadImage img) := by
  unfold State.loadImage
  repeat' first
    | with_reducible exact Or.inr rfl | exact Or.inl (by decide) | assumption | decide
    | with_reducible exact OnlyIn.refl _ _ | (intro x; revert x; with_reducible refine OnlyIn.letS ?_ (fun _ _ => ?_))
    | (intro x; revert x; with_reducible refine OnlyIn.letZ ?_)
    | with_reducible refine OnlyIn.foldl (fun _ _ => ?_) _ _ | (lift_lets; intro x; revert x) | split
    | with_reducible apply OnlyIn.lit

theorem State.initVars_only (s : State) :
    OnlyIn [.tsk, .mem] s (s.initVars) := by
  unfold State.initVars
  repeat' first
    | with_reducible exact Or.inr rfl | exact Or.inl (by decide) | assumption | decide
    | with_reducible exact OnlyIn.refl _ _ | (intro x; revert x; with_reducible refine OnlyIn.letS ?_ (fun _ _ => ?_))
    | (intro x; revert x; with_reducible refine OnlyIn.letZ ?_)
    | with_reducible refine OnlyIn.step ?_ (State.clearInsts_only ..) ?_
    | with_reducible refine OnlyIn.step ?_ (State.loadImage_only ..) ?_
    | with_reducible refine OnlyIn.foldl (fun _ _ => ?_) _ _ | (lift_lets; intro x; revert x) | split
    | with_reducible apply OnlyIn.lit

theorem State.stopRun_only (s : State) (frm : Mode) :
    OnlyIn [.mode, .tsk, .dio] s (s.stopRun frm) := by
  unfold State.stopRun
  repeat' first
    | with_reducible exact Or.inr rfl | exact Or.inl (by decide) | assumption | decide
    | with_reducible exact OnlyIn.refl _ _ | (intro x; revert x; with_reducible refine OnlyIn.letS ?_ (fun _ _ => ?_))
    | (intro x; revert x; with_reducible refine OnlyIn.letZ ?_)
    | with_reducible refine OnlyIn.step ?_ (State.updTask_only ..) ?_
    | with_reducible refine OnlyIn.each (fun _ _ => ?_) _ _ | (lift_lets; intro x; revert x) | split
    | with_reducible apply OnlyIn.lit

theorem State.resumeRun_only (s : State) :
    OnlyIn [.tsk] s (s.resumeRun) := by
  unfold State.resumeRun
  repeat' first
    | with_reducible exact Or.inr rfl | exact Or.inl (by decide) | assumption | decide
    | with_reducible exact OnlyIn.refl _ _ | with_reducible refine OnlyIn.step ?_ (State.updTask_only ..) ?_
    | with_reducible refine OnlyIn.each (fun _ _ => ?_) _ _ | split | with_reducible apply OnlyIn.lit

theorem State.clearForces_only (s : State) :
    OnlyIn [.evr, .sur, .elems] s (s.clearForces) := by
  unfold State.clearForces
  repeat' first
    | with_reducible exact Or.inr rfl | exact Or.inl (by decide) | assumption | decide
    | with_reducible exact OnlyIn.refl _ _ | (intro x; revert x; with_reducible refine OnlyIn.letS ?_ (fun _ _ => ?_))
    | (intro x; revert x; with_reducible refine OnlyIn.letZ ?_)
    | with_reducible refine OnlyIn.step ?_ (State.ev_only ..) ?_ | (lift_lets; intro x; revert x) | split
    | with_reducible apply OnlyIn.lit

theorem State.endUnit_only (s : State) (u : Unit_) :
    OnlyIn [.tri] s (s.endUnit u) := by
  unfold State.endUnit
  repeat' first
    | with_reducible exact Or.inr rfl | exact Or.inl (by decide) | assumption | decide
    | with_reducible exact OnlyIn.refl _ _ | (intro x; revert x; with_reducible refine OnlyIn.letS ?_ (fun _ _ => ?_))
    | (intro x; revert x; with_reducible refine OnlyIn.letZ ?_) | (lift_lets; intro x; revert x) | split
    | with_reducible apply OnlyIn.lit

theorem State.answer_only (s : State) (st : Status) (detail : Nat) :
    OnlyIn [.net, .sent] s (s.answer st detail) := by
  unfold State.answer
  repeat' first
    | with_reducible exact Or.inr rfl | exact Or.inl (by decide) | assumption | decide
    | with_reducible exact OnlyIn.refl _ _ | with_reducible refine OnlyIn.step ?_ (State.send_only ..) ?_ | split
    | with_reducible apply OnlyIn.lit

theorem State.okAns_only (s : State) :
    OnlyIn [.net, .sent] s (s.okAns) := by
  unfold State.okAns
  repeat' first
    | with_reducible exact Or.inr rfl | exact Or.inl (by decide) | assumption | decide
    | with_reducible exact OnlyIn.refl _ _ | with_reducible refine OnlyIn.step ?_ (State.answer_only ..) ?_ | split
    | with_reducible apply OnlyIn.lit

theorem State.refuseState_only (s : State) :
    OnlyIn [.net, .sent] s (s.refuseState) := by
  unfold State.refuseState
  repeat' first
    | with_reducible exact Or.inr rfl | exact Or.inl (by decide) | assumption | decide
    | with_reducible exact OnlyIn.refl _ _ | with_reducible refine OnlyIn.step ?_ (State.answer_only ..) ?_ | split
    | with_reducible apply OnlyIn.lit

theorem State.give_only (s : State) (a : Ans) :
    OnlyIn [.net, .sent] s (s.give a) := by
  unfold State.give
  repeat' first
    | with_reducible exact Or.inr rfl | exact Or.inl (by decide) | assumption | decide
    | with_reducible exact OnlyIn.refl _ _ | with_reducible refine OnlyIn.step ?_ (State.send_only ..) ?_ | split
    | with_reducible apply OnlyIn.lit

theorem State.noteLoopRefusal_only (s : State) (slot elem : Nat) (a : Ans) :
    OnlyIn [.evr] s (s.noteLoopRefusal slot elem a) := by
  unfold State.noteLoopRefusal
  repeat' first
    | with_reducible exact Or.inr rfl | exact Or.inl (by decide) | assumption | decide
    | with_reducible exact OnlyIn.refl _ _ | with_reducible refine OnlyIn.step ?_ (State.ev_only ..) ?_ | split
    | with_reducible apply OnlyIn.lit

theorem State.sendChange_only (s : State) (e n value : Nat) (t : MTime) :
    OnlyIn [.net, .sent] s (s.sendChange e n value t) := by
  unfold State.sendChange
  repeat' first
    | with_reducible exact Or.inr rfl | exact Or.inl (by decide) | assumption | decide
    | with_reducible exact OnlyIn.refl _ _ | with_reducible refine OnlyIn.step ?_ (State.send_only ..) ?_ | split
    | with_reducible apply OnlyIn.lit

theorem State.applyTable_only (s : State) (t : Nat) (x : CTable) (i : MTime) :
    OnlyIn [.evr, .cen] s (s.applyTable t x i) := by
  unfold State.applyTable
  repeat' first
    | with_reducible exact Or.inr rfl | exact Or.inl (by decide) | assumption | decide
    | with_reducible exact OnlyIn.refl _ _ | (intro x; revert x; with_reducible refine OnlyIn.letS ?_ (fun _ _ => ?_))
    | (intro x; revert x; with_reducible refine OnlyIn.letZ ?_)
    | with_reducible refine OnlyIn.step ?_ (State.ev_only ..) ?_ | (lift_lets; intro x; revert x) | split
    | with_reducible apply OnlyIn.lit

theorem State.clearMaxima_only (s : State) :
    OnlyIn [.cen] s (s.clearMaxima) := by
  unfold State.clearMaxima
  repeat' first
    | with_reducible exact Or.inr rfl | exact Or.inl (by decide) | assumption | decide
    | with_reducible exact OnlyIn.refl _ _ | split | with_reducible apply OnlyIn.lit

theorem State.admitTasks_only (s : State) (l : List TaskRec) (p : Option Program) :
    OnlyIn [.evr, .tsk, .net, .leg, .can, .sent] s (s.admitTasks l p) := by
  unfold State.admitTasks
  repeat' first
    | with_reducible exact Or.inr rfl | exact Or.inl (by decide) | assumption | decide
    | with_reducible exact OnlyIn.refl _ _ | (intro x; revert x; with_reducible refine OnlyIn.letS ?_ (fun _ _ => ?_))
    | (intro x; revert x; with_reducible refine OnlyIn.letZ ?_)
    | with_reducible refine OnlyIn.step ?_ (State.updTask_only ..) ?_
    | with_reducible refine OnlyIn.each (fun _ _ => ?_) _ _ | (lift_lets; intro x; revert x) | split
    | with_reducible apply OnlyIn.lit

theorem State.setTrim_only (s : State) (ch : Nat) (z k : F64) (src : Nat) :
    OnlyIn [.evr, .aio] s (s.setTrim ch z k src) := by
  unfold State.setTrim
  repeat' first
    | with_reducible exact Or.inr rfl | exact Or.inl (by decide) | assumption | decide
    | with_reducible exact OnlyIn.refl _ _ | (intro x; revert x; with_reducible refine OnlyIn.letS ?_ (fun _ _ => ?_))
    | (intro x; revert x; with_reducible refine OnlyIn.letZ ?_)
    | with_reducible refine OnlyIn.step ?_ (State.ev_only ..) ?_ | (lift_lets; intro x; revert x) | split
    | with_reducible apply OnlyIn.lit

theorem State.updLoopH_only (s : State) (l : Nat) (f : HartLoop → HartLoop) :
    OnlyIn [.aio] s (s.updLoopH l f) := by
  unfold State.updLoopH
  repeat' first
    | with_reducible exact Or.inr rfl | exact Or.inl (by decide) | assumption | decide
    | with_reducible exact OnlyIn.refl _ _ | split | with_reducible apply OnlyIn.lit

theorem State.updMaster_only (s : State) (m : Nat) (f : HartMaster → HartMaster) :
    OnlyIn [.aio] s (s.updMaster m f) := by
  unfold State.updMaster
  repeat' first
    | with_reducible exact Or.inr rfl | exact Or.inl (by decide) | assumption | decide
    | with_reducible exact OnlyIn.refl _ _ | split | with_reducible apply OnlyIn.lit

theorem State.unmirror_only (s : State) :
    OnlyIn [.tri, .dio, .aio, .can, .crt, .clk, .pwr] s (s.unmirror) := by
  unfold State.unmirror
  repeat' first
    | with_reducible exact Or.inr rfl | exact Or.inl (by decide) | assumption | decide
    | with_reducible exact OnlyIn.refl _ _ | (intro x; revert x; with_reducible refine OnlyIn.letS ?_ (fun _ _ => ?_))
    | (intro x; revert x; with_reducible refine OnlyIn.letZ ?_) | (lift_lets; intro x; revert x) | split
    | with_reducible apply OnlyIn.lit

theorem State.sendStage_only (s : State) (ch : Chan) (raw : Nat) (x : F64) (latch release : MTime) :
    OnlyIn [.net, .sent] s (s.sendStage ch raw x latch release) := by
  unfold State.sendStage
  repeat' first
    | with_reducible exact Or.inr rfl | exact Or.inl (by decide) | assumption | decide
    | with_reducible exact OnlyIn.refl _ _ | (intro x; revert x; with_reducible refine OnlyIn.letS ?_ (fun _ _ => ?_))
    | (intro x; revert x; with_reducible refine OnlyIn.letZ ?_)
    | with_reducible refine OnlyIn.step ?_ (State.send_only ..) ?_ | (lift_lets; intro x; revert x) | split
    | with_reducible apply OnlyIn.lit

theorem State.sendClaim_only (s : State) (dst kind holder claim : Nat) (f : MTime) (seq info : Nat) :
    OnlyIn [.net, .sent] s (s.sendClaim dst kind holder claim f seq info) := by
  unfold State.sendClaim
  repeat' first
    | with_reducible exact Or.inr rfl | exact Or.inl (by decide) | assumption | decide
    | with_reducible exact OnlyIn.refl _ _ | (intro x; revert x; with_reducible refine OnlyIn.letS ?_ (fun _ _ => ?_))
    | (intro x; revert x; with_reducible refine OnlyIn.letZ ?_)
    | with_reducible refine OnlyIn.step ?_ (State.send_only ..) ?_ | (lift_lets; intro x; revert x) | split
    | with_reducible apply OnlyIn.lit

theorem State.redPend_only (s : State) (b : Nat) :
    OnlyIn [.red] s (s.redPend b) := by
  unfold State.redPend
  repeat' first
    | with_reducible exact Or.inr rfl | exact Or.inl (by decide) | assumption | decide
    | with_reducible exact OnlyIn.refl _ _ | split | with_reducible apply OnlyIn.lit

theorem State.sendRequest_only (s : State) (claim : Nat) (f : MTime) (ready : Bool) :
    OnlyIn [.red, .net, .sent] s (s.sendRequest claim f ready) := by
  unfold State.sendRequest
  repeat' first
    | with_reducible exact Or.inr rfl | exact Or.inl (by decide) | assumption | decide
    | with_reducible exact OnlyIn.refl _ _ | (intro x; revert x; with_reducible refine OnlyIn.letS ?_ (fun _ _ => ?_))
    | (intro x; revert x; with_reducible refine OnlyIn.letZ ?_)
    | with_reducible refine OnlyIn.step ?_ (State.sendClaim_only ..) ?_ | (lift_lets; intro x; revert x) | split
    | with_reducible apply OnlyIn.lit

theorem State.applyForClaim_only (s : State) :
    OnlyIn [.mode, .red, .net, .sent] s (s.applyForClaim) := by
  unfold State.applyForClaim
  repeat' first
    | with_reducible exact Or.inr rfl | exact Or.inl (by decide) | assumption | decide
    | with_reducible exact OnlyIn.refl _ _ | (intro x; revert x; with_reducible refine OnlyIn.letS ?_ (fun _ _ => ?_))
    | (intro x; revert x; with_reducible refine OnlyIn.letZ ?_)
    | with_reducible refine OnlyIn.step ?_ (State.sendRequest_only ..) ?_ | (lift_lets; intro x; revert x) | split
    | with_reducible apply OnlyIn.lit

theorem State.endApplication_only (s : State) :
    OnlyIn [.mode, .red, .net, .sent] s (s.endApplication) := by
  unfold State.endApplication
  repeat' first
    | with_reducible exact Or.inr rfl | exact Or.inl (by decide) | assumption | decide
    | with_reducible exact OnlyIn.refl _ _ | split | with_reducible apply OnlyIn.lit

theorem State.updSession_only (s : State) (i : Nat) (f : Session → Session) :
    OnlyIn [.leg] s (s.updSession i f) := by
  unfold State.updSession
  repeat' first
    | with_reducible exact Or.inr rfl | exact Or.inl (by decide) | assumption | decide
    | with_reducible exact OnlyIn.refl _ _ | split | with_reducible apply OnlyIn.lit

theorem State.writeOffer_only (s : State) (o : Offer) :
    OnlyIn [.mode, .evr] s (s.writeOffer o) := by
  unfold State.writeOffer
  repeat' first
    | with_reducible exact Or.inr rfl | exact Or.inl (by decide) | assumption | decide
    | with_reducible exact OnlyIn.refl _ _ | (intro x; revert x; with_reducible refine OnlyIn.letS ?_ (fun _ _ => ?_))
    | (intro x; revert x; with_reducible refine OnlyIn.letZ ?_) | (lift_lets; intro x; revert x) | split
    | with_reducible apply OnlyIn.lit

theorem State.afterDrops_only (s : State) :
    OnlyIn [.evr] s (s.afterDrops) := by
  unfold State.afterDrops
  repeat' first
    | with_reducible exact Or.inr rfl | exact Or.inl (by decide) | assumption | decide
    | with_reducible exact OnlyIn.refl _ _ | split | with_reducible apply OnlyIn.lit

theorem State.writeStaged_only (s : State) :
    OnlyIn [.mode, .evr] s (s.writeStaged) := by
  unfold State.writeStaged
  repeat' first
    | with_reducible exact Or.inr rfl | exact Or.inl (by decide) | assumption | decide
    | with_reducible exact OnlyIn.refl _ _ | with_reducible refine OnlyIn.step ?_ (State.writeOffer_only ..) ?_
    | with_reducible refine OnlyIn.step ?_ (State.afterDrops_only ..) ?_ | split | with_reducible apply OnlyIn.lit

theorem State.flushMerges_only (s : State) :
    OnlyIn [.evr] s (s.flushMerges) := by
  unfold State.flushMerges
  repeat' first
    | with_reducible exact Or.inr rfl | exact Or.inl (by decide) | assumption | decide
    | with_reducible exact OnlyIn.refl _ _ | with_reducible refine OnlyIn.foldl (fun _ _ => ?_) _ _ | split
    | with_reducible apply OnlyIn.lit

theorem State.flushRecorder_only (s : State) :
    OnlyIn [.mode, .evr] s (s.flushRecorder) := by
  unfold State.flushRecorder
  repeat' first
    | with_reducible exact Or.inr rfl | exact Or.inl (by decide) | assumption | decide
    | with_reducible exact OnlyIn.refl _ _ | (intro x; revert x; with_reducible refine OnlyIn.letS ?_ (fun _ _ => ?_))
    | (intro x; revert x; with_reducible refine OnlyIn.letZ ?_)
    | with_reducible refine OnlyIn.step ?_ (State.flushMerges_only ..) ?_
    | with_reducible refine OnlyIn.step ?_ (State.writeStaged_only ..) ?_
    | with_reducible refine OnlyIn.foldl (fun _ _ => ?_) _ _ | (lift_lets; intro x; revert x) | split
    | with_reducible apply OnlyIn.lit

theorem State.zeroOld_only (s : State) :
    OnlyIn [.evr] s (s.zeroOld) := by
  unfold State.zeroOld
  repeat' first
    | with_reducible exact Or.inr rfl | exact Or.inl (by decide) | assumption | decide
    | with_reducible exact OnlyIn.refl _ _ | split | with_reducible apply OnlyIn.lit

theorem State.holdReset_only (s : State) :
    OnlyIn [.mode, .evr, .pwr] s (s.holdReset) := by
  unfold State.holdReset
  repeat' first
    | with_reducible exact Or.inr rfl | exact Or.inl (by decide) | assumption | decide
    | with_reducible exact OnlyIn.refl _ _ | with_reducible refine OnlyIn.step ?_ (State.fault_only ..) ?_ | split
    | with_reducible apply OnlyIn.lit

theorem State.fuseLoad_only (s : State) (f : Fuses) :
    OnlyIn [.sys, .mer, .net, .clk] s (s.fuseLoad f) := by
  unfold State.fuseLoad
  repeat' first
    | with_reducible exact Or.inr rfl | exact Or.inl (by decide) | assumption | decide
    | with_reducible exact OnlyIn.refl _ _ | (intro x; revert x; with_reducible refine OnlyIn.letS ?_ (fun _ _ => ?_))
    | (intro x; revert x; with_reducible refine OnlyIn.letZ ?_) | (lift_lets; intro x; revert x) | split
    | with_reducible apply OnlyIn.lit

theorem State.startRoot_only (s : State) :
    OnlyIn [.mer, .clk] s (s.startRoot) := by
  unfold State.startRoot
  repeat' first
    | with_reducible exact Or.inr rfl | exact Or.inl (by decide) | assumption | decide
    | with_reducible exact OnlyIn.refl _ _ | (intro x; revert x; with_reducible refine OnlyIn.letS ?_ (fun _ _ => ?_))
    | (intro x; revert x; with_reducible refine OnlyIn.letZ ?_) | (lift_lets; intro x; revert x) | split
    | with_reducible apply OnlyIn.lit

theorem State.repairTorn_only (s : State) (slot : Nat) :
    OnlyIn [.evr] s (s.repairTorn slot) := by
  unfold State.repairTorn
  repeat' first
    | with_reducible exact Or.inr rfl | exact Or.inl (by decide) | assumption | decide
    | with_reducible exact OnlyIn.refl _ _ | (intro x; revert x; with_reducible refine OnlyIn.letS ?_ (fun _ _ => ?_))
    | (intro x; revert x; with_reducible refine OnlyIn.letZ ?_)
    | with_reducible refine OnlyIn.step ?_ (State.ev_only ..) ?_ | (lift_lets; intro x; revert x) | split
    | with_reducible apply OnlyIn.lit

theorem State.withoutConfig_only (s : State) :
    OnlyIn [.mode, .evr, .cen, .net, .leg, .sur, .can, .elems, .sent] s (s.withoutConfig) := by
  unfold State.withoutConfig
  repeat' first
    | with_reducible exact Or.inr rfl | exact Or.inl (by decide) | assumption | decide
    | with_reducible exact OnlyIn.refl _ _ | split | with_reducible apply OnlyIn.lit

theorem State.keepCauses_only (s : State) :
    OnlyIn [.saf] s (s.keepCauses) := by
  unfold State.keepCauses
  repeat' first
    | with_reducible exact Or.inr rfl | exact Or.inl (by decide) | assumption | decide
    | with_reducible exact OnlyIn.refl _ _ | with_reducible refine OnlyIn.step ?_ (State.updSafPair_only ..) ?_
    | with_reducible refine OnlyIn.each (fun _ _ => ?_) _ _ | split | with_reducible apply OnlyIn.lit

theorem State.acceptMode_only (s : State) (m : Mode) :
    OnlyIn [.mode] s (s.acceptMode m) := by
  unfold State.acceptMode
  repeat' first
    | with_reducible exact Or.inr rfl | exact Or.inl (by decide) | assumption | decide
    | with_reducible exact OnlyIn.refl _ _ | split | with_reducible apply OnlyIn.lit

theorem State.startUpdate_only (s : State) (ext : Bool) :
    OnlyIn [.freeCtr, .tri, .crt, .mem] s (s.startUpdate ext) := by
  unfold State.startUpdate
  repeat' first
    | with_reducible exact Or.inr rfl | exact Or.inl (by decide) | assumption | decide
    | with_reducible exact OnlyIn.refl _ _ | (intro x; revert x; with_reducible refine OnlyIn.letS ?_ (fun _ _ => ?_))
    | (intro x; revert x; with_reducible refine OnlyIn.letZ ?_) | (lift_lets; intro x; revert x) | split
    | with_reducible apply OnlyIn.lit

theorem State.goLcd_only (s : State) :
    OnlyIn [.freeCtr, .tri, .crt] s (s.goLcd) := by
  unfold State.goLcd
  repeat' first
    | with_reducible exact Or.inr rfl | exact Or.inl (by decide) | assumption | decide
    | with_reducible exact OnlyIn.refl _ _ | (intro x; revert x; with_reducible refine OnlyIn.letS ?_ (fun _ _ => ?_))
    | (intro x; revert x; with_reducible refine OnlyIn.letZ ?_) | (lift_lets; intro x; revert x) | split
    | with_reducible apply OnlyIn.lit

theorem State.withBody_only (s : State) (b : ConfigBody) :
    OnlyIn [.mode, .leg, .sur, .elems] s (s.withBody b) := by
  unfold State.withBody
  repeat' first
    | with_reducible exact Or.inr rfl | exact Or.inl (by decide) | assumption | decide
    | with_reducible exact OnlyIn.refl _ _ | (intro x; revert x; with_reducible refine OnlyIn.letS ?_ (fun _ _ => ?_))
    | (intro x; revert x; with_reducible refine OnlyIn.letZ ?_)
    | with_reducible refine OnlyIn.foldl (fun _ _ => ?_) _ _ | (lift_lets; intro x; revert x) | split
    | with_reducible apply OnlyIn.lit

theorem State.drivePcrq_only (s : State) :
    OnlyIn [.pwr] s (s.drivePcrq) := by
  unfold State.drivePcrq
  repeat' first
    | with_reducible exact Or.inr rfl | exact Or.inl (by decide) | assumption | decide
    | with_reducible exact OnlyIn.refl _ _ | split | with_reducible apply OnlyIn.lit

theorem State.updNet_only (s : State) (p : Nat) (f : PortState → PortState) :
    OnlyIn [.net] s (s.updNet p f) := by
  unfold State.updNet
  repeat' first
    | with_reducible exact Or.inr rfl | exact Or.inl (by decide) | assumption | decide
    | with_reducible exact OnlyIn.refl _ _ | split | with_reducible apply OnlyIn.lit

theorem State.reinitHart_only (s : State) (n : Nat) :
    OnlyIn [.aio] s (s.reinitHart n) := by
  unfold State.reinitHart
  repeat' first
    | with_reducible exact Or.inr rfl | exact Or.inl (by decide) | assumption | decide
    | with_reducible exact OnlyIn.refl _ _ | split | with_reducible apply OnlyIn.lit

theorem State.reinitPtp_only (s : State) :
    OnlyIn [.mer] s (s.reinitPtp) := by
  unfold State.reinitPtp
  repeat' first
    | with_reducible exact Or.inr rfl | exact Or.inl (by decide) | assumption | decide
    | with_reducible exact OnlyIn.refl _ _ | (intro x; revert x; with_reducible refine OnlyIn.letS ?_ (fun _ _ => ?_))
    | (intro x; revert x; with_reducible refine OnlyIn.letZ ?_) | (lift_lets; intro x; revert x) | split
    | with_reducible apply OnlyIn.lit

theorem State.reinitLegend_only (s : State) :
    OnlyIn [.leg] s (s.reinitLegend) := by
  unfold State.reinitLegend
  repeat' first
    | with_reducible exact Or.inr rfl | exact Or.inl (by decide) | assumption | decide
    | with_reducible exact OnlyIn.refl _ _ | split | with_reducible apply OnlyIn.lit

theorem State.reinitCartouche_only (s : State) :
    OnlyIn [.crt] s (s.reinitCartouche) := by
  unfold State.reinitCartouche
  repeat' first
    | with_reducible exact Or.inr rfl | exact Or.inl (by decide) | assumption | decide
    | with_reducible exact OnlyIn.refl _ _ | split | with_reducible apply OnlyIn.lit

theorem State.setFwSlot_only (s : State) (slot : Nat) (x : FwSlot) :
    OnlyIn [.mode] s (s.setFwSlot slot x) := by
  unfold State.setFwSlot
  repeat' first
    | with_reducible exact Or.inr rfl | exact Or.inl (by decide) | assumption | decide
    | with_reducible exact OnlyIn.refl _ _ | split | with_reducible apply OnlyIn.lit

theorem State.installDone_only (s : State) (r : Nat) :
    OnlyIn [.mode] s (s.installDone r) := by
  unfold State.installDone
  repeat' first
    | with_reducible exact Or.inr rfl | exact Or.inl (by decide) | assumption | decide
    | with_reducible exact OnlyIn.refl _ _ | split | with_reducible apply OnlyIn.lit

theorem State.resumeClaim_only (s : State) :
    OnlyIn [.mode, .evr, .red] s (s.resumeClaim) := by
  unfold State.resumeClaim
  repeat' first
    | with_reducible exact Or.inr rfl | exact Or.inl (by decide) | assumption | decide
    | with_reducible exact OnlyIn.refl _ _ | with_reducible refine OnlyIn.step ?_ (State.ev_only ..) ?_
    | with_reducible refine OnlyIn.step ?_ (State.closeFault_only ..) ?_ | split | with_reducible apply OnlyIn.lit

theorem State.updWit_only (s : State) (i : Nat) (f : WitnessStation → WitnessStation) :
    OnlyIn [.wit] s (s.updWit i f) := by
  unfold State.updWit
  repeat' first
    | with_reducible exact Or.inr rfl | exact Or.inl (by decide) | assumption | decide
    | with_reducible exact OnlyIn.refl _ _ | split | with_reducible apply OnlyIn.lit

theorem State.witSend_only (s : State) (i dest kind station holder claim : Nat) (f : MTime) (seq info : Nat) :
    OnlyIn [.net, .sent] s (s.witSend i dest kind station holder claim f seq info) := by
  unfold State.witSend
  repeat' first
    | with_reducible exact Or.inr rfl | exact Or.inl (by decide) | assumption | decide
    | with_reducible exact OnlyIn.refl _ _ | (intro x; revert x; with_reducible refine OnlyIn.letS ?_ (fun _ _ => ?_))
    | (intro x; revert x; with_reducible refine OnlyIn.letZ ?_)
    | with_reducible refine OnlyIn.step ?_ (State.send_only ..) ?_ | (lift_lets; intro x; revert x) | split
    | with_reducible apply OnlyIn.lit

theorem State.noteCopy_only (s : State) (n : Nat) :
    OnlyIn [.red] s (s.noteCopy n) := by
  unfold State.noteCopy
  repeat' first
    | with_reducible exact Or.inr rfl | exact Or.inl (by decide) | assumption | decide
    | with_reducible exact OnlyIn.refl _ _ | (intro x; revert x; with_reducible refine OnlyIn.letS ?_ (fun _ _ => ?_))
    | (intro x; revert x; with_reducible refine OnlyIn.letZ ?_) | (lift_lets; intro x; revert x) | split
    | with_reducible apply OnlyIn.lit

theorem State.putEntry_only (s : State) (e : WEntry) :
    OnlyIn [.mem] s (s.putEntry e) := by
  unfold State.putEntry
  repeat' first
    | with_reducible exact Or.inr rfl | exact Or.inl (by decide) | assumption | decide
    | with_reducible exact OnlyIn.refl _ _ | split | with_reducible apply OnlyIn.lit

theorem State.putRecords_only (s : State) (l : List (Nat × SurveyRec)) :
    OnlyIn [.sur] s (s.putRecords l) := by
  unfold State.putRecords
  repeat' first
    | with_reducible exact Or.inr rfl | exact Or.inl (by decide) | assumption | decide
    | with_reducible exact OnlyIn.refl _ _ | with_reducible refine OnlyIn.foldl (fun _ _ => ?_) _ _ | split
    | with_reducible apply OnlyIn.lit

theorem State.putBytes_only (s : State) (addr : Nat) (b : List Byte) :
    OnlyIn [.mem] s (s.putBytes addr b) := by
  unfold State.putBytes
  repeat' first
    | with_reducible exact Or.inr rfl | exact Or.inl (by decide) | assumption | decide
    | with_reducible exact OnlyIn.refl _ _ | with_reducible refine OnlyIn.step ?_ (State.loadImage_only ..) ?_ | split
    | with_reducible apply OnlyIn.lit

theorem State.startTransfer_only (s : State) (swap : Bool) :
    OnlyIn [.red, .net, .sent] s (s.startTransfer swap) := by
  unfold State.startTransfer
  repeat' first
    | with_reducible exact Or.inr rfl | exact Or.inl (by decide) | assumption | decide
    | with_reducible exact OnlyIn.refl _ _ | (intro x; revert x; with_reducible refine OnlyIn.letS ?_ (fun _ _ => ?_))
    | (intro x; revert x; with_reducible refine OnlyIn.letZ ?_)
    | with_reducible refine OnlyIn.step ?_ (State.sendClaim_only ..) ?_ | (lift_lets; intro x; revert x) | split
    | with_reducible apply OnlyIn.lit

theorem State.stepOne_only (s : State) (ina inb cap : Nat) :
    OnlyIn [.mode, .evr, .crt, .clk, .pwr] s (s.stepOne ina inb cap) := by
  unfold State.stepOne
  repeat' first
    | with_reducible exact Or.inr rfl | exact Or.inl (by decide) | assumption | decide
    | with_reducible exact OnlyIn.refl _ _ | with_reducible refine OnlyIn.step ?_ (State.fault_only ..) ?_ | split
    | with_reducible apply OnlyIn.lit

theorem State.inputChange_only (s : State) (p : PowerPart) (code input : Nat) :
    OnlyIn [.evr, .pwr] s (s.inputChange p code input) := by
  unfold State.inputChange
  repeat' first
    | with_reducible exact Or.inr rfl | exact Or.inl (by decide) | assumption | decide
    | with_reducible exact OnlyIn.refl _ _ | with_reducible refine OnlyIn.step ?_ (State.ev_only ..) ?_ | split
    | with_reducible apply OnlyIn.lit

theorem State.unpowered_only (s : State) :
    OnlyIn [.mode, .evr, .dio, .aio, .clk, .pwr] s (s.unpowered) := by
  unfold State.unpowered
  repeat' first
    | with_reducible exact Or.inr rfl | exact Or.inl (by decide) | assumption | decide
    | with_reducible exact OnlyIn.refl _ _ | with_reducible refine OnlyIn.step ?_ (State.fault_only ..) ?_ | split
    | with_reducible apply OnlyIn.lit

theorem State.setVcore_only (s : State) (v : Nat) :
    OnlyIn [.pwr] s (s.setVcore v) := by
  unfold State.setVcore
  repeat' first
    | with_reducible exact Or.inr rfl | exact Or.inl (by decide) | assumption | decide
    | with_reducible exact OnlyIn.refl _ _ | (intro x; revert x; with_reducible refine OnlyIn.letS ?_ (fun _ _ => ?_))
    | (intro x; revert x; with_reducible refine OnlyIn.letZ ?_) | (lift_lets; intro x; revert x) | split
    | with_reducible apply OnlyIn.lit

theorem State.readyUnit_only (s : State) (u : Unit_) :
    OnlyIn [.tri] s (s.readyUnit u) := by
  unfold State.readyUnit
  repeat' first
    | with_reducible exact Or.inr rfl | exact Or.inl (by decide) | assumption | decide
    | with_reducible exact OnlyIn.refl _ _ | split | with_reducible apply OnlyIn.lit

theorem State.preempt_only (s : State) :
    OnlyIn [.tri] s (s.preempt) := by
  unfold State.preempt
  repeat' first
    | with_reducible exact Or.inr rfl | exact Or.inl (by decide) | assumption | decide
    | with_reducible exact OnlyIn.refl _ _ | (intro x; revert x; with_reducible refine OnlyIn.letS ?_ (fun _ _ => ?_))
    | (intro x; revert x; with_reducible refine OnlyIn.letZ ?_) | (lift_lets; intro x; revert x) | split
    | with_reducible apply OnlyIn.lit

theorem State.taskStarted_only (s : State) (t : Nat) :
    OnlyIn [.mode] s (s.taskStarted t) := by
  unfold State.taskStarted
  repeat' first
    | with_reducible exact Or.inr rfl | exact Or.inl (by decide) | assumption | decide
    | with_reducible exact OnlyIn.refl _ _ | with_reducible refine OnlyIn.step ?_ (State.updTrans_only ..) ?_ | split
    | with_reducible apply OnlyIn.lit

theorem State.freezeTask_only (s : State) (t : Nat) :
    OnlyIn [.tri, .tsk] s (s.freezeTask t) := by
  unfold State.freezeTask
  repeat' first
    | with_reducible exact Or.inr rfl | exact Or.inl (by decide) | assumption | decide
    | with_reducible exact OnlyIn.refl _ _ | (intro x; revert x; with_reducible refine OnlyIn.letS ?_ (fun _ _ => ?_))
    | (intro x; revert x; with_reducible refine OnlyIn.letZ ?_)
    | with_reducible refine OnlyIn.step ?_ (State.updTask_only ..) ?_
    | with_reducible refine OnlyIn.step ?_ (State.readyUnit_only ..) ?_ | (lift_lets; intro x; revert x) | split
    | with_reducible apply OnlyIn.lit

theorem State.stageOut_only (s : State) (latch release : MTime) (o : OutVal) :
    OnlyIn [.net, .sent] s (s.stageOut latch release o) := by
  unfold State.stageOut
  repeat' first
    | with_reducible exact Or.inr rfl | exact Or.inl (by decide) | assumption | decide
    | with_reducible exact OnlyIn.refl _ _ | (intro x; revert x; with_reducible refine OnlyIn.letS ?_ (fun _ _ => ?_))
    | (intro x; revert x; with_reducible refine OnlyIn.letZ ?_)
    | with_reducible refine OnlyIn.step ?_ (State.sendStage_only ..) ?_ | (lift_lets; intro x; revert x) | split
    | with_reducible apply OnlyIn.lit

theorem State.restTask_only (s : State) (t took : Nat) :
    OnlyIn [.tsk] s (s.restTask t took) := by
  unfold State.restTask
  repeat' first
    | with_reducible exact Or.inr rfl | exact Or.inl (by decide) | assumption | decide
    | with_reducible exact OnlyIn.refl _ _ | with_reducible refine OnlyIn.step ?_ (State.updTask_only ..) ?_ | split
    | with_reducible apply OnlyIn.lit

theorem State.writeSlot_only (s : State) (n : Nat) (r : WptRec) :
    OnlyIn [.wpt] s (s.writeSlot n r) := by
  unfold State.writeSlot
  repeat' first
    | with_reducible exact Or.inr rfl | exact Or.inl (by decide) | assumption | decide
    | with_reducible exact OnlyIn.refl _ _ | (intro x; revert x; with_reducible refine OnlyIn.letS ?_ (fun _ _ => ?_))
    | (intro x; revert x; with_reducible refine OnlyIn.letZ ?_)
    | with_reducible refine OnlyIn.step ?_ (State.setSlot_only ..) ?_ | (lift_lets; intro x; revert x) | split
    | with_reducible apply OnlyIn.lit

theorem State.planStep_only (s : State) (delta : Int) (code : Nat) :
    OnlyIn [.mer] s (s.planStep delta code) := by
  unfold State.planStep
  repeat' first
    | with_reducible exact Or.inr rfl | exact Or.inl (by decide) | assumption | decide
    | with_reducible exact OnlyIn.refl _ _ | split | with_reducible apply OnlyIn.lit

theorem State.servo_only (s : State) (off : Int) :
    OnlyIn [.mer] s (s.servo off) := by
  unfold State.servo
  repeat' first
    | with_reducible exact Or.inr rfl | exact Or.inl (by decide) | assumption | decide
    | with_reducible exact OnlyIn.refl _ _ | (intro x; revert x; with_reducible refine OnlyIn.letS ?_ (fun _ _ => ?_))
    | (intro x; revert x; with_reducible refine OnlyIn.letZ ?_) | (lift_lets; intro x; revert x) | split
    | with_reducible apply OnlyIn.lit

theorem State.noteScale_only (s : State) :
    OnlyIn [.mer] s (s.noteScale) := by
  unfold State.noteScale
  repeat' first
    | with_reducible exact Or.inr rfl | exact Or.inl (by decide) | assumption | decide
    | with_reducible exact OnlyIn.refl _ _ | split | with_reducible apply OnlyIn.lit

theorem State.forwardRing_only (s : State) (p kind seq : Nat) :
    OnlyIn [.net, .sent] s (s.forwardRing p kind seq) := by
  unfold State.forwardRing
  repeat' first
    | with_reducible exact Or.inr rfl | exact Or.inl (by decide) | assumption | decide
    | with_reducible exact OnlyIn.refl _ _ | with_reducible refine OnlyIn.step ?_ (State.send_only ..) ?_ | split
    | with_reducible apply OnlyIn.lit

theorem State.stepGo_only (s : State) :
    OnlyIn [.mer] s (s.stepGo) := by
  unfold State.stepGo
  repeat' first
    | with_reducible exact Or.inr rfl | exact Or.inl (by decide) | assumption | decide
    | with_reducible exact OnlyIn.refl _ _ | with_reducible refine OnlyIn.step ?_ (State.planStep_only ..) ?_ | split
    | with_reducible apply OnlyIn.lit

theorem State.capture_only (s : State) :
    OnlyIn [.mer] s (s.capture) := by
  unfold State.capture
  repeat' first
    | with_reducible exact Or.inr rfl | exact Or.inl (by decide) | assumption | decide
    | with_reducible exact OnlyIn.refl _ _ | split | with_reducible apply OnlyIn.lit

theorem State.updBank_only (s : State) (a : Agent) (f : Bank → Bank) :
    OnlyIn [.sys] s (s.updBank a f) := by
  unfold State.updBank
  repeat' first
    | with_reducible exact Or.inr rfl | exact Or.inl (by decide) | assumption | decide
    | with_reducible exact OnlyIn.refl _ _ | split | with_reducible apply OnlyIn.lit

theorem State.wptLoad_only (s : State) (a : Agent) :
    OnlyIn [.sys] s (s.wptLoad a) := by
  unfold State.wptLoad
  repeat' first
    | with_reducible exact Or.inr rfl | exact Or.inl (by decide) | assumption | decide
    | with_reducible exact OnlyIn.refl _ _ | with_reducible refine OnlyIn.step ?_ (State.updBank_only ..) ?_ | split
    | with_reducible apply OnlyIn.lit

theorem State.armSnapshot_only (s : State) (t : MTime) :
    OnlyIn [.sys] s (s.armSnapshot t) := by
  unfold State.armSnapshot
  repeat' first
    | with_reducible exact Or.inr rfl | exact Or.inl (by decide) | assumption | decide
    | with_reducible exact OnlyIn.refl _ _ | split | with_reducible apply OnlyIn.lit

theorem State.injectCore_only (s : State) (c : Nat) :
    OnlyIn [.tri] s (s.injectCore c) := by
  unfold State.injectCore
  repeat' first
    | with_reducible exact Or.inr rfl | exact Or.inl (by decide) | assumption | decide
    | with_reducible exact OnlyIn.refl _ _ | split | with_reducible apply OnlyIn.lit

theorem State.refreshPermit_only (s : State) (v : Nat) :
    OnlyIn [.red] s (s.refreshPermit v) := by
  unfold State.refreshPermit
  repeat' first
    | with_reducible exact Or.inr rfl | exact Or.inl (by decide) | assumption | decide
    | with_reducible exact OnlyIn.refl _ _ | split | with_reducible apply OnlyIn.lit

theorem State.unlatchMask_only (s : State) (mask : Nat) :
    OnlyIn [.dio] s (s.unlatchMask mask) := by
  unfold State.unlatchMask
  repeat' first
    | with_reducible exact Or.inr rfl | exact Or.inl (by decide) | assumption | decide
    | with_reducible exact OnlyIn.refl _ _ | with_reducible refine OnlyIn.step ?_ (State.updDio_only ..) ?_
    | with_reducible refine OnlyIn.each (fun _ _ => ?_) _ _ | split | with_reducible apply OnlyIn.lit

theorem State.writeTsk_only (s : State) (o v : Nat) :
    OnlyIn [.tsk] s (s.writeTsk o v) := by
  unfold State.writeTsk
  repeat' first
    | with_reducible exact Or.inr rfl | exact Or.inl (by decide) | assumption | decide
    | with_reducible exact OnlyIn.refl _ _ | split | with_reducible apply OnlyIn.lit

theorem State.writeRed_only (s : State) (o v : Nat) :
    OnlyIn [.red] s (s.writeRed o v) := by
  unfold State.writeRed
  repeat' first
    | with_reducible exact Or.inr rfl | exact Or.inl (by decide) | assumption | decide
    | with_reducible exact OnlyIn.refl _ _ | with_reducible refine OnlyIn.step ?_ (State.refreshPermit_only ..) ?_
    | split | with_reducible apply OnlyIn.lit

theorem State.writeTrim_only (s : State) (c : Nat) (k : Bool) (v : Nat) :
    OnlyIn [.aio] s (s.writeTrim c k v) := by
  unfold State.writeTrim
  repeat' first
    | with_reducible exact Or.inr rfl | exact Or.inl (by decide) | assumption | decide
    | with_reducible exact OnlyIn.refl _ _ | (intro x; revert x; with_reducible refine OnlyIn.letS ?_ (fun _ _ => ?_))
    | (intro x; revert x; with_reducible refine OnlyIn.letZ ?_) | (lift_lets; intro x; revert x) | split
    | with_reducible apply OnlyIn.lit

theorem State.writeAio_only (s : State) (o v : Nat) :
    OnlyIn [.aio] s (s.writeAio o v) := by
  unfold State.writeAio
  repeat' first
    | with_reducible exact Or.inr rfl | exact Or.inl (by decide) | assumption | decide
    | with_reducible exact OnlyIn.refl _ _ | (intro x; revert x; with_reducible refine OnlyIn.letS ?_ (fun _ _ => ?_))
    | (intro x; revert x; with_reducible refine OnlyIn.letZ ?_)
    | with_reducible refine OnlyIn.step ?_ (State.writeTrim_only ..) ?_ | (lift_lets; intro x; revert x) | split
    | with_reducible apply OnlyIn.lit

theorem State.writeSaf_only (s : State) (o v : Nat) :
    OnlyIn [.saf] s (s.writeSaf o v) := by
  unfold State.writeSaf
  repeat' first
    | with_reducible exact Or.inr rfl | exact Or.inl (by decide) | assumption | decide
    | with_reducible exact OnlyIn.refl _ _ | split | with_reducible apply OnlyIn.lit

theorem State.writeCan_only (s : State) (c o v : Nat) :
    OnlyIn [.can] s (s.writeCan c o v) := by
  unfold State.writeCan
  repeat' first
    | with_reducible exact Or.inr rfl | exact Or.inl (by decide) | assumption | decide
    | with_reducible exact OnlyIn.refl _ _ | (intro x; revert x; with_reducible refine OnlyIn.letS ?_ (fun _ _ => ?_))
    | (intro x; revert x; with_reducible refine OnlyIn.letZ ?_)
    | with_reducible refine OnlyIn.step ?_ (State.updCan_only ..) ?_ | (lift_lets; intro x; revert x) | split
    | with_reducible apply OnlyIn.lit

theorem State.writeNet_only (s : State) (o v : Nat) :
    OnlyIn [.net] s (s.writeNet o v) := by
  unfold State.writeNet
  repeat' first
    | with_reducible exact Or.inr rfl | exact Or.inl (by decide) | assumption | decide
    | with_reducible exact OnlyIn.refl _ _ | split | with_reducible apply OnlyIn.lit

theorem State.writeLeg_only (s : State) (a : Agent) (o v : Nat) :
    OnlyIn [.sys, .leg] s (s.writeLeg a o v) := by
  unfold State.writeLeg
  repeat' first
    | with_reducible exact Or.inr rfl | exact Or.inl (by decide) | assumption | decide
    | with_reducible exact OnlyIn.refl _ _ | with_reducible refine OnlyIn.step ?_ (State.updBank_only ..) ?_ | split
    | with_reducible apply OnlyIn.lit

theorem State.writeEvr_only (s : State) (o v : Nat) :
    OnlyIn [.evr] s (s.writeEvr o v) := by
  unfold State.writeEvr
  repeat' first
    | with_reducible exact Or.inr rfl | exact Or.inl (by decide) | assumption | decide
    | with_reducible exact OnlyIn.refl _ _ | split | with_reducible apply OnlyIn.lit

theorem State.writeClk_only (s : State) (o v : Nat) :
    OnlyIn [.clk] s (s.writeClk o v) := by
  unfold State.writeClk
  repeat' first
    | with_reducible exact Or.inr rfl | exact Or.inl (by decide) | assumption | decide
    | with_reducible exact OnlyIn.refl _ _ | split | with_reducible apply OnlyIn.lit

theorem State.setPair_only (s : State) (f o v : Nat) :
    OnlyIn [.sys, .mer] s (s.setPair f o v) := by
  unfold State.setPair
  repeat' first
    | with_reducible exact Or.inr rfl | exact Or.inl (by decide) | assumption | decide
    | with_reducible exact OnlyIn.refl _ _ | split | with_reducible apply OnlyIn.lit

theorem State.tmrFailure_only (s : State) (k : Nat) :
    OnlyIn [.freeCtr, .mode, .evr, .sys, .tri, .mer, .wpt, .tsk, .ring, .cen, .red, .wit, .net, .leg, .sur, .dio, .aio, .saf, .can, .crt, .clk, .mem, .pwr, .elems, .sent] s (s.tmrFailure k) := by
  unfold State.tmrFailure
  repeat' first
    | with_reducible exact Or.inr rfl | exact Or.inl (by decide) | assumption | decide
    | with_reducible exact OnlyIn.refl _ _ | (intro x; revert x; with_reducible refine OnlyIn.letS ?_ (fun _ _ => ?_))
    | (intro x; revert x; with_reducible refine OnlyIn.letZ ?_)
    | with_reducible refine OnlyIn.step ?_ (State.faultRep_only ..) ?_ | (lift_lets; intro x; revert x) | split
    | with_reducible apply OnlyIn.lit

theorem State.writerViolation_only (s : State) :
    OnlyIn [.evr, .tri] s (s.writerViolation) := by
  unfold State.writerViolation
  repeat' first
    | with_reducible exact Or.inr rfl | exact Or.inl (by decide) | assumption | decide
    | with_reducible exact OnlyIn.refl _ _ | with_reducible refine OnlyIn.step ?_ (State.evRep_only ..) ?_ | split
    | with_reducible apply OnlyIn.lit

theorem State.commitMemory_only (s : State) (at_ : Nat) (e : WEntry) :
    OnlyIn [.mode, .mem] s (s.commitMemory at_ e) := by
  unfold State.commitMemory
  repeat' first
    | with_reducible exact Or.inr rfl | exact Or.inl (by decide) | assumption | decide
    | with_reducible exact OnlyIn.refl _ _ | (intro x; revert x; with_reducible refine OnlyIn.letS ?_ (fun _ _ => ?_))
    | (intro x; revert x; with_reducible refine OnlyIn.letZ ?_)
    | with_reducible refine OnlyIn.step ?_ (State.restoreWords_only ..) ?_ | (lift_lets; intro x; revert x) | split
    | with_reducible apply OnlyIn.lit

theorem State.dropSet_only (s : State) :
    OnlyIn [.saf] s (s.dropSet) := by
  unfold State.dropSet
  repeat' first
    | with_reducible exact Or.inr rfl | exact Or.inl (by decide) | assumption | decide
    | with_reducible exact OnlyIn.refl _ _ | split | with_reducible apply OnlyIn.lit

theorem State.relay__only (s : State) (m : List Byte) :
    OnlyIn [.net, .sent] s (s.relay_ m) := by
  unfold State.relay_
  repeat' first
    | with_reducible exact Or.inr rfl | exact Or.inl (by decide) | assumption | decide
    | with_reducible exact OnlyIn.refl _ _ | with_reducible refine OnlyIn.step ?_ (State.send_only ..) ?_ | split
    | with_reducible apply OnlyIn.lit

theorem State.keepAnswer_only (s : State) (req ans : List Byte) :
    OnlyIn [.leg] s (s.keepAnswer req ans) := by
  unfold State.keepAnswer
  repeat' first
    | with_reducible exact Or.inr rfl | exact Or.inl (by decide) | assumption | decide
    | with_reducible exact OnlyIn.refl _ _ | with_reducible refine OnlyIn.step ?_ (State.updSession_only ..) ?_
    | split | with_reducible apply OnlyIn.lit

theorem State.setRate_only (s : State) (src : Source_) (r : Nat × Nat) :
    OnlyIn [.leg] s (s.setRate src r) := by
  unfold State.setRate
  repeat' first
    | with_reducible exact Or.inr rfl | exact Or.inl (by decide) | assumption | decide
    | with_reducible exact OnlyIn.refl _ _ | (intro x; revert x; with_reducible refine OnlyIn.letS ?_ (fun _ _ => ?_))
    | (intro x; revert x; with_reducible refine OnlyIn.letZ ?_) | (lift_lets; intro x; revert x) | split
    | with_reducible apply OnlyIn.lit

theorem State.freeSession_only (s : State) (i : Nat) :
    OnlyIn [.leg] s (s.freeSession i) := by
  unfold State.freeSession
  repeat' first
    | with_reducible exact Or.inr rfl | exact Or.inl (by decide) | assumption | decide
    | with_reducible exact OnlyIn.refl _ _ | with_reducible refine OnlyIn.step ?_ (State.updSession_only ..) ?_
    | split | with_reducible apply OnlyIn.lit

theorem State.expireSession_only (s : State) (i : Nat) :
    OnlyIn [.leg] s (s.expireSession i) := by
  unfold State.expireSession
  repeat' first
    | with_reducible exact Or.inr rfl | exact Or.inl (by decide) | assumption | decide
    | with_reducible exact OnlyIn.refl _ _ | (intro x; revert x; with_reducible refine OnlyIn.letS ?_ (fun _ _ => ?_))
    | (intro x; revert x; with_reducible refine OnlyIn.letZ ?_)
    | with_reducible refine OnlyIn.step ?_ (State.freeSession_only ..) ?_ | (lift_lets; intro x; revert x) | split
    | with_reducible apply OnlyIn.lit

theorem State.updCore_only (s : State) (c : Nat) (f : Core → Core) :
    OnlyIn [.tri] s (s.updCore c f) := by
  unfold State.updCore
  repeat' first
    | with_reducible exact Or.inr rfl | exact Or.inl (by decide) | assumption | decide
    | with_reducible exact OnlyIn.refl _ _ | split | with_reducible apply OnlyIn.lit

theorem State.privateStore_only (s : State) (c a w d : Nat) :
    OnlyIn [.mode, .mem] s (s.privateStore c a w d) := by
  unfold State.privateStore
  repeat' first
    | with_reducible exact Or.inr rfl | exact Or.inl (by decide) | assumption | decide
    | with_reducible exact OnlyIn.refl _ _ | (intro x; revert x; with_reducible refine OnlyIn.letS ?_ (fun _ _ => ?_))
    | (intro x; revert x; with_reducible refine OnlyIn.letZ ?_)
    | with_reducible refine OnlyIn.step ?_ (State.restoreWords_only ..) ?_ | (lift_lets; intro x; revert x) | split
    | with_reducible apply OnlyIn.lit

theorem State.retire_only (s : State) (c : Nat) (i : SigItem) :
    OnlyIn [.mode, .tri, .mem] s (s.retire c i) := by
  unfold State.retire
  repeat' first
    | with_reducible exact Or.inr rfl | exact Or.inl (by decide) | assumption | decide
    | with_reducible exact OnlyIn.refl _ _ | with_reducible refine OnlyIn.step ?_ (State.privateStore_only ..) ?_
    | with_reducible refine OnlyIn.step ?_ (State.updCore_only ..) ?_ | split | with_reducible apply OnlyIn.lit

theorem State.applyRun_only (s : State) (c : Nat) (r : CoreRun) :
    OnlyIn [.mode, .tri, .mem] s (s.applyRun c r) := by
  unfold State.applyRun
  repeat' first
    | with_reducible exact Or.inr rfl | exact Or.inl (by decide) | assumption | decide
    | with_reducible exact OnlyIn.refl _ _ | with_reducible refine OnlyIn.step ?_ (State.retire_only ..) ?_
    | with_reducible refine OnlyIn.step ?_ (State.updCore_only ..) ?_
    | with_reducible refine OnlyIn.each (fun _ _ => ?_) _ _ | split | with_reducible apply OnlyIn.lit

theorem State.trap_only (s : State) (c cause tval pc : Nat) (user : Bool) :
    OnlyIn [.tri] s (s.trap c cause tval pc user) := by
  unfold State.trap
  repeat' first
    | with_reducible exact Or.inr rfl | exact Or.inl (by decide) | assumption | decide
    | with_reducible exact OnlyIn.refl _ _ | (intro x; revert x; with_reducible refine OnlyIn.letS ?_ (fun _ _ => ?_))
    | (intro x; revert x; with_reducible refine OnlyIn.letZ ?_)
    | with_reducible refine OnlyIn.step ?_ (State.updCore_only ..) ?_ | (lift_lets; intro x; revert x) | split
    | with_reducible apply OnlyIn.lit

theorem State.noteSkew_only (s : State) (first seq : Nat) :
    OnlyIn [.tri] s (s.noteSkew first seq) := by
  unfold State.noteSkew
  repeat' first
    | with_reducible exact Or.inr rfl | exact Or.inl (by decide) | assumption | decide
    | with_reducible exact OnlyIn.refl _ _ | (intro x; revert x; with_reducible refine OnlyIn.letS ?_ (fun _ _ => ?_))
    | (intro x; revert x; with_reducible refine OnlyIn.letZ ?_) | (lift_lets; intro x; revert x) | split
    | with_reducible apply OnlyIn.lit

theorem State.agree_only (s : State) (a : Arrival) (cores old : List Nat) :
    OnlyIn [.freeCtr, .mode, .evr, .tri, .mer, .wpt, .tsk, .ring, .cen, .red, .wit, .net, .leg, .sur, .dio, .aio, .saf, .can, .crt, .clk, .mem, .pwr, .elems, .sent] s (s.agree a cores old) := by
  unfold State.agree
  repeat' first
    | with_reducible exact Or.inr rfl | exact Or.inl (by decide) | assumption | decide
    | with_reducible exact OnlyIn.refl _ _ | split | with_reducible apply OnlyIn.lit

theorem State.setQueueOf_only (s : State) (c : Nat) (q : List QEntry) :
    OnlyIn [.tri] s (s.setQueueOf c q) := by
  unfold State.setQueueOf
  repeat' first
    | with_reducible exact Or.inr rfl | exact Or.inl (by decide) | assumption | decide
    | with_reducible exact OnlyIn.refl _ _ | split | with_reducible apply OnlyIn.lit

theorem State.endService_only (s : State) (v : Nat) :
    OnlyIn [.tri, .leg] s (s.endService v) := by
  unfold State.endService
  repeat' first
    | with_reducible exact Or.inr rfl | exact Or.inl (by decide) | assumption | decide
    | with_reducible exact OnlyIn.refl _ _ | (intro x; revert x; with_reducible refine OnlyIn.letS ?_ (fun _ _ => ?_))
    | (intro x; revert x; with_reducible refine OnlyIn.letZ ?_)
    | with_reducible refine OnlyIn.step ?_ (State.endUnit_only ..) ?_ | (lift_lets; intro x; revert x) | split
    | with_reducible apply OnlyIn.lit

theorem State.acceptItem_only (s : State) (q seq : Nat) :
    OnlyIn [.tri] s (s.acceptItem q seq) := by
  unfold State.acceptItem
  repeat' first
    | with_reducible exact Or.inr rfl | exact Or.inl (by decide) | assumption | decide
    | with_reducible exact OnlyIn.refl _ _ | split | with_reducible apply OnlyIn.lit

theorem State.stageBytes_only (s : State) (off : Nat) (b : List Byte) :
    OnlyIn [.leg] s (s.stageBytes off b) := by
  unfold State.stageBytes
  repeat' first
    | with_reducible exact Or.inr rfl | exact Or.inl (by decide) | assumption | decide
    | with_reducible exact OnlyIn.refl _ _ | with_reducible refine OnlyIn.foldl (fun _ _ => ?_) _ _ | split
    | with_reducible apply OnlyIn.lit

theorem State.newForward_only (s : State) (f : Forward) :
    OnlyIn [.leg] s (s.newForward f) := by
  unfold State.newForward
  repeat' first
    | with_reducible exact Or.inr rfl | exact Or.inl (by decide) | assumption | decide
    | with_reducible exact OnlyIn.refl _ _ | split | with_reducible apply OnlyIn.lit

theorem State.relayWrite_only (s : State) (a : Ask) :
    OnlyIn [.net, .leg, .sent] s (s.relayWrite a) := by
  unfold State.relayWrite
  repeat' first
    | with_reducible exact Or.inr rfl | exact Or.inl (by decide) | assumption | decide
    | with_reducible exact OnlyIn.refl _ _ | (intro x; revert x; with_reducible refine OnlyIn.letS ?_ (fun _ _ => ?_))
    | (intro x; revert x; with_reducible refine OnlyIn.letZ ?_)
    | with_reducible refine OnlyIn.step ?_ (State.newForward_only ..) ?_
    | with_reducible refine OnlyIn.step ?_ (State.relay__only ..) ?_ | (lift_lets; intro x; revert x) | split
    | with_reducible apply OnlyIn.lit

theorem State.dropForward_only (s : State) (id : Nat) :
    OnlyIn [.leg] s (s.dropForward id) := by
  unfold State.dropForward
  repeat' first
    | with_reducible exact Or.inr rfl | exact Or.inl (by decide) | assumption | decide
    | with_reducible exact OnlyIn.refl _ _ | split | with_reducible apply OnlyIn.lit

theorem State.setForward_only (s : State) (x : Forward) :
    OnlyIn [.leg] s (s.setForward x) := by
  unfold State.setForward
  repeat' first
    | with_reducible exact Or.inr rfl | exact Or.inl (by decide) | assumption | decide
    | with_reducible exact OnlyIn.refl _ _ | split | with_reducible apply OnlyIn.lit

theorem State.dropPartial_only (s : State) (c k : Nat) :
    OnlyIn [.leg] s (s.dropPartial c k) := by
  unfold State.dropPartial
  repeat' first
    | with_reducible exact Or.inr rfl | exact Or.inl (by decide) | assumption | decide
    | with_reducible exact OnlyIn.refl _ _ | split | with_reducible apply OnlyIn.lit

theorem State.keepPartial_only (s : State) (c k : Nat) (r : Reassembly) :
    OnlyIn [.leg] s (s.keepPartial c k r) := by
  unfold State.keepPartial
  repeat' first
    | with_reducible exact Or.inr rfl | exact Or.inl (by decide) | assumption | decide
    | with_reducible exact OnlyIn.refl _ _ | with_reducible refine OnlyIn.step ?_ (State.dropPartial_only ..) ?_
    | split | with_reducible apply OnlyIn.lit

theorem State.updService_only (s : State) (v : Nat) (f : Service → Service) :
    OnlyIn [.leg] s (s.updService v f) := by
  unfold State.updService
  repeat' first
    | with_reducible exact Or.inr rfl | exact Or.inl (by decide) | assumption | decide
    | with_reducible exact OnlyIn.refl _ _ | split | with_reducible apply OnlyIn.lit

theorem State.placeHeld_only (s : State) (c o : Nat) (held : Option Nat) :
    OnlyIn [.can] s (s.placeHeld c o held) := by
  unfold State.placeHeld
  repeat' first
    | with_reducible exact Or.inr rfl | exact Or.inl (by decide) | assumption | decide
    | with_reducible exact OnlyIn.refl _ _ | with_reducible refine OnlyIn.step ?_ (State.updObj_only ..) ?_ | split
    | with_reducible apply OnlyIn.lit

theorem State.lostArbitration_only (s : State) (c : Nat) :
    OnlyIn [.can] s (s.lostArbitration c) := by
  unfold State.lostArbitration
  repeat' first
    | with_reducible exact Or.inr rfl | exact Or.inl (by decide) | assumption | decide
    | with_reducible exact OnlyIn.refl _ _ | with_reducible refine OnlyIn.step ?_ (State.updCan_only ..) ?_ | split
    | with_reducible apply OnlyIn.lit

theorem State.plantReply_only (s : State) (kind : Nat) :
    OnlyIn [.net, .sent] s (s.plantReply kind) := by
  unfold State.plantReply
  repeat' first
    | with_reducible exact Or.inr rfl | exact Or.inl (by decide) | assumption | decide
    | with_reducible exact OnlyIn.refl _ _ | with_reducible refine OnlyIn.step ?_ (State.send_only ..) ?_ | split
    | with_reducible apply OnlyIn.lit

theorem State.hsrPass_only (s : State) (p : Nat) :
    OnlyIn [.net, .sent] s (s.hsrPass p) := by
  unfold State.hsrPass
  repeat' first
    | with_reducible exact Or.inr rfl | exact Or.inl (by decide) | assumption | decide
    | with_reducible exact OnlyIn.refl _ _ | with_reducible refine OnlyIn.step ?_ (State.send_only ..) ?_ | split
    | with_reducible apply OnlyIn.lit

theorem State.updLane_only (s : State) (l : Nat) (f : Lane → Lane) :
    OnlyIn [.net] s (s.updLane l f) := by
  unfold State.updLane
  repeat' first
    | with_reducible exact Or.inr rfl | exact Or.inl (by decide) | assumption | decide
    | with_reducible exact OnlyIn.refl _ _ | split | with_reducible apply OnlyIn.lit

theorem State.clearAxis_only (s : State) (a : Nat) :
    OnlyIn [.saf] s (s.clearAxis a) := by
  unfold State.clearAxis
  repeat' first
    | with_reducible exact Or.inr rfl | exact Or.inl (by decide) | assumption | decide
    | with_reducible exact OnlyIn.refl _ _ | (intro x; revert x; with_reducible refine OnlyIn.letS ?_ (fun _ _ => ?_))
    | (intro x; revert x; with_reducible refine OnlyIn.letZ ?_)
    | with_reducible refine OnlyIn.step ?_ (State.updSafAxis_only ..) ?_ | (lift_lets; intro x; revert x) | split

end Sys2Proof.Machine
end

