-- ==== Sys2Proof/Laws/Table.lean ====
section
/-!
SUPPORT. Sparse tables and byte memory: reads after writes, and the canonical form that every operation keeps.
-/
namespace Sys2Proof.Machine

section Tables
variable {α : Type}

theorem Table.find_put (t : Table α) (k j : Nat) (x : α) :
    Table.find (Table.put t k x) j = if j = k then some x else Table.find t j := by
  induction t with
  | nil => simp only [Table.put, Table.find, eq_comm]
  | cons c t ih =>
    obtain ⟨i, y⟩ := c
    unfold Table.put
    split
    · simp only [Table.find, eq_comm]
    · split
      · subst_vars; simp only [Table.find, eq_comm]; split <;> rfl
      · simp only [Table.find, ih]
        split <;> split <;> simp_all

theorem Table.find_erase (t : Table α) (k j : Nat) :
    Table.find (Table.erase t k) j = if j = k then none else Table.find t j := by
  induction t with
  | nil => simp [Table.erase, Table.find]
  | cons c t ih =>
    obtain ⟨i, y⟩ := c
    unfold Table.erase
    split
    · subst_vars; simp only [Table.find, ih, eq_comm]; split <;> simp_all
    · simp only [Table.find, ih]
      split <;> split <;> simp_all

variable [DecidableEq α]

/-- A write is read back, and leaves every other key alone. -/
theorem Table.get_set (t : Table α) (d x : α) (k j : Nat) :
    Table.get (Table.set t d k x) d j = if j = k then x else Table.get t d j := by
  unfold Table.set Table.get
  split
  · rw [Table.find_erase]; split <;> simp_all
  · rw [Table.find_put]; split <;> rfl

@[simp] theorem Table.get_set_same (t : Table α) (d x : α) (k : Nat) : Table.get (Table.set t d k x) d k = x := by
  simp [Table.get_set]

@[simp] theorem Table.get_set_other (t : Table α) (d x : α) {k j : Nat} (h : j ≠ k) :
    Table.get (Table.set t d k x) d j = Table.get t d j := by
  simp [Table.get_set, h]

/-- An entry whose key lies higher starts a canonical table too. -/
theorem Table.wfFrom_weaken {d : α} {k : Nat} {t : Table α} (h : Table.wfFrom d (some k) t = true) (lo : Option Nat)
    (hl : ∀ l, lo = some l → l < k) : Table.wfFrom d lo t = true := by
  cases t with
  | nil => rfl
  | cons c t =>
    cases lo with
    | none => simp_all [Table.wfFrom]
    | some l => have := hl l rfl; simp_all [Table.wfFrom]; omega

theorem Table.wfFrom_put {d x : α} (hx : x ≠ d) {k : Nat} {t : Table α} {lo : Option Nat} (h : Table.wfFrom d lo t = true)
    (hl : ∀ l, lo = some l → l < k) : Table.wfFrom d lo (Table.put t k x) = true := by
  have head : ∀ u, Table.wfFrom d (some k) u = true → Table.wfFrom d lo ((k, x) :: u) = true := by
    intro u hu
    cases lo with
    | none => simp [Table.wfFrom, hx, hu]
    | some l => simp [Table.wfFrom, hx, hu, hl l rfl]
  induction t generalizing lo with
  | nil => exact head [] rfl
  | cons c t ih =>
    obtain ⟨i, y⟩ := c
    have hc : Table.wfFrom d (some i) t = true ∧ y ≠ d ∧ ∀ l, lo = some l → l < i := by
      cases lo <;> simp_all [Table.wfFrom]
    unfold Table.put
    split
    · refine head _ ?_
      simp_all [Table.wfFrom]
    · split
      · subst_vars; exact head _ hc.1
      · have hi : i < k := by omega
        have := ih hc.1 (fun l hl' => by cases hl'; exact hi) (fun u hu => by simp [Table.wfFrom, hx, hu, hi])
        cases lo with
        | none => simp [Table.wfFrom, hc.2.1, this]
        | some l => simp [Table.wfFrom, hc.2.1, this, hc.2.2 l rfl]

/-- Leaving entries out keeps the canonical form. -/
theorem Table.wfFrom_filter {d : α} (p : Nat × α → Bool) {t : Table α} {lo : Option Nat} (h : Table.wfFrom d lo t = true) :
    Table.wfFrom d lo (t.filter p) = true := by
  induction t generalizing lo with
  | nil => rfl
  | cons c t ih =>
    obtain ⟨i, y⟩ := c
    have hc : Table.wfFrom d (some i) t = true ∧ y ≠ d ∧ ∀ l, lo = some l → l < i := by
      cases lo <;> simp_all [Table.wfFrom]
    rw [List.filter_cons]
    split
    · cases lo with
      | none => simp [Table.wfFrom, hc.2.1, ih hc.1]
      | some l => simp [Table.wfFrom, hc.2.1, ih hc.1, hc.2.2 l rfl]
    · exact ih (Table.wfFrom_weaken hc.1 lo hc.2.2)

omit [DecidableEq α] in
theorem Table.erase_eq_filter (t : Table α) (k : Nat) : Table.erase t k = t.filter (fun c => decide (c.1 ≠ k)) := by
  induction t with
  | nil => rfl
  | cons c t ih =>
    obtain ⟨i, y⟩ := c
    rw [List.filter_cons]
    unfold Table.erase
    split <;> simp_all

/-- A write keeps the canonical form. -/
theorem Table.wf_set {d x : α} {k : Nat} {t : Table α} (h : Table.wf t d = true) : Table.wf (Table.set t d k x) d = true := by
  unfold Table.set Table.wf
  split
  · rw [Table.erase_eq_filter]; exact Table.wfFrom_filter _ h
  · exact Table.wfFrom_put ‹_› h (fun _ q => by cases q)

theorem Table.wf_upd {d : α} {k : Nat} {f : α → α} {t : Table α} (h : Table.wf t d = true) : Table.wf (Table.upd t d k f) d = true :=
  Table.wf_set h

end Tables

/-- A byte written is read back, and leaves every other address alone. -/
theorem Memory.read_write (m : Memory) (a b : Nat) (x : Byte) :
    Memory.read (Memory.write m a x) b = if b = a then x else Memory.read m b := Table.get_set ..

theorem Memory.wf_write {m : Memory} {a : Nat} {b : Byte} (h : m.wf = true) : (Memory.write m a b).wf = true := Table.wf_set h

theorem Memory.wf_writeN {m : Memory} (bs : List Byte) (a : Nat) (h : m.wf = true) : (Memory.writeN m a bs).wf = true := by
  induction bs generalizing m a with
  | nil => exact h
  | cons b bs ih => exact ih _ (Memory.wf_write h)

theorem Memory.wf_writeMasked {m : Memory} (bs : List Byte) (a mask : Nat) (h : m.wf = true) :
    (Memory.writeMasked m a mask bs).wf = true := by
  induction bs generalizing m a mask with
  | nil => exact h
  | cons b bs ih =>
    unfold Memory.writeMasked
    split
    · exact ih _ _ (Memory.wf_write h)
    · exact ih _ _ h

theorem Memory.wf_wipe {m : Memory} (lo hi : Nat) (h : m.wf = true) : (Memory.wipe m lo hi).wf = true :=
  Table.wfFrom_filter _ h

theorem Memory.wf_foldl_write (f : List Host.Cell) (g : Host.Cell → Nat) (m : Memory) (h : m.wf = true) :
    (f.foldl (fun m c => Memory.write m (g c) c.2) m).wf = true := by
  induction f generalizing m with
  | nil => exact h
  | cons c f ih => exact ih _ (Memory.wf_write h)

theorem Memory.wf_paste {m : Memory} (base size : Nat) (f : Memory) (h : m.wf = true) : (Memory.paste m base size f).wf = true :=
  Memory.wf_foldl_write f (fun c => base + c.1) _ (Memory.wf_wipe _ _ h)

/-- Bytes written at `a` up leave every address outside them alone. -/
theorem Memory.read_writeN_outside (m : Memory) (bs : List Byte) (a b : Nat) (h : b < a ∨ a + bs.length ≤ b) :
    Memory.read (Memory.writeN m a bs) b = Memory.read m b := by
  induction bs generalizing m a with
  | nil => rfl
  | cons x bs ih =>
    have hl : (x :: bs).length = bs.length + 1 := rfl
    have hb : b ≠ a := by omega
    rw [Memory.writeN, ih _ _ (by omega), Memory.read_write, if_neg hb]

end Sys2Proof.Machine
end

