-- ==== Sys2Proof/Tests/Slice0.lean ====
section
/-!
SUPPORT. Tests: ill-formed commands are refused, small results, and a state and operands that meet the hypotheses of each statement.
-/
namespace Sys2Proof.Tests
set_option Elab.async false
open Sys2Proof Sys2Proof.Machine

/-- A client at a level. -/
def asker (l : Fin 3) : Who := { session := 0, level := l }

/-- A module that runs in a mode. -/
def inMode (m : Mode) : State := { mode := { phase := .up, mode := m } }

/-- The same with a configuration held. -/
def configured (m : Mode) : State := { mode := { phase := .up, mode := m, cfgHeld := true } }

/-- A key slot that holds the encoding of the neutral point, whose signatures over any bytes are the neutral point and zero. -/
def openKey : Table KeySlot := [(0, { pub := 1, level := 2 })]

/-- The bytes of the shortest container with a magic's last two letters, signed under `openKey`. -/
def shortContainer (c d : Byte) : Memory := [(0, 0x4F), (1, 0x50), (2, c), (3, d), (64, 1)]
/-- Module 8, a member of station 5 with partner 9 and witness 30, in a mode. -/
def member (m : Mode) : State :=
  { mode := { phase := .up, mode := m, modIndex := 8 }
    elems := [(ea 0x50001 0, 1), (ea 0x50001 1, 5), (ea 0x50001 2, 9), (ea 0x50001 3, 30)] }

/-- The same with its red part. -/
def memberWith (m : Mode) (r : StationPart) : State := { member m with red := r, mer := { raw := 400000 } }

/-- A message of the partner with its tag under key 0. -/
def fromPartner (kind claim : Nat) (f : MTime) (info : Nat) : ClaimMsg :=
  { kind := kind, station := 5, holder := 9, claim := claim, f := f, tag := claimTag 0 5 9 claim f, info := info }

/-- A message to the module itself as holder. -/
def toOwn (kind claim : Nat) (f : MTime) (info : Nat) : ClaimMsg :=
  { kind := kind, station := 5, holder := 8, claim := claim, f := f, tag := claimTag 0 5 8 claim f, info := info }

/-- Module 30, the witness of station 5 with members 8 and 9. -/
def witnessOf (w : WitnessStation) : State :=
  { mode := { phase := .up, mode := .witness, modIndex := 30 }, mer := { raw := 4000000 }, wit := { stations := [(15, w)] }
    elems := [(ea 0x50001 0, 2), (ea 0x5003F 0, 5), (ea 0x5003F 1, 8), (ea 0x5003F 2, 9)] }
/-- A standby in the same station, and its duty's record in the directory. -/
def partnerRec (r : Nat) (m : Mode) : Table DirRec := [(9, { state := 1, mode := m.code, mq := 3, ready := r })]

/-- The standby or duty with both members synchronised. -/
def synced (m : Mode) (r : StationPart) : State :=
  { memberWith m r with mer := { raw := 400000, state := .locked }, leg := { keys := openKey, staging := shortContainer 0x53 0x50, stagingLen := 128, directory := partnerRec 1 .run }, net := { tl1 := { up := true } } }
/-- A module whose server is up, with a session in slot 31. -/
def server (x : Session) : State :=
  { mode := { phase := .up, mode := .stop, modIndex := 8 }, mer := { raw := 400000 }, leg := { udpUp := true, canUp := true, sessions := [(31, x)] } }

/-- An open session of a level, of the client at address 1, port 2. -/
def openSession (l : Nat) : Session := { state := 2, level := l, id := 7, key := 0, source := some (.udp 1 2), lastAt := 400000 }

/-- A request with its items. -/
def reqMsg (op session count : Nat) (payload : List Byte) : List Byte :=
  sealMsg ([1, BitVec.ofNat 8 op, 0, 0xFF] ++ leBytes 4 session ++ leBytes 4 0x55 ++ leBytes 2 count ++ leBytes 2 payload.length ++ [0, 0xFF, 0, 0]) payload

/-- The same with one byte changed and its CRC made good. -/
def badMsg (o : Nat) (b : Byte) : List Byte :=
  let h := ((reqMsg 0x10 7 1 [0, 0, 0, 0]).take 20).set o b
  sealMsg h [0, 0, 0, 0]
/-- The serving module with one point that clients may write. -/
def surveyor (l : Nat) : State :=
  { server (openSession l) with sur := { points := [(1, { vtype := 5, kind := 6 })] } }

/-- A server that is the Datum, with a record of module 9 and one name hash. -/
def datum : State :=
  { server (openSession 0) with
    elems := [(ea 0xA8440 0, 8), (ea 0xA8508 0, 1), (ea 0xA8509 0, 2)]
    leg := { udpUp := true, sessions := [(31, openSession 0)], directory := [(9, { state := 1, hashes := [(77, 5)] })] } }

/-- An ATOMIC read of the point. -/
def atomicMsg (q : Nat) : List Byte :=
  sealMsg ([1, 0x20, 2, 0xFF] ++ leBytes 4 7 ++ leBytes 4 0x55 ++ leBytes 2 1 ++ leBytes 2 12 ++ [0, 0xFF, 0, 0])
    (leBytes 8 q ++ leBytes 4 (8 * 524288 + 1))

/-- A part whose tag is zero. -/
def untagged : List Byte :=
  sealMsg ([1, 0x10, 4, 8] ++ leBytes 4 1 ++ leBytes 4 3 ++ leBytes 2 1 ++ leBytes 2 12 ++ [0, 9, 0, 0]) (List.replicate 12 0)

/-- A part of a request that module 9 forwards. -/
def part (op count : Nat) (payload : List Byte) : List Byte :=
  let h := [1, BitVec.ofNat 8 op, 4, 8] ++ leBytes 4 1 ++ leBytes 4 3 ++ leBytes 2 count ++ leBytes 2 (payload.length + 8) ++ [0, 9, 0, 0]
  sealMsg h (payload ++ leBytes 8 (sipHash 0 (h ++ payload)))
/-- A running module with one digital channel. -/
def digital (n cfg : Nat) (c : DioChan) : State :=
  { mode := { phase := .up, mode := .run }, mer := { raw := 400000000 }, dio := { cfg := [(n, cfg)], chans := [(n, c)] } }

/-- The same with its group's link valid and every channel in turn. -/
def digitals (cfg : List (Nat × Nat)) (cs : List (Nat × DioChan)) : State :=
  { mode := { phase := .up, mode := .run }, mer := { raw := 400000000 }, dio := { cfg := cfg, chans := cs, groups := [(0, { link := true }), (3, { link := true })] } }
/-- A module with one input channel and its point. -/
def analogueIn (n : Nat) (c : AiChan) : State :=
  { mode := { phase := .up, mode := .run }, mer := { raw := 400000000, running := true },
    sur := { points := [(5, { kind := 1, writer := 256 + n })] },
    aio := { ai := [(n, c)], aiCfg := [(n, 1)], link := true } }

/-- A module with one output channel and its readback point. -/
def analogueOut (n : Nat) (c : AoChan) : State :=
  { mode := { phase := .up, mode := .run }, mer := { raw := 400000000 }, sur := { points := [(5, { kind := 1, writer := 512 + n })] },
    aio := { ao := [(n, c)], aoCfg := [(n, 1)], link := true } }

/-- A module with one HART loop and, for its device variable 7, slot 0 of the master and a point. -/
def hartOf (l : Nat) (x : HartLoop) (y : HartMaster) : State :=
  { mode := { phase := .up, mode := .run }, mer := { raw := 4000000000 }, sur := { points := [(5, { kind := 2, writer := 0 })] },
    elems := [(ea (0x70700 + l / 2) 1, 1), (ea (0x70700 + l / 2) 3, 7 + 256 * (l % 2) + 5 * 2 ^ 32)],
    aio := { aiCfg := [(l / 2, 3 + 4 * 63)], aoCfg := [(l / 2, 3 + 4 * 62 + 256)], loops := [(l, x)], masters := [(l / 2, y)] } }
/-- A running module with a safety set. -/
def safety (set : SafetySet) (p : SafetyPart) : State :=
  { mode := { phase := .up, mode := .run }, mer := { raw := 4000000000, running := true },
    saf := { p with set := some set, link := true, chCfg := [(0, 1), (1, 2), (2, 5), (3, 5), (4, 6)] } }

/-- Channels 0 to 3 and a static reset channel 4; output pair 0 without feedback. -/
def setWith (fns : List FnRec) : SafetySet := { chMode := [1, 2, 5, 5, 6], fns := fns, axes := [{}, {}] }

/-- STO on channel 0, SS1-t on channel 0 and SS1-r on channel 2 with axis 0; outputs 0, 1 and 3. -/
def someFns : List FnRec :=
  [{ type := 1, demand := 1, outputs := 1, resetCh := 4 }, { type := 2, demand := 1, outputs := 2, resetCh := 4, tStop := 30000 },
   { type := 3, demand := 5, outputs := 8, resetCh := 4, tDelay := 200, decel := 68267, vTol := 3413, vStill := 1365, tMax := 3000 }]

/-- All of them running, their pairs energised. -/
def running (n : Nat) : SafetyPart :=
  { fns := [(0, { state := n }), (1, { state := n }), (2, { state := n })], chans := [(0, { on := true }), (1, { on := true }), (2, { on := true }), (4, { on := true })],
    pairs := [(0, { highClosed := true, lowClosed := true, permit := true }), (1, { highClosed := true, lowClosed := true, permit := true })] }

/-- A member of a process station with a safety set. -/
def safetyMember (set : SafetySet) (p : SafetyPart) (r : StationPart) : State :=
  { safety set p with elems := [(ea 0x50001 0, 1)], red := r, net := { tl1 := { up := true } } }
/-- A running module whose CAN3 holds objects, and its configuration. -/
def canOf (els : List (Nat × Nat)) (x : CanCtrl) : State :=
  { mode := { phase := .up, mode := .run }, mer := { raw := 4000000000, running := true }, elems := els, sur := { points := [(5, {}), (6, {})] },
    can := { c3 := { x with ctrl := 5 } } }

/-- Send object o of CAN3: identifier, status point 5, one retry, a lifetime of 1 ms. -/
def sendObject (o id : Nat) : List (Nat × Nat) :=
  [(ea (0x91300 + o) 0, 1), (ea (0x91300 + o) 1, 1), (ea (0x91300 + o) 2, id), (ea (0x91300 + o) 4, 2), (ea (0x91300 + o) 7, 1), (ea (0x91300 + o) 8, 1000), (ea (0x91300 + o) 12, 5)]

/-- Receive object 127 of CAN3: a signed 16-bit field into point 6, INT16, scale 0.5, offset 1. -/
def receiveObject : List (Nat × Nat) :=
  [(ea 0x9137F 0, 1), (ea 0x9137F 2, 0x123), (ea 0x9137F 4, 2), (ea 0x9137F 11, 100), (ea 0x9137F 14, 1),
   (ea 0x9137F 15, 6 + 4 * 2 ^ 25 + 16 * 2 ^ 48 + 2 ^ 56 + 0x3F000000 * 2 ^ 64 + 0x3F800000 * 2 ^ 96)]
/-- A running standalone module, index 8, with every port up. -/
def ported (n : NetPart) : State :=
  { mode := { phase := .up, mode := .run, modIndex := 8 }, mer := { raw := 400000 },
    net := { n with na := { n.na with up := true }, nb := { n.nb with up := true }, ia := { n.ia with up := true }, ib := { n.ib with up := true }, tl0 := { n.tl0 with up := true } } }

/-- A whole tie block without payload: CRC-32C of its first four bytes. -/
def tieBlock (a b c : Byte) : List Byte := [a, b, c, 0] ++ leBytes 4 (crc32c [a, b, c, 0])
/-- A running module whose recorder stands in a state. -/
def recording (r : RecorderPart) : State :=
  { mode := { phase := .up, mode := .run }, mer := { raw := 4000000000, running := true, pcyc := 7 }, evr := { r with ready := true } }

/-- A staged offer. -/
def staged1 : Offer := { code := 0x6001, src := 0x0401, args := [9], mt := 55, mq := 3, mtLast := 55, mqLast := 3, optime := 100, pcyc := 7 }
/-- A running module whose reserve is charged, with its Cartouche in a state. -/
def plated (c : CartouchePart) : State :=
  { mode := { phase := .up, mode := .run }, mer := { raw := 4000000000, running := true }, crt := { c with reserveMv := 5000 } }
/-- A source in tolerance. -/
def goodSource : Source17 := { running := true, ok := true, window := false }

/-- A running module with its clocks. -/
def rooted (root : Nat) (x : ClockPart) : State :=
  { mode := { phase := .up, mode := .run }, mer := { raw := 4000000000, running := true, rho := 1000 },
    clk := { x with root := root, fastRc := goodSource, slowRc := goodSource, xa := goodSource, xb := goodSource } }
/-- A running module that holds the claim of its station and drives outputs. -/
def powered : State :=
  { mode := { phase := .up, mode := .run }, mer := { raw := 40000000000, running := true, opMs := 98765 }, red := { renewing := true, ownRenew := some 5 },
    pwr := { ina := 24000, inb := 24000, inaOk := true, inbOk := true, holdMv := 40000 }, elems := [(ea 0x60000 0, 1)], saf := { pairs := [(3, { highClosed := true, lowClosed := true, permit := true })] },
    evr := { ready := true, next := 7 } }
/-- A running module with its locks armed. -/
def locked : State := { mode := { phase := .up, mode := .run }, mer := { raw := 4000000000, running := true }, sys := { armed := true } }

/-- A run that stores to shared memory, as no run between commands can. -/
def sharedRun : CoreRun := { items := [.store 0x60000000 3 1] }

theorem test_ill_formed_runs_are_refused :
    [Instr.checkpointTaskEnd 0 sharedRun [] [], .checkpointCommit 0 sharedRun [] [], .checkpointOutputRelease 0 sharedRun [] [],
      .checkpointInstructionCount 0 sharedRun [] [], .checkpointWriteSetFull 0 sharedRun [] [],
      .checkpointReadSetFull 0 sharedRun [] []].any Instr.wf = false := by decide
theorem test_ill_formed_deliveries_are_refused :
    [Instr.interruptDeliveryPoint 0 sharedRun, .wfi 0 sharedRun, .checkpointCsrIllegal 0 sharedRun 5 0 0 true,
      .checkpointCsrIllegal 0 {} 2 0 0 true, .checkpointCsrIllegal 0 {} 8 0 0 true].any Instr.wf = false := by decide
theorem test_ill_formed_shared_accesses_are_refused :
    [Instr.sharedRead 0 {} 0x10000000 3 0 true, .sharedStore 0 {} 0x10000000 3 0 0 true, .sharedAmoFault 0 {} 0x10000000 0 true,
      .sharedRead 0 sharedRun 0x60000000 3 0 true].any Instr.wf = false := by decide
theorem test_ill_formed_items_and_elements_are_refused :
    [Instr.queueItemCheck 0 (List.replicate 15 0), .loopOnlineChange (asker 1) 0 18 0, .loopOnlineChange (asker 1) 0 42 0].any Instr.wf = false := by
  decide
theorem test_ill_formed_messages_are_refused :
    [Instr.legendOpen (.udp 1 2) [1, 2], .legendRead (.peer 3) [1, 0x10], .legendMessageMalformed (.peer 3) [],
      .legendCanSegment 0 0 (List.replicate 65 0) {}, .forwardedRequestReceived 3 (List.replicate 20 0) {}].any Instr.wf = false := by decide
theorem test_ill_formed_pairs_are_refused :
    [Instr.readbackHighWhileOff true 4 0, .externalDriveClear true 4].any Instr.wf = false := by decide
theorem test_ill_formed_frames_are_refused :
    [Instr.canFrameReceived 0 { id := 2048, dlc := 0, capture := 0 } {}, .canFrameReceived 0 { id := 1, dlc := 2, data := [1], capture := 0 } {},
      .plantFrameReceived 2 { kind := .other, src := 0 }, .ringFrameReceived 1 { kind := 1, ring := 0, src := 0 },
      .tieBlockReceived 0 [0, 0, 0, 1] {}].any Instr.wf = false := by decide
theorem test_ill_formed_addresses_are_refused :
    [Instr.registerWrite .triad 0 3 0, .bitAliasWrite .cc0 0 1].any Instr.wf = false := by decide
theorem test_ill_formed_command_faults :
    exec (.registerWrite .triad 0 3 0) (inMode .run) = .fault .illFormed := rfl

theorem test_written_byte_is_read_back : Memory.read (Memory.write (Memory.write [] 5 1) 5 2) 5 = 2 := by decide
theorem test_writing_blank_unlists : Memory.write (Memory.write [] 5 1) 5 0 = [] := by decide
theorem test_narrowing_rounds_ties_to_even : F64.narrow (F64.add (F64.ofInt 16777216) (F64.ofInt 1)) = F64.narrow (F64.ofInt 16777216) := by
  decide

/-- The hypotheses of StartUpFollowsItsSequence can be met, clause by clause. -/
theorem test_meets_StartUpFollowsItsSequence :
    ((fun (s : State) (ina inb _ : Nat) => (s.mode.phase = .off) ∧ (s.pwr.inserted = true) ∧ (18000 ≤ ina ∨ 18000 ≤ inb)) (State.reset) (18000) (0) (18000)) ∧
    ((fun (s : State) (_ : Fuses) (found : BootFind) => (s.mode.phase = .charging) ∧ (found.bist.any beyondRepair = false)) ({ mode := { phase := .charging } }) ({}) ({ bist := [{ bank := 48, fused := 1, failing := 3 }] })) ∧
    ((fun (s : State) (_ : Fuses) (found : BootFind) => (s.mode.phase = .charging) ∧ (found.bist.any beyondRepair = true)) ({ mode := { phase := .charging } }) ({}) ({ bist := [{ bank := 0, fused := 2, failing := 3 }] })) ∧
    ((fun (s : State) (_ : RestoreFind) => (s.mode.phase = .boot) ∧ (s.recovery = true)) ({ mode := { phase := .boot, image := 2 } }) ({})) ∧
    ((fun (s : State) (found : RestoreFind) => (s.mode.phase = .boot) ∧ (s.recovery = false) ∧ (s.mode.cfgHeld = false ∨ found.cfgOk = false)) ({ mode := { phase := .boot, cfgHeld := true, cfgId := 7 } }) ({ cfgOk := false })) ∧
    ((fun (s : State) (found : RestoreFind) => (s.mode.phase = .boot) ∧ (s.recovery = false) ∧ (s.mode.cfgHeld = true ∧ found.cfgOk = true) ∧ (s.mode.safeStored = true)) ({ mode := { phase := .boot, cfgHeld := true, safeStored := true, kept := [{ code := 0x1008 }] } }) ({})) ∧
    ((fun (s : State) => (s.up = true) ∧ (s.mode.autoWait = true ∧ s.mode.mode = .stop) ∧ (s.ownsClaim = true ∧ s.syncCondition = true)) ({ mode := { phase := .up, mode := .stop, autoWait := true } })) :=
  ⟨by decide, by decide, by decide, by decide, by decide, by decide, by decide⟩

/-- The hypotheses of StopRunHoldFollowTable0203 can be met, clause by clause. -/
theorem test_meets_StopRunHoldFollowTable0203 :
    ((fun (s : State) (who : Who) => (ModeAsked s who 1) ∧ (s.mode.mode = .run)) (inMode .run) (asker 1)) ∧
    ((fun (s : State) (who : Who) => (ModeAsked s who 1) ∧ (s.mode.mode = .hold)) (inMode .hold) (asker 1)) ∧
    ((fun (s : State) (who : Who) => (Asked s who 1) ∧ (s.recovery = false) ∧ (s.mode.mode = .stop ∧ s.mode.applying = true)) ({ mode := { phase := .up, mode := .stop, applying := true } }) (asker 1)) ∧
    ((fun (s : State) (who : Who) => (ModeAsked s who 1) ∧ (s.mode.mode = .stop) ∧ (s.ownsClaim = true ∧ s.syncCondition = true)) (inMode .stop) (asker 1)) ∧
    ((fun (s : State) (who : Who) => (ModeAsked s who 2) ∧ (s.mode.mode = .hold)) (inMode .hold) (asker 2)) ∧
    ((fun (s : State) (who : Who) => (ModeAsked s who 2) ∧ (s.mode.mode = .run ∧ s.holdPermitted = true)) ({ mode := { phase := .up, mode := .run }, elems := [(ea 0x10002 2, 1)] }) (asker 2)) ∧
    ((fun (s : State) (task : Fin 16) (addr : Nat) => (s.up = true ∧ s.mode.mode = .run ∧ s.holdPermitted = true) ∧ ((s.taskRun task).frozen = true) ∧ ((Table.find s.elems (ea 0x21210 1)).isSome = true ∧ s.el 0x21210 0 0 = task.val ∧ s.el 0x21210 1 0 = addr)) ({ mode := { phase := .up, mode := .run }, elems := [(ea 0x10002 2, 1), (ea 0x21210 1, 0x10000000)], tsk := { runs := [(0, { frozen := true })] } }) (0) (0x10000000)) ∧
    ((fun (s : State) => (s.up = true ∧ s.mode.mode = .hold) ∧ (s.el 0x10002 3 0 ≠ 0 ∧ s.mode.holdSince + s.el 0x10002 3 0 * 400000000 ≤ s.mer.raw)) ({ mode := { phase := .up, mode := .hold, holdSince := 5 }, elems := [(ea 0x10002 3, 1)], mer := { raw := 400000005 } })) :=
  ⟨by decide, by decide, by decide, by decide, by decide, by decide, by decide, by decide⟩

/-- The hypotheses of ServiceBlankWitnessFollowTable0203 can be met, clause by clause. -/
theorem test_meets_ServiceBlankWitnessFollowTable0203 :
    ((fun (s : State) (who : Who) => (ModeAsked s who 2) ∧ (s.mode.mode = .blank ∨ s.mode.mode = .stop ∨ s.mode.mode = .safe ∨ s.mode.mode = .witness)) (inMode .safe) (asker 2)) ∧
    ((fun (s : State) (who : Who) => (ModeAsked s who 2) ∧ (s.mode.mode = .service) ∧ (s.isWitness = true ∧ s.mode.cfgHeld = true)) ({ mode := { phase := .up, mode := .service, cfgHeld := true }, elems := [(ea 0x50001 0, 2)] }) (asker 2)) ∧
    ((fun (s : State) (who : Who) => (ModeAsked s who 2) ∧ (s.mode.mode = .service ∧ s.mode.cfgHeld = false)) (inMode .service) (asker 2)) ∧
    ((fun (s : State) (who : Who) => (ModeAsked s who 2) ∧ (s.mode.mode = .stop ∨ s.mode.mode = .witness) ∧ (Authorised s)) (configured .stop) (asker 2)) ∧
    ((fun (s : State) (who : Who) => (ModeAsked s who 2) ∧ (s.mode.mode = .standby)) (configured .standby) (asker 2)) ∧
    ((fun (s : State) (who : Who) => (ModeAsked s who 2) ∧ (s.mode.mode = .service ∧ s.mode.cfgHeld = true ∧ s.isWitness = false) ∧ (s.presentCauses = [])) (configured .service) (asker 2)) :=
  ⟨by decide, by decide, by decide, by decide, by decide, by decide⟩

/-- The hypotheses of SafeIsEnteredStoredAndAcknowledged can be met, clause by clause. -/
theorem test_meets_SafeIsEnteredStoredAndAcknowledged :
    ((fun (s : State) (who : Who) => (Asked s who 1) ∧ (s.recovery = false) ∧ (s.mode.mode = .run ∨ s.mode.mode = .hold ∨ s.mode.mode = .stop ∨ s.mode.mode = .standby)) (configured .run) (asker 1)) ∧
    ((fun (s : State) (who : Who) => (ModeAsked s who 2) ∧ (s.mode.mode = .safe ∧ s.firstCause = none)) ({ mode := { phase := .up, mode := .safe, safeStored := true, kept := [{ code := 0x1008 }] } }) (asker 2)) ∧
    ((fun (s : State) (x : MTime) => (s.up = true) ∧ (s.mode.trans = some { frm := .safe, dest := .stop, until_ := some x }) ∧ (x ≤ s.now)) ({ mode := { phase := .up, mode := .stop, trans := some { frm := .safe, dest := .stop, until_ := some 0 } } }) (0)) :=
  ⟨by decide, by decide, by decide⟩

/-- The hypotheses of ResetsAndPowerCyclesFollowTheLadder can be met, clause by clause. -/
theorem test_meets_ResetsAndPowerCyclesFollowTheLadder :
    ((fun (s : State) (who : Who) => (Asked s who 2)) ({ mode := { phase := .up, mode := .run, warmCount := 4294967295 } }) (asker 2)) ∧
    ((fun (s : State) (who : Who) => (Asked s who 2)) (inMode .run) (asker 2)) ∧
    ((fun (s : State) (x : Nat) => (s.up = true) ∧ (s.mode.pcrqAt = some x) ∧ (x + 800000000 ≤ s.mer.raw ∧ 9000 ≤ max s.pwr.ina s.pwr.inb)) ({ mode := { phase := .up, pcrqAt := some 0 }, mer := { raw := 800000000 }, pwr := { ina := 9000 } }) (0)) ∧
    ((fun (s : State) (_ : Agent) => (s.up = true)) (inMode .run) (.triad)) :=
  ⟨by decide, by decide, by decide, by decide⟩

/-- The hypotheses of ReinitialisationClosesTheFunctionsFaults can be met, clause by clause. -/
theorem test_meets_ReinitialisationClosesTheFunctionsFaults :
    ((fun (s : State) (who : Who) (code : Nat) => (Asked s who 2) ∧ ((s.reinitOf code).map (·.1) = some true)) ({ mode := { phase := .up, mode := .stop, faults := [{ fn := 0x0602, code := 0xC001, rung := 1 }], retries := [(0x0602, [5])] } }) (asker 2) (0x0602)) ∧
    ((fun (s : State) (who : Who) (code : Nat) => (Asked s who 2) ∧ ((s.reinitOf code).map (·.1) = some false)) ({ mode := { phase := .up, mode := .stop }, saf := { pairs := [(3, { highClosed := true, lowClosed := true })] } }) (asker 2) (0x0500)) ∧
    ((fun (s : State) (who : Who) (code : Nat) => (Asked s who 2) ∧ ((s.reinitOf code).isNone = true)) (inMode .stop) (asker 2) (0x0818)) ∧
    ((fun (s : State) (who : Who) (_ : Fin 4) => (Asked s who 2)) (inMode .run) (asker 2) (3)) ∧
    ((fun (s : State) (who : Who) => (Asked s who 2)) (inMode .run) (asker 2)) :=
  ⟨by decide, by decide, by decide, by decide, by decide⟩

/-- The hypotheses of LifeCycleMovesOnlyAlongTable0207 can be met, clause by clause. -/
theorem test_meets_LifeCycleMovesOnlyAlongTable0207 :
    ((fun (s : State) (_ : Who) => (s.up = true ∧ s.mode.mode = .service ∧ s.recovery = false) ∧ (s.mode.lifeCycle = .sealed ∧ s.leg.grant.isSome = true)) ({ mode := { phase := .up, mode := .service, lifeCycle := .sealed }, leg := { grant := some 0 } }) (asker 0)) ∧
    ((fun (s : State) (_ : Who) => (s.up = true ∧ s.mode.mode = .service ∧ s.recovery = false) ∧ (s.mode.lifeCycle = .factory)) ({ mode := { phase := .up, mode := .service, lifeCycle := .factory } }) (asker 0)) ∧
    ((fun (s : State) (_ : Who) => (s.up = true ∧ s.mode.mode = .service ∧ s.recovery = false) ∧ (s.mode.lifeCycle = .opened ∧ s.leg.grant.isSome = true) ∧ (s.hasKey (· == 2) = true ∧ s.hasKey (· == 3) = true)) ({ mode := { phase := .up, mode := .service }, leg := { grant := some 1, keys := [(0, { pub := 1, level := 2 }), (1, { pub := 1, level := 3 })] } }) (asker 0)) ∧
    ((fun (s : State) (_ : Who) => (s.up = true ∧ s.mode.mode = .service ∧ s.recovery = false) ∧ (s.mode.lifeCycle = .opened ∨ s.mode.lifeCycle = .sealed) ∧ (s.leg.grant.isSome = true)) ({ mode := { phase := .up, mode := .service }, leg := { grant := some 1 } }) (asker 0)) ∧
    ((fun (s : State) (_ : Who) => (s.up = true) ∧ (s.mode.mode ≠ .service ∨ s.lifePermitted .opened = false)) ({ mode := { phase := .up, mode := .service, lifeCycle := .retired } }) (asker 0)) :=
  ⟨by decide, by decide, by decide, by decide, by decide⟩

/-- The hypotheses of CommitsAndFirmwareTakeEffect can be met, clause by clause. -/
theorem test_meets_CommitsAndFirmwareTakeEffect :
    ((fun (s : State) (who : Who) (body : ConfigBody) => (Asked s who 2) ∧ (s.recovery = false ∧ (s.mode.mode = .stop ∨ s.mode.mode = .service)) ∧ (Authorised s) ∧ (s.containerFault "OPSC" = none ∧ (s.withBody body).configFault = none)) ({ mode := { phase := .up, mode := .service }, leg := { keys := openKey, staging := shortContainer 0x53 0x43, stagingLen := 128 } }) (asker 2) ({ ident := 7 })) ∧
    ((fun (s : State) (who : Who) => (Asked s who 2) ∧ (s.recovery = false ∧ (s.mode.mode = .stop ∨ s.mode.mode = .service)) ∧ (Authorised s) ∧ (s.configFault = none)) (configured .stop) (asker 2)) ∧
    ((fun (s : State) (who : Who) (a : Ans) => (Asked s who 2) ∧ (s.recovery = false ∧ (s.mode.mode = .stop ∨ s.mode.mode = .service)) ∧ (Authorised s) ∧ (s.configFault = some a)) ({ mode := { phase := .up, mode := .stop }, elems := [(ea 0x21000 0, 1), (ea 0x21000 1, 1)] }) (asker 2) ((({ mode := { phase := .up, mode := .stop }, elems := [(ea 0x21000 0, 1), (ea 0x21000 1, 1)] } : State).configFault.getD ansOk))) ∧
    ((fun (s : State) (who : Who) (_ : Nat) => (Asked s who 2) ∧ (s.mode.mode = .stop ∨ s.mode.mode = .blank ∨ s.mode.mode = .service ∨ s.mode.mode = .witness) ∧ (s.mode.image ≠ 1) ∧ (Authorised s)) (inMode .blank) (asker 2) (9)) ∧
    ((fun (s : State) (who : Who) => (Asked s who 2) ∧ (Authorised s) ∧ (s.mode.slotA.valid = true)) (inMode .run) (asker 2)) :=
  ⟨by decide +kernel, by decide +kernel, by decide +kernel, by decide +kernel, by decide +kernel⟩

/-- The hypotheses of CheckpointsOfEveryKindArriveAtTheVoter can be met, clause by clause. -/
theorem test_meets_CheckpointsOfEveryKindArriveAtTheVoter :
    ((fun (s : State) (core : Fin 3) (run : CoreRun) (_ : List OutVal) (_ : List Eval) => (CoreRuns s core run) ∧ (Fresh (afterRun s core run) ∧ (afterRun s core run).arrivals = [])) (inMode .run) (2) ({}) ([]) ([])) ∧
    ((fun (s : State) (core : Fin 3) (run : CoreRun) (_ : List OutVal) (_ : List Eval) => (CoreRuns s core run) ∧ (Fresh (afterRun s core run) ∧ (afterRun s core run).arrivals = [])) (inMode .run) (0) ({ retired := 3, items := [.x 1 7, .store 0x10000000 3 9] }) ([]) ([])) ∧
    ((fun (s : State) (core : Fin 3) (run : CoreRun) (_ : List OutVal) (_ : List Eval) => (CoreRuns s core run) ∧ (Fresh (afterRun s core run) ∧ (afterRun s core run).arrivals = [])) (inMode .run) (1) ({}) ([]) ([])) ∧
    ((fun (s : State) (core : Fin 3) (run : CoreRun) (_ : List OutVal) (_ : List Eval) => (CoreRuns s core run) ∧ (Fresh (afterRun s core run) ∧ (afterRun s core run).arrivals = []) ∧ (((afterRun s core run).core core.val).since = (afterRun s core run).tri.ckint)) (inMode .run) (1) ({ retired := 65536 }) ([]) ([])) ∧
    ((fun (s : State) (core : Fin 3) (run : CoreRun) (_ : List OutVal) (_ : List Eval) => (CoreRuns s core run) ∧ (Fresh (afterRun s core run) ∧ (afterRun s core run).arrivals = []) ∧ (1023 ≤ ((afterRun s core run).core core.val).set.length)) ({ mode := { phase := .up }, tri := { c1 := { set := List.replicate 1023 { addr := 0, mask := 0, data := 0 } } } }) (1) ({}) ([]) ([])) ∧
    ((fun (s : State) (core : Fin 3) (run : CoreRun) (_ : List OutVal) (_ : List Eval) => (CoreRuns s core run) ∧ (Fresh (afterRun s core run) ∧ (afterRun s core run).arrivals = []) ∧ (4096 ≤ ((afterRun s core run).core core.val).readIdx)) ({ mode := { phase := .up }, tri := { c0 := { readIdx := 4096 } } }) (0) ({}) ([]) ([])) :=
  ⟨by decide +kernel, by decide +kernel, by decide +kernel, by decide +kernel, by decide +kernel, by decide +kernel⟩

/-- The hypotheses of TheVoterComparesArrivals can be met, clause by clause. -/
theorem test_meets_TheVoterComparesArrivals :
    ((fun (s : State) (core other : Fin 3) (_ : List OutVal) (_ : List Eval) (b : Arrival) (f : Nat) => (CoreRuns s core {}) ∧ (s.tri.dead = false ∧ s.tri.lag = [] ∧ s.tri.commit = none ∧ s.tri.firstAt = some f) ∧ (s.arrivals = [(other.val, b)]) ∧ ((s.core core.val).inject = false) ∧ (b.kind = 0 ∧ b.sig = (s.core core.val).sign 0 ∧ b.consumed = (s.core core.val).readIdx ∧ b.set = (s.core core.val).set)) ({ mode := { phase := .up, mode := .run }, tri := { firstAt := some 0, c0 := { arrived := some { kind := 0, sig := ({} : Core).sign 0, consumed := 0, set := [] } } } }) (1) (0) ([]) ([]) ({ kind := 0, sig := ({} : Core).sign 0, consumed := 0, set := [] }) (0)) ∧
    ((fun (s : State) (_ : List OutVal) (_ : List Eval) (a b : Arrival) (f : Nat) => (CoreRuns s 2 {}) ∧ (s.tri.dead = false ∧ s.tri.duplex = false ∧ s.tri.lag = [] ∧ s.tri.commit = none ∧ s.tri.firstAt = some f) ∧ ((s.core 0).arrived = some a ∧ (s.core 1).arrived = some b ∧ a.agrees b = false) ∧ ((s.core 2).inject = false ∧ (s.core 1).injected = false) ∧ (a.kind = 0 ∧ a.sig = (s.core 2).sign 0 ∧ a.consumed = (s.core 2).readIdx ∧ a.set = (s.core 2).set)) ({ mode := { phase := .up, mode := .run }, tri := { firstAt := some 0, c0 := { arrived := some { kind := 0, sig := ({} : Core).sign 0, consumed := 0, set := [] } }, c1 := { arrived := some { kind := 0, sig := 5, consumed := 0, set := [] } } } }) ([]) ([]) ({ kind := 0, sig := ({} : Core).sign 0, consumed := 0, set := [] }) ({ kind := 0, sig := 5, consumed := 0, set := [] }) (0)) ∧
    ((fun (s : State) (core other : Fin 3) (_ : List OutVal) (_ : List Eval) (b : Arrival) (f : Nat) => (CoreRuns s core {}) ∧ (s.tri.dead = false ∧ s.tri.duplex = true ∧ s.tri.lag = [] ∧ s.tri.commit = none ∧ s.tri.firstAt = some f) ∧ (s.arrivals = [(other.val, b)] ∧ other ≠ core) ∧ ((s.core core.val).inject = false) ∧ (b.kind ≠ 0 ∨ b.sig ≠ (s.core core.val).sign 0 ∨ b.consumed ≠ (s.core core.val).readIdx ∨ b.set ≠ (s.core core.val).set) ∧ (s.mode.mode = .run)) ({ mode := { phase := .up, mode := .run }, tri := { firstAt := some 0, c2 := { state := .permanent }, c0 := { arrived := some { kind := 0, sig := 5, consumed := 0, set := [] } } } }) (1) (0) ([]) ([]) ({ kind := 0, sig := 5, consumed := 0, set := [] }) (0)) :=
  ⟨by decide +kernel, by decide +kernel, by decide +kernel⟩

/-- The hypotheses of CommitsAndRebuildsEnd can be met, clause by clause. -/
theorem test_meets_CommitsAndRebuildsEnd :
    ((fun (s : State) (k : Commit) (e : WEntry) => (s.up = true ∨ s.mode.phase = .pfail) ∧ (s.tri.commit = some k) ∧ (s.tri.unit_ = .idle ∧ s.tri.rebuild = none ∧ k.old = []) ∧ (k.arrival.set = [e] ∧ 0x62000000 ≤ e.addr ∧ e.addr < 0x64000000)) ({ mode := { phase := .pfail }, tri := { commit := some { arrival := { kind := 1, sig := 0, consumed := 0, set := [{ addr := 0x62000000, mask := 0x81, data := 7 }] }, cores := [0, 2] } } }) ({ arrival := { kind := 1, sig := 0, consumed := 0, set := [{ addr := 0x62000000, mask := 0x81, data := 7 }] }, cores := [0, 2] }) ({ addr := 0x62000000, mask := 0x81, data := 7 })) ∧
    ((fun (s : State) (r : Rebuild) => (s.up = true ∧ MemOk s) ∧ (s.tri.rebuild = some r ∧ r.copied = false)) ({ mode := { phase := .up }, tri := { rebuild := some { core := 2, donor := 0 } }, mem := { data := [(0xC00000, 5)] } }) ({ core := 2, donor := 0 })) ∧
    ((fun (s : State) (l : Lag) => (s.up = true ∧ s.tri.duplex = false ∧ l.core < 3) ∧ (s.tri.lag.head? = some l ∧ l.firstAt + s.tri.skewK * 400 ≤ s.mer.raw)) ({ mode := { phase := .up }, mer := { raw := 80000 }, tri := { lag := [{ core := 1, queue := [], arrival := { kind := 0, sig := 0, consumed := 0, set := [] }, firstAt := 0, seq := 1 }] } }) ({ core := 1, queue := [], arrival := { kind := 0, sig := 0, consumed := 0, set := [] }, firstAt := 0, seq := 1 })) ∧
    ((fun (s : State) (f : Nat) => (s.up = true ∧ s.tri.dead = false ∧ s.tri.lag = [] ∧ s.tri.commit = none) ∧ (s.tri.firstAt = some f ∧ f + s.tri.skewK * 400 ≤ s.mer.raw) ∧ (s.mode.mode = .run ∨ s.mode.mode = .stop)) ({ mode := { phase := .up, mode := .stop }, mer := { raw := 80000 }, tri := { firstAt := some 0 } }) (0)) :=
  ⟨by decide +kernel, by decide +kernel, by decide +kernel, by decide +kernel⟩

/-- The hypotheses of SharedReadsGoThroughTheSampleQueue can be met, clause by clause. -/
theorem test_meets_SharedReadsGoThroughTheSampleQueue :
    ((fun (s : State) (core : Fin 3) (run : CoreRun) (addr _ : Nat) (width : Fin 4) (user : Bool) => (CoreRuns s core run) ∧ (0x100000000 ≤ addr ∧ addr + 2 ^ width.val ≤ 0x200000000) ∧ (s.tri.dead = false ∧ (afterRun s core run).tri.lag = []) ∧ ((afterRun s core run).mayReach addr (2 ^ width.val) user false = true) ∧ ((ownBytes ((afterRun s core run).core core.val).set addr (2 ^ width.val)) = List.replicate (2 ^ width.val) none) ∧ (((afterRun s core run).core core.val).readIdx = (afterRun s core run).tri.queue.length ∧ (afterRun s core run).tri.queue.length < 4096)) ({ mode := { phase := .up, mode := .run }, mem := { data := [(0x100000000, 5)] } }) (0) ({}) (0x100000000) (0) (3) (false)) ∧
    ((fun (s : State) (core : Fin 3) (run : CoreRun) (addr _ : Nat) (width : Fin 4) (user : Bool) (e : QEntry) => (CoreRuns s core run) ∧ (0x100000000 ≤ addr ∧ addr + 2 ^ width.val ≤ 0x200000000) ∧ (s.tri.dead = false ∧ (afterRun s core run).tri.lag = []) ∧ ((afterRun s core run).mayReach addr (2 ^ width.val) user false = true) ∧ ((ownBytes ((afterRun s core run).core core.val).set addr (2 ^ width.val)) = List.replicate (2 ^ width.val) none) ∧ ((afterRun s core run).tri.queue[((afterRun s core run).core core.val).readIdx]? = some e ∧ ((afterRun s core run).core core.val).readIdx < 4096) ∧ (e.addr = addr ∧ e.width = width.val ∧ e.err = 0 ∧ e.value < 2 ^ (8 * 2 ^ width.val)) ∧ ((afterRun s core run).waiter core.val ((afterRun s core run).core core.val).readIdx = none)) ({ mode := { phase := .up, mode := .run }, tri := { queue := [{ addr := 0x100000000, width := 0, value := 255, maker := 0 }] } }) (1) ({}) (0x100000000) (0) (0) (false) ({ addr := 0x100000000, width := 0, value := 255, maker := 0 })) ∧
    ((fun (s : State) (core : Fin 3) (run : CoreRun) (addr _ : Nat) (width : Fin 4) (user : Bool) => (CoreRuns s core run) ∧ (isPrivate addr (2 ^ width.val) = false ∧ addr ≠ timeCsr) ∧ ((afterRun s core run).mayReach addr (2 ^ width.val) user false = false)) (inMode .run) (0) ({}) (0x50000000) (0x10000004) (2) (true)) :=
  ⟨by decide +kernel, by decide +kernel, by decide +kernel⟩

/-- The hypotheses of SharedStoresWaitInTheWriteSet can be met, clause by clause. -/
theorem test_meets_SharedStoresWaitInTheWriteSet :
    ((fun (s : State) (core : Fin 3) (run : CoreRun) (addr data _ : Nat) (width : Fin 4) (user : Bool) => (CoreRuns s core run) ∧ (isPrivate addr (2 ^ width.val) = false ∧ storeCause addr width.val = none) ∧ ((afterRun s core run).mayReach addr (2 ^ width.val) user true = true) ∧ ((storeInto ((afterRun s core run).core core.val).set addr (2 ^ width.val) (data % 2 ^ (8 * 2 ^ width.val))).length ≤ 1024)) (inMode .run) (0) ({}) (0x100000004) (0x123456789) (0) (3) (false)) ∧
    ((fun (s : State) (core : Fin 3) (run : CoreRun) (addr _ _ : Nat) (width : Fin 4) (user : Bool) => (CoreRuns s core run) ∧ (isPrivate addr (2 ^ width.val) = false) ∧ ((afterRun s core run).mayReach addr (2 ^ width.val) user true = false)) (inMode .run) (0) ({}) (0x50000000) (1) (8) (0) (true)) ∧
    ((fun (s : State) (core : Fin 3) (run : CoreRun) (addr _ : Nat) (_ : Bool) => (CoreRuns s core run) ∧ (isPrivate addr 1 = false)) (inMode .run) (2) ({}) (0x10200000) (12) (true)) ∧
    ((fun (s : State) (core : Fin 3) (run : CoreRun) (value _ _ : Nat) (_ : Bool) => (CoreRuns s core run) ∧ (3 ≤ value ∧ value ≤ 7)) (inMode .run) (2) ({}) (7) (12) (0x8C001073) (true)) :=
  ⟨by decide, by decide, by decide, by decide⟩

/-- The hypotheses of InterruptsAreReadThroughTheQueue can be met, clause by clause. -/
theorem test_meets_InterruptsAreReadThroughTheQueue :
    ((fun (s : State) (core : Fin 3) (run : CoreRun) => (CoreRuns s core run) ∧ (s.tri.dead = false ∧ (afterRun s core run).tri.lag = [] ∧ ((afterRun s core run).core core.val).since % 256 = 0) ∧ (((afterRun s core run).core core.val).readIdx = (afterRun s core run).tri.queue.length ∧ (afterRun s core run).tri.queue.length < 4096)) (inMode .run) (0) ({ retired := 256 })) ∧
    ((fun (s : State) (core : Fin 3) (run : CoreRun) => (CoreRuns s core run) ∧ (((afterRun s core run).queueOf core.val)[((afterRun s core run).core core.val).readIdx]? = none ∧ (afterRun s core run).pendingIrq = 0)) (inMode .run) (0) ({})) ∧
    ((fun (s : State) (core : Fin 3) => (s.up = true ∧ s.tri.dead = false ∧ s.tri.lag = [] ∧ (s.core core.val).runs = true ∧ (s.core core.val).wfi = true) ∧ (s.pendingIrq ≠ 0 ∧ (s.core core.val).readIdx = s.tri.queue.length ∧ s.tri.queue.length < 4096)) ({ mode := { phase := .up }, clk := { nmi := true }, tri := { c0 := { wfi := true } } }) (0)) :=
  ⟨by decide +kernel, by decide +kernel, by decide +kernel⟩

/-- The hypotheses of QueueItemsAreAcceptedInSequence can be met, clause by clause. -/
theorem test_meets_QueueItemsAreAcceptedInSequence :
    ((fun (s : State) (q : Fin 256) (b : List Byte) => (s.up = true ∧ 16 ≤ b.length ∧ itemCrcOk b = true) ∧ (itemSeq b = Table.get s.tri.expect 0 q.val)) (inMode .run) (255) (leBytes 12 0 ++ leBytes 4 (crc32c (leBytes 12 0)))) ∧
    ((fun (s : State) (_ : Fin 256) (b : List Byte) => (s.up = true ∧ 16 ≤ b.length ∧ itemCrcOk b = true) ∧ (itemType b = 0xFFFF ∧ itemSeq b = 0)) (inMode .run) (0) (leBytes 6 0 ++ leBytes 6 0xFFFF ++ leBytes 4 (crc32c (leBytes 6 0 ++ leBytes 6 0xFFFF)))) ∧
    ((fun (s : State) (_ : Fin 256) (b : List Byte) => (s.up = true ∧ 16 ≤ b.length ∧ itemCrcOk b = false)) (inMode .run) (0) (leBytes 16 0)) ∧
    ((fun (s : State) (q : Fin 256) (b : List Byte) => (s.up = true ∧ 16 ≤ b.length ∧ itemCrcOk b = true) ∧ (itemSeq b ≠ Table.get s.tri.expect 0 q.val ∧ ¬(itemType b = 0xFFFF ∧ itemSeq b = 0))) (inMode .run) (0) (leBytes 12 1 ++ leBytes 4 (crc32c (leBytes 12 1)))) :=
  ⟨by decide +kernel, by decide +kernel, by decide +kernel, by decide +kernel⟩

/-- The hypotheses of CommunicationCoresAndInjection can be met, clause by clause. -/
theorem test_meets_CommunicationCoresAndInjection :
    ((fun (s : State) => (s.up = true ∧ s.tri.cc1.inReset = false ∧ s.tri.cc1.lastBeat + 4000000 ≤ s.mer.raw) ∧ (s.retryFree 0x0604 = true)) ({ mode := { phase := .up, mode := .run }, mer := { raw := 4000000 } })) ∧
    ((fun (s : State) => (s.up = true ∧ s.tri.cc0.inReset = false ∧ s.tri.cc0.lastBeat + 4000000 ≤ s.mer.raw) ∧ (s.retryFree 0x0603 = true)) ({ mode := { phase := .up, mode := .run }, mer := { raw := 4000000 } })) ∧
    ((fun (s : State) (who : Who) (core : Nat) => (Asked s who 2 ∧ core < 3 ∧ s.elB 0x2000C 1 false = true) ∧ (s.mode.mode = .stop ∨ s.mode.mode = .run) ∧ (s.tri.duplex = false ∧ (s.tri.core core).state = .active)) ({ mode := { phase := .up, mode := .run }, elems := [(ea 0x2000C 1, 1)] }) (asker 2) (2)) ∧
    ((fun (s : State) (who : Who) (core : Nat) => (Asked s who 0 ∧ 3 ≤ core)) (inMode .run) (asker 0) (3)) ∧
    ((fun (s : State) (_ : Agent) (core : Fin 4) => (s.up = true ∧ core.val < 3 ∧ (s.tri.core core.val).state = .active)) (inMode .run) (.triad) (2)) :=
  ⟨by decide, by decide, by decide, by decide, by decide⟩

/-- The hypotheses of PtpMessagesAreMeasuredForwardedOrCounted can be met, clause by clause. -/
theorem test_meets_PtpMessagesAreMeasuredForwardedOrCounted :
    ((fun (s : State) (h : PtpHead) (_ : Int) => (s.up = true ∧ PtpGood s h ∧ h.port.val < 2)) (inMode .run) ({ port := 1, source := 7, clock := 7, seq := 65535, domain := 0, correction := 1000000000 }) (-3)) ∧
    ((fun (s : State) (h : PtpHead) (_ : Int) (_ : MTime) (d : Int) => (s.up = true ∧ PtpGood s h ∧ h.port.val < 2) ∧ (s.mer.master = some (sourceKey h.source h.port) ∧ (s.mer.port h.port).delay = some d) ∧ (s.mer.state = .free ∧ s.mer.plan = none)) ({ mode := { phase := .up }, mer := { master := some 15, p1 := { delay := some 0 } } }) ({ port := 1, source := 7, clock := 7, seq := 0, domain := 0, correction := 0 }) (1) (5) (0)) ∧
    ((fun (s : State) (h : PtpHead) (_ : Int) (_ : Option MTime) => (s.up = true ∧ PtpGood s h ∧ 2 ≤ h.port.val)) (inMode .run) ({ port := 3, source := 7, clock := 7, seq := 0, domain := 0, correction := 0 }) (1) (none)) ∧
    ((fun (s : State) (h : PtpHead) (_ : Int) (_ : Option MTime) => (s.up = true ∧ h.optionOk = true ∧ h.clock ≠ s.ownClock) ∧ (h.lengthOk = false ∨ h.versionOk = false ∨ h.correction < 0 ∨ 1000000000 < h.correction)) (inMode .run) ({ port := 0, source := 7, clock := 7, seq := 0, domain := 0, correction := 1000000001 }) (1) (none)) ∧
    ((fun (s : State) (h : PtpHead) (_ : Int) (_ : Option MTime) => (s.up = true ∧ h.optionOk = false)) (inMode .run) ({ port := 0, source := 7, clock := 7, seq := 0, domain := 0, correction := 0, optionOk := false }) (1) (none)) ∧
    ((fun (s : State) (h : PtpHead) (_ : MTime) (x : Int) => (s.up = true ∧ PtpGood s h ∧ h.port.val < 2) ∧ ((s.mer.port h.port).sync = some (h.seq, x)) ∧ (s.mer.master ≠ some (sourceKey h.source h.port))) ({ mode := { phase := .up }, mer := { p0 := { sync := some (9, 5) } } }) ({ port := 0, source := 7, clock := 7, seq := 9, domain := 0, correction := 1 }) (3) (5)) ∧
    ((fun (s : State) (h : PtpHead) (_ _ : MTime) (x : Int) => (s.up = true ∧ PtpGood s h) ∧ ((s.mer.port h.port).req = some (h.seq, x))) ({ mode := { phase := .up }, mer := { p3 := { req := some (9, 5) } } }) ({ port := 3, source := 7, clock := 7, seq := 9, domain := 0, correction := 1 }) (3) (4) (5)) ∧
    ((fun (s : State) (h : PtpHead) (_ _ : MTime) (x : Int) => (s.up = true ∧ PtpGood s h) ∧ ((s.mer.port h.port).req = some (h.seq, x))) ({ mode := { phase := .up }, mer := { p0 := { req := some (9, 5) } } }) ({ port := 0, source := 7, clock := 7, seq := 9, domain := 0, correction := 1 }) (3) (4) (5)) :=
  ⟨by decide, by decide, by decide, by decide, by decide, by decide, by decide, by decide⟩

/-- The hypotheses of MastersAreChosenAndLost can be met, clause by clause. -/
theorem test_meets_MastersAreChosenAndLost :
    ((fun (s : State) (h : PtpHead) (_ : Announce) => (s.up = true ∧ PtpGood s h ∧ h.port.val < 2) ∧ (s.mer.sources = [] ∧ s.trusted h.source = true ∧ s.elB 0x40002 3 false = false)) (inMode .run) ({ port := 1, source := 7, clock := 7, seq := 0, domain := 0, correction := 0 }) ({ gm := 9, priority1 := 0, clockClass := 6, accuracy := 0, variance := 0, priority2 := 0, stepsRemoved := 0, ptpTimescale := true, utcValid := true, utcOffset := 37, leap := false })) ∧
    ((fun (s : State) (source : Nat) => (s.up = true ∧ (Table.get s.mer.offenders {} source).untrusted = true) ∧ ((Table.get s.mer.offenders {} source).violations.headD 0 + 240000000000 ≤ s.mer.raw)) ({ mode := { phase := .up }, mer := { raw := 240000000000, offenders := [(7, { untrusted := true })] } }) (7)) ∧
    ((fun (s : State) => (s.up = true ∧ s.mer.plan = none ∧ s.mer.lastMeas + 3 * s.syncTicks ≤ s.mer.raw) ∧ (s.mer.state = .locked ∨ s.mer.state = .tracking ∨ s.mer.state = .broken)) ({ mode := { phase := .up }, mer := { state := .locked, raw := 150000000 } })) ∧
    ((fun (s : State) => (s.up = true ∧ s.mer.plan = none ∧ s.mer.lastMeas + 3 * s.syncTicks ≤ s.mer.raw) ∧ (s.mer.state = .acquiring)) ({ mode := { phase := .up }, mer := { state := .acquiring, raw := 150000000 } })) ∧
    ((fun (s : State) (k : Nat) => (s.up = true ∧ s.mer.master = some k) ∧ ((Table.get s.mer.sources {} k).heard + 3 * s.announceTicks ≤ s.mer.raw) ∧ (s.mer.plan = none ∧ s.mer.state = .locked)) ({ mode := { phase := .up }, mer := { state := .locked, raw := 2400000000, master := some 4, sources := [(4, {})] } }) (4)) ∧
    ((fun (s : State) => (s.up = true ∧ s.mer.state = .holdover ∧ s.mer.holdReported = false) ∧ (s.mer.holdSince + s.el 0x40004 1 60 * 400000000 ≤ s.mer.raw)) ({ mode := { phase := .up }, mer := { state := .holdover, raw := 24000000000 } })) :=
  ⟨by decide, by decide, by decide, by decide, by decide, by decide⟩

/-- The hypotheses of StepsAreCommandedPlannedAndTaken can be met, clause by clause. -/
theorem test_meets_StepsAreCommandedPlannedAndTaken :
    ((fun (s : State) (_ : Agent) => (s.up = true ∧ s.mer.plan = none)) ({ mode := { phase := .up }, mer := { raw := 1, stepReg := -5 } }) (.cc0)) ∧
    ((fun (s : State) (p : StepPlan) => (s.up = true ∧ s.mer.plan = some p ∧ p.atRaw ≤ s.mer.raw)) ({ mode := { phase := .up }, mer := { raw := 800000, state := .acquiring, plan := some { delta := 10, atRaw := 800000, code := 0x4001 } } }) ({ delta := 10, atRaw := 800000, code := 0x4001 })) ∧
    ((fun (s : State) (_ : Who) => (s.up = true ∧ s.mode.lifeCycle ≠ .retired ∧ s.mer.state = .broken ∧ s.leg.grant.isSome = true)) ({ mode := { phase := .up }, mer := { state := .broken }, leg := { grant := some 0 } }) (asker 0)) ∧
    ((fun (s : State) (_ : Who) => (s.up = true ∧ s.mer.state ≠ .broken)) (inMode .stop) (asker 2)) ∧
    ((fun (s : State) (_ : Agent) => (s.up = true)) (inMode .run) (.triad)) ∧
    ((fun (s : State) => (s.evr.ready = true ∧ s.mer.opSecs < s.mer.opMs / 1000)) ({ evr := { ready := true }, mer := { opMs := 1000 } })) ∧
    ((fun (s : State) (_ : Agent) (_ : Fin 2) => (s.up = true)) ({ mode := { phase := .up }, mer := { raw := 4294967296 } }) (.cc1) (1)) :=
  ⟨by decide, by decide, by decide, by decide, by decide, by decide, by decide⟩

/-- The hypotheses of MasterRolesSendTheirMessages can be met, clause by clause. -/
theorem test_meets_MasterRolesSendTheirMessages :
    ((fun (s : State) (_ : Port) => (s.up = true)) ({ mode := { phase := .up }, mer := { p2 := { reqSeq := 65535 } } }) (2)) ∧
    ((fun (s : State) (p : Port) => (s.up = true ∧ s.mer.plantMaster = true ∧ p.val < 2 ∧ Table.find s.mer.plantSyncAt p = none)) ({ mode := { phase := .up }, mer := { plantMaster := true } }) (1)) ∧
    ((fun (s : State) => (s.up = true ∧ s.ownsClaim = true ∧ s.heads.isEmpty = false ∧ s.mer.ringSyncAt = none)) ({ mode := { phase := .up }, elems := [(ea 0xA0100 0, 1)] })) :=
  ⟨by decide, by decide, by decide⟩

/-- The hypotheses of WaypointSlotsAreWrittenStagedAndFired can be met, clause by clause. -/
theorem test_meets_WaypointSlotsAreWrittenStagedAndFired :
    ((fun (s : State) (who : Who) (slot : Fin 1024) (r : WptRec) => (Asked s who 2 ∧ s.slotFault slot r = none)) (inMode .run) (asker 2) (1023) ({ instant := 5000, period := 10000, enable := true })) ∧
    ((fun (s : State) (who : Who) (slot : Fin 1024) (_ : WptRec) => (Asked s who 2 ∧ slot.val < 384)) (inMode .run) (asker 2) (383) ({})) ∧
    ((fun (s : State) (_ : Agent) => (s.up = true)) (inMode .run) (.triad)) ∧
    ((fun (s : State) (agent : Agent) => (s.up = true ∧ 384 ≤ (s.sys.bank agent).wptSel ∧ (s.sys.bank agent).wptSel < 1024) ∧ (s.slotFault (s.sys.bank agent).wptSel (wptOfBytes ((s.sys.bank agent).wptRec.flatMap (leBytes 4))) = none)) ({ mode := { phase := .up }, sys := { cc1 := { wptSel := 384 } } }) (.cc1)) ∧
    ((fun (s : State) (slot : Fin 1024) => (s.up = true ∧ (s.slot slot).enable = true ∧ (s.slot slot).instant ≤ s.now + 4000 ∧ s.wpt.staged.contains slot.val = false)) ({ mode := { phase := .up }, wpt := { slots := [(0, { enable := true, instant := 4000 })] } }) (0)) ∧
    ((fun (s : State) (n : Nat) => (s.up = true ∧ s.dueSlots = [n] ∧ s.wpt.lates.contains n = false) ∧ ((s.slot n).action = 0 ∧ (s.slot n).skipUnsync = false)) ({ mode := { phase := .up }, wpt := { slots := [(400, { enable := true, period := 10000, count := 1, fired := 65535 })] } }) (400)) ∧
    ((fun (s : State) (n : Nat) => (s.up = true ∧ s.dueSlots = [n] ∧ s.wpt.lates.contains n = false ∧ s.wpt.staged.contains n = false) ∧ ((s.slot n).skipUnsync = true ∧ s.mer.state ≠ .locked)) ({ mode := { phase := .up, mode := .run }, wpt := { slots := [(400, { enable := true, action := 5, skipUnsync := true })] } }) (400)) ∧
    ((fun (s : State) (n : Nat) => (s.up = true ∧ s.dueSlots = [n] ∧ s.wpt.lates.contains n = false) ∧ ((s.slot n).skipUnsync = false ∧ (s.slot n).action = 5 ∧ (s.mode.mode = .stop ∨ s.mode.mode = .safe))) ({ mode := { phase := .up, mode := .stop }, wpt := { slots := [(400, { enable := true, action := 5 })] } }) (400)) ∧
    ((fun (s : State) (n : Nat) => (s.up = true ∧ s.dueSlots = [n] ∧ s.wpt.lates.contains n = false ∧ s.mode.mode = .run) ∧ ((s.slot n).skipUnsync = false ∧ (s.slot n).action = 5 ∧ s.el (0x60300 + (s.slot n).target) 0 0 ≠ 0)) ({ mode := { phase := .up, mode := .run }, elems := [(ea 0x60300 0, 1)], wpt := { slots := [(400, { enable := true, action := 5 })] } }) (400)) :=
  ⟨by decide, by decide, by decide, by decide, by decide, by decide, by decide, by decide, by decide⟩

/-- The hypotheses of TaskCyclesFreezeMissAndRelease can be met, clause by clause. -/
theorem test_meets_TaskCyclesFreezeMissAndRelease :
    ((fun (s : State) (task : Fin 16) => (s.up = true ∧ s.mode.mode = .run ∧ (s.taskRun task).latched = true ∧ (s.taskRun task).freeze ≤ s.now ∧ s.tri.unit_ = .idle)) ({ mode := { phase := .up, mode := .run }, tsk := { runs := [(15, { latched := true })] } }) (15)) ∧
    ((fun (s : State) (task : Fin 16) => (s.up = true ∧ s.mode.mode = .run ∧ (s.taskRun task).latched = true ∧ (s.taskRun task).freeze ≤ s.now ∧ s.tri.unit_ ≠ .idle)) ({ mode := { phase := .up, mode := .run }, tri := { unit_ := .service 3 }, tsk := { runs := [(0, { latched := true })] } }) (0)) ∧
    ((fun (s : State) (task : Fin 16) => (s.up = true ∧ s.mode.mode = .run ∧ (s.taskRun task).busy = true ∧ (s.taskRun task).missed = false ∧ s.taskDeadline task ≤ s.now) ∧ ((s.taskRec task).ringOwner = false)) ({ mode := { phase := .up, mode := .run }, mer := { raw := 800 }, tsk := { runs := [(3, { frozen := true })] } }) (3)) ∧
    ((fun (s : State) (task : Fin 16) => (s.up = true ∧ s.mode.mode = .run ∧ (s.taskRun task).busy = true ∧ (s.taskRun task).missed = false ∧ s.taskDeadline task ≤ s.now) ∧ ((s.taskRec task).ringOwner = true ∧ (s.exchHeads task).isEmpty = false)) ({ mode := { phase := .up, mode := .run }, mer := { raw := 1200 }, elems := [(ea 0x21003 5, 1), (ea 0xA0100 0, 7)], tsk := { runs := [(3, { frozen := true })] } }) (3)) ∧
    ((fun (s : State) (task : Fin 16) (n : Fin 32) (v : Nat) (i : MTime) => (s.up = true ∧ v ≤ 1 ∧ i ≤ s.now ∧ s.red.staged = [] ∧ s.sur.cmdPts = []) ∧ ((s.taskRun task).handed = [{ at_ := i, outs := [{ chan := .dio n, value := v }] }] ∧ (s.taskRun task).stopAt = none) ∧ (s.dioMode n = 2 ∧ (s.dioCh n).unlatch = false)) ({ mode := { phase := .up, mode := .run }, dio := { cfg := [(31, 2)] }, tsk := { runs := [(0, { handed := [{ at_ := 0, outs := [{ chan := .dio 31, value := 1 }] }] })] } }) (0) (31) (1) (0)) :=
  ⟨by decide, by decide, by decide, by decide, by decide⟩

/-- The hypotheses of OnlineValuesAndContainersAreAccepted can be met, clause by clause. -/
theorem test_meets_OnlineValuesAndContainersAreAccepted :
    ((fun (s : State) (who : Who) (e n value : Nat) (d : SingleDecl) (x : Desc) => (s.up = true ∧ s.mode.lifeCycle ≠ .retired ∧ n < 256) ∧ (s.single? e n = some d ∧ s.desc e n = some x ∧ d.ea = ea e n) ∧ (d.priv ≤ who.level.val ∧ x.fits value = true) ∧ (s.tasksLive = false)) ({ mode := { phase := .up, mode := .stop }, tsk := { active := some { ident := 1, tasks := [], singles := [{ ea := ea 0x28000 3, type := 0x02, lo := 0, hi := 9, priv := 1, task := 0 }] } } }) (asker 1) (0x28000) (3) (9) ({ ea := ea 0x28000 3, type := 0x02, lo := 0, hi := 9, priv := 1, task := 0 }) ({ ty := 0x02, size := typeSize 0x02, acc := 1, priv := 1, lo := 0, hi := 9, dflt := 0 })) ∧
    ((fun (s : State) (who : Who) (e n value : Nat) (d : SingleDecl) (x : Desc) => (s.up = true ∧ s.mode.lifeCycle ≠ .retired ∧ n < 256) ∧ (s.single? e n = some d ∧ s.desc e n = some x ∧ d.ea = ea e n) ∧ (d.priv ≤ who.level.val ∧ x.fits value = true) ∧ (s.tasksLive = true ∧ s.taskOn d.task = true)) ({ mode := { phase := .up, mode := .run }, elems := [(ea 0x21000 0, 1)], tsk := { active := some { ident := 1, tasks := [], singles := [{ ea := ea 0x28000 3, type := 0x02, lo := 0, hi := 9, priv := 1, task := 0 }] } } }) (asker 1) (0x28000) (3) (9) ({ ea := ea 0x28000 3, type := 0x02, lo := 0, hi := 9, priv := 1, task := 0 }) ({ ty := 0x02, size := typeSize 0x02, acc := 1, priv := 1, lo := 0, hi := 9, dflt := 0 })) ∧
    ((fun (s : State) (who : Who) (e n _ : Nat) (d : SingleDecl) (x : Desc) => (s.up = true ∧ s.mode.lifeCycle ≠ .retired ∧ n < 256) ∧ (s.single? e n = some d ∧ s.desc e n = some x) ∧ (who.level.val < d.priv)) ({ mode := { phase := .up, mode := .run }, tsk := { active := some { ident := 1, tasks := [], singles := [{ ea := ea 0x28000 3, type := 0x02, lo := 0, hi := 9, priv := 2, task := 0 }] } } }) (asker 1) (0x28000) (3) (9) ({ ea := ea 0x28000 3, type := 0x02, lo := 0, hi := 9, priv := 2, task := 0 }) ({ ty := 0x02, size := typeSize 0x02, acc := 1, priv := 2, lo := 0, hi := 9, dflt := 0 })) ∧
    ((fun (s : State) (who : Who) (i v : Nat) (d : ConstDecl) (k : Nat) => (Asked s who 2 ∧ s.tasksLive = false) ∧ (s.stagedConsts = [(i, v)] ∧ s.const? i = some d ∧ d.tasks = [k])) ({ mode := { phase := .up, mode := .stop }, elems := [(ea 0x22011 63, 5)], tsk := { active := some { ident := 1, tasks := [], consts := [{ idx := 63, type := 2, lo := 0, hi := 9, tasks := [15] }] } } }) (asker 2) (63) (5) ({ idx := 63, type := 2, lo := 0, hi := 9, tasks := [15] }) (15)) ∧
    ((fun (s : State) (who : Who) (prog : Program) => (Asked s who 2 ∧ s.mode.mode = .stop ∧ Authorised s) ∧ (s.loadFault prog = none)) ({ mode := { phase := .up, mode := .stop }, leg := { keys := openKey, staging := shortContainer 0x53 0x50, stagingLen := 128 } }) (asker 2) ({ ident := 1, tasks := [] })) ∧
    ((fun (s : State) (who : Who) (_ : Program) => (Asked s who 2 ∧ s.mode.mode ≠ .stop)) (inMode .run) (asker 2) ({ ident := 1, tasks := [] })) :=
  ⟨by decide +kernel, by decide +kernel, by decide +kernel, by decide +kernel, by decide +kernel, by decide +kernel⟩

/-- The hypotheses of RingDeadlinesJudgeTheHeads can be met, clause by clause. -/
theorem test_meets_RingDeadlinesJudgeTheHeads :
    ((fun (s : State) (owner : Fin 272) (x : Exchange) => (s.up = true ∧ s.exchange? owner = some x ∧ s.collectDue x = true) ∧ ((s.exchHeads owner).all (fun h => (s.head h).answered) = true)) ({ mode := { phase := .up, mode := .run }, mer := { raw := 1120 }, ring := { exchanges := [{ owner := 271, at_ := 0, seq := 0 }] } }) (271) ({ owner := 271, at_ := 0, seq := 0 })) ∧
    ((fun (s : State) (owner : Fin 272) (x : Exchange) (h : Nat) => (s.up = true ∧ s.exchange? owner = some x ∧ s.collectDue x = true) ∧ ((s.exchHeads owner).filter (fun h => !(s.head h).answered) = [h]) ∧ ((s.head h).state = .missing ∧ s.headMiss h ≤ (s.head h).missed)) ({ mode := { phase := .up, mode := .run }, mer := { raw := 1440 }, elems := [(ea 0xA0117 0, 1)], ring := { heads := [(23, { state := .missing, missed := 1 })], exchanges := [{ owner := 0, at_ := 0, seq := 0 }] } }) (0) ({ owner := 0, at_ := 0, seq := 0 }) (23)) ∧
    ((fun (s : State) (owner : Fin 272) (x : Exchange) (h : Nat) => (s.up = true ∧ s.exchange? owner = some x ∧ x.sentOut = true ∧ x.checkAt ≤ s.now) ∧ (s.exchHeads owner = [h] ∧ (s.head h).acked = true ∧ (s.head h).state = .present)) ({ mode := { phase := .up, mode := .run }, elems := [(ea 0xA0117 0, 1)], ring := { heads := [(23, { acked := true, missed := 1 })], exchanges := [{ owner := 0, at_ := 0, seq := 0, sentOut := true }] } }) (0) ({ owner := 0, at_ := 0, seq := 0, sentOut := true }) (23)) ∧
    ((fun (s : State) (owner : Fin 16) (x : Exchange) (h : Nat) => (s.up = true ∧ s.exchange? owner = some x ∧ x.sentOut = true ∧ x.checkAt ≤ s.now) ∧ (s.exchHeads owner = [h] ∧ (s.head h).acked = false ∧ (s.head h).state = .present)) ({ mode := { phase := .up, mode := .run }, elems := [(ea 0xA0117 0, 1)], ring := { heads := [(23, { missed := 255 })], exchanges := [{ owner := 15, at_ := 0, seq := 0, sentOut := true }] } }) (15) ({ owner := 15, at_ := 0, seq := 0, sentOut := true }) (23)) :=
  ⟨by decide, by decide, by decide, by decide⟩

/-- The hypotheses of LoopSamplesAreQueuedEvaluatedAndStaged can be met, clause by clause. -/
theorem test_meets_LoopSamplesAreQueuedEvaluatedAndStaged :
    ((fun (s : State) (g : Fin 256) => (s.up = true ∧ s.loopsRun = true ∧ (s.group g).latched = true ∧ (s.group g).todo = []) ∧ (∀ h, h < 256 → (s.group h).latched = true → (s.group h).s = (s.group g).s → (s.group g).s + s.groupTRdy h ≤ s.now)) ({ mode := { phase := .up, mode := .run }, mer := { raw := 400 }, cen := { groups := [(255, { latched := true })] } }) (255)) ∧
    ((fun (s : State) (slot : Fin 4096) (_ : Nat) => (s.up = true ∧ s.loopsRun = true ∧ s.cen.changes = [] ∧ s.cen.acks = [] ∧ s.lN slot 41 0 ≠ 2) ∧ ((s.group (s.loopGroup slot)).queued = true ∧ (s.group (s.loopGroup slot)).missedNow = false ∧ (s.group (s.loopGroup slot)).todo.head? = some slot.val)) ({ mode := { phase := .up, mode := .run }, elems := [(ea 0x31FFF 0, 1)], cen := { groups := [(0, { queued := true, todo := [4095] })] } }) (4095) (2600)) ∧
    ((fun (s : State) (g : Fin 256) => (s.up = true ∧ s.loopsRun = true ∧ (s.group g).queued = true ∧ (s.group g).todo = [] ∧ (s.group g).staged = false ∧ (s.group g).missedNow = false) ∧ (s.now ≤ s.groupDeadline g ∧ ((s.group g).done.map (·.1)).Nodup)) ({ mode := { phase := .up, mode := .run }, cen := { groups := [(0, { queued := true, done := [(7, { evals := 3 })] })] } }) (0)) ∧
    ((fun (s : State) (g : Fin 256) => (s.up = true ∧ (s.group g).queued = true ∧ (s.group g).staged = false ∧ (s.group g).missedNow = false) ∧ (s.groupDeadline g ≤ s.now)) ({ mode := { phase := .up, mode := .run }, cen := { groups := [(0, { queued := true })] } }) (0)) ∧
    ((fun (s : State) (g : Fin 256) (slot n : Nat) (i : MTime) => (s.up = true ∧ i ≤ s.now ∧ slot < 4096 ∧ n < 8) ∧ ((s.group g).due = [(slot, i, 0)] ∧ s.loopChan slot = some (.ao n) ∧ s.sur.points = [] ∧ s.objs 0 = [] ∧ s.objs 1 = [] ∧ s.objs 2 = [] ∧ s.objs 3 = [])) ({ mode := { phase := .up, mode := .run }, sur := { cmdPts := [(5, .ao 7)] }, elems := [(ea 0x31000 0, 1), (ea 0x31000 11, 5)], cen := { groups := [(0, { due := [(0, 0, 0)] })] } }) (0) (0) (7) (0)) :=
  ⟨by decide +kernel, by decide +kernel, by decide +kernel, by decide +kernel, by decide +kernel⟩

/-- The hypotheses of LoopRecordsAreChangedOnline can be met, clause by clause. -/
theorem test_meets_LoopRecordsAreChangedOnline :
    ((fun (s : State) (who : Who) (slot : Fin 4096) (req : Nat) => (Asked s who 1 ∧ 1 ≤ req ∧ req ≤ 3 ∧ s.changeAt slot = none)) (inMode .stop) (asker 1) (4095) (3)) ∧
    ((fun (s : State) (who : Who) (slot : Fin 4096) (req : Nat) (i : MTime) => (Asked s who 1 ∧ 1 ≤ req ∧ req ≤ 3 ∧ s.changeAt slot = some i)) ({ mode := { phase := .up, mode := .run }, elems := [(ea 0x30100 0, 1), (ea 0x31000 0, 1)] }) (asker 1) (0) (1) (({ mode := { phase := .up, mode := .run }, elems := [(ea 0x30100 0, 1), (ea 0x31000 0, 1)] } : State).sampleFrom 0 1000000)) ∧
    ((fun (s : State) (who : Who) (slot : Fin 4096) (elem value : Nat) => (Asked s who 2 ∧ 19 ≤ elem ∧ elem ≤ 41) ∧ (s.loopCheck slot elem value = none ∧ s.changeAt slot = none)) (inMode .stop) (asker 2) (0) (41) (2)) ∧
    ((fun (s : State) (who : Who) (slot : Fin 4096) (elem value : Nat) => (Asked s who 2 ∧ 19 ≤ elem ∧ elem ≤ 41) ∧ (s.loopCheck slot elem value = some ansRange)) (inMode .stop) (asker 2) (0) (19) (0)) ∧
    ((fun (s : State) (who : Who) => (Asked s who 2)) (inMode .run) (asker 2)) ∧
    ((fun (s : State) (_ : Agent) => (s.up = true)) (inMode .run) (.triad)) ∧
    ((fun (s : State) (who : Who) (slot : Fin 4096) => (Asked s who 1 ∧ (s.loop slot).latched = true ∧ s.changeAt slot = none)) ({ mode := { phase := .up, mode := .stop }, cen := { loops := [(4095, { latched := true, heldSet := 16 })] } }) (asker 1) (4095)) ∧
    ((fun (s : State) (who : Who) (slot : Fin 4096) => (Asked s who 1 ∧ (s.loop slot).latched = false)) (inMode .run) (asker 1) (0)) :=
  ⟨by decide, by decide, by decide, by decide, by decide, by decide, by decide, by decide⟩

/-- The hypotheses of ContourTablesAreCommittedAndApplied can be met, clause by clause. -/
theorem test_meets_ContourTablesAreCommittedAndApplied :
    ((fun (s : State) (who : Who) (k : Fin 512) => (Asked s who 2 ∧ s.mode.mode = .stop ∧ s.contourFault k (s.stagedTable k) = none)) (inMode .stop) (asker 2) (511)) ∧
    ((fun (s : State) (who : Who) (k : Fin 512) (o : Nat) => (Asked s who 2 ∧ s.contourFault k (s.stagedTable k) = some o ∧ o < 4096)) ({ mode := { phase := .up, mode := .stop }, elems := [(ea 0x34000 0, 3)] }) (asker 2) (0) (0)) ∧
    ((fun (s : State) (k : Fin 512) (x : TableCommit) (i : MTime) => (s.up = true ∧ s.cen.commits = [x] ∧ x.table = k.val ∧ x.at_ = some i ∧ i ≤ s.now)) ({ mode := { phase := .up, mode := .run }, cen := { commits := [{ table := 511, accepted := 0, at_ := some 0, copy := { hdr := 1 } }] } }) (511) ({ table := 511, accepted := 0, at_ := some 0, copy := { hdr := 1 } }) (0)) ∧
    ((fun (s : State) (k : Fin 512) (x : TableCommit) => (s.up = true ∧ s.cen.commits = [x] ∧ x.table = k.val ∧ x.at_ = none ∧ x.accepted + 1000000000 ≤ s.now)) ({ mode := { phase := .up, mode := .run }, mer := { raw := 400000000 }, cen := { commits := [{ table := 0, accepted := 0, at_ := none, copy := {} }] } }) (0) ({ table := 0, accepted := 0, at_ := none, copy := {} })) :=
  ⟨by decide +kernel, by decide +kernel, by decide +kernel, by decide +kernel⟩

/-- The hypotheses of RenewalsNeedThePermit can be met, clause by clause. -/
theorem test_meets_RenewalsNeedThePermit :
    ((fun (s : State) => (s.up = true ∧ s.pairMember = true ∧ s.renews = true ∧ s.now < s.red.lastRenewM + 2000 ∧ s.red.lastRenewM ≤ s.now ∧ s.red.seq ≠ 0)) (memberWith .run { renewing := true, holds := true, permitAt := some 399000, lastRenewM := 999999, seq := 7 })) ∧
    ((fun (s : State) => (s.up = true ∧ s.pairMember = true ∧ s.renews = true ∧ s.red.lastRenewM + 2000 ≤ s.now) ∧ (s.red.cur.holder = s.modIndex ∧ s.red.ownRenew.isSome = true)) (memberWith .run { renewing := true, holds := true, permitAt := some 400, seq := 0xFFFFFFFF, ownRenew := some 0, cur := { claim := 41, holder := 8, f := 5 } })) ∧
    ((fun (s : State) => (s.up = true ∧ s.role = 0 ∧ s.renews = true ∧ s.red.seq = 0 ∧ s.red.cur = {} ∧ s.modIndex ≠ 0xFF)) ({ mode := { phase := .up, mode := .run, modIndex := 8 }, mer := { raw := 400000 }, red := { renewing := true, permitAt := some 400 } })) ∧
    ((fun (s : State) => (s.up = true ∧ s.renews = false)) (memberWith .run { renewing := true, holds := true })) ∧
    ((fun (s : State) (_ : Agent) (value : Nat) => (s.up = true ∧ value < 2 ^ 32)) (member .run) (.cc1) (0xC1A1)) ∧
    ((fun (s : State) (p : Nat) => (s.up = true ∧ s.red.permitAt = some p ∧ p + 400000 ≤ s.mer.raw)) (memberWith .run { permitAt := some 0 }) (0)) ∧
    ((fun (s : State) (r : Nat) => (s.up = true ∧ s.pairMember = true ∧ s.red.ownRenew = some r ∧ r + 1600 ≤ s.mer.raw)) ({ memberWith .run { ownRenew := some 398400 } with elems := [(ea 0x50001 0, 1), (ea 0x50001 1, 5), (ea 0x50001 2, 9), (ea 0x70207 0, 1)] }) (398400)) :=
  ⟨by decide +kernel, by decide +kernel, by decide +kernel, by decide +kernel, by decide +kernel, by decide +kernel, by decide +kernel⟩

/-- The hypotheses of StagesObeyTable0803 can be met, clause by clause. -/
theorem test_meets_StagesObeyTable0803 :
    ((fun (s : State) (m : ClaimMsg) => (s.up = true ∧ (m.kind = 1 ∨ m.kind = 2) ∧ s.isWitness = false ∧ m.claim < 2 ^ 32) ∧ (Sound s m ∧ s.red.cur.claim < m.claim ∧ s.mayHold m.holder = true ∧ (m.f = 0 ∨ m.f ≤ s.now))) (memberWith .stop { cur := { claim := 41, holder := 8 } }) (fromPartner 2 42 0 0)) ∧
    ((fun (s : State) (m : ClaimMsg) => (s.up = true ∧ (m.kind = 1 ∨ m.kind = 2) ∧ s.isWitness = false ∧ m.claim < 2 ^ 32) ∧ (Sound s m ∧ s.red.cur.claim < m.claim ∧ s.mayHold m.holder = true ∧ m.f ≠ 0 ∧ s.now < m.f)) (memberWith .stop { cur := { claim := 41, holder := 8 } }) (fromPartner 2 42 3000000 0)) ∧
    ((fun (s : State) (m : ClaimMsg) => (s.up = true ∧ (m.kind = 1 ∨ m.kind = 2) ∧ s.isWitness = false ∧ m.claim < 2 ^ 32) ∧ (Sound s m ∧ m.claim = s.red.cur.claim ∧ m.holder = s.red.cur.holder ∧ (m.holder = s.modIndex → s.red.ownRenew.isSome = true))) (memberWith .run { cur := { claim := 41, holder := 8 }, ownRenew := some 0 }) (toOwn 1 41 0 0)) ∧
    ((fun (s : State) (m : ClaimMsg) => (s.up = true ∧ (m.kind = 1 ∨ m.kind = 2) ∧ s.isWitness = false ∧ m.claim < 2 ^ 32) ∧ (Sound s m ∧ m.claim < s.red.cur.claim)) (memberWith .run { cur := { claim := 41, holder := 8 } }) (fromPartner 1 40 0 0)) ∧
    ((fun (s : State) (m : ClaimMsg) => (s.up = true ∧ (m.kind = 1 ∨ m.kind = 2) ∧ s.isWitness = false ∧ m.claim < 2 ^ 32) ∧ (Sound s m ∧ (m.claim = s.red.cur.claim ∧ m.holder ≠ s.red.cur.holder ∨ s.red.cur.claim < m.claim ∧ s.mayHold m.holder = false))) (memberWith .run { cur := { claim := 41, holder := 8 } }) (fromPartner 2 41 0 0)) ∧
    ((fun (s : State) (m : ClaimMsg) => (s.up = true ∧ (m.kind = 1 ∨ m.kind = 2) ∧ s.isWitness = false ∧ m.claim < 2 ^ 32) ∧ (m.station ≠ s.station ∨ s.tagOk m = false)) (memberWith .run { cur := { claim := 41, holder := 8 } }) ({ fromPartner 2 42 0 0 with tag := 0 })) ∧
    ((fun (s : State) (claim : Nat) (latch release : MTime) (_ : List OutVal) => (s.up = true ∧ claim < 2 ^ 32) ∧ ((claim = s.red.cur.claim ∧ s.red.cur.f ≤ latch) ∨ (claim = s.red.prev.claim ∧ latch < s.red.cur.f)) ∧ (s.now < release)) (memberWith .run { cur := { claim := 41, holder := 8, f := 7 } }) (41) (7) (1000001) ([{ chan := .dio 31, value := 1 }])) ∧
    ((fun (s : State) (claim : Nat) (latch _ : MTime) (_ : List OutVal) => (s.up = true ∧ claim < 2 ^ 32) ∧ (¬ (claim = s.red.cur.claim ∧ s.red.cur.f ≤ latch) ∧ ¬ (claim = s.red.prev.claim ∧ latch < s.red.cur.f))) (memberWith .run { cur := { claim := 41, holder := 8, f := 7 } }) (41) (6) (1000001) ([{ chan := .dio 31, value := 1 }])) ∧
    ((fun (s : State) (c : StageClaim) => (s.up = true ∧ s.red.next_ = some c ∧ c.f ≤ s.now ∧ c.holder ≠ s.modIndex ∧ s.red.holds = false)) (memberWith .standby { next_ := some { claim := 42, holder := 9, f := 1000000 } }) ({ claim := 42, holder := 9, f := 1000000 })) ∧
    ((fun (s : State) (c : StageClaim) => (s.up = true ∧ s.red.next_ = some c ∧ c.f ≤ s.now ∧ c.holder ≠ s.modIndex ∧ s.red.holds = true)) (memberWith .run { holds := true, next_ := some { claim := 42, holder := 9, f := 1000000 } }) ({ claim := 42, holder := 9, f := 1000000 })) ∧
    ((fun (s : State) (c : StageClaim) => (s.up = true ∧ s.pairMember = true ∧ s.red.next_ = some c ∧ c.f ≤ s.now ∧ c.holder = s.modIndex ∧ s.red.dutyMode = Mode.hold.code)) (memberWith .standby { dutyMode := 3, next_ := some { claim := 42, holder := 8, f := 1000000 } }) ({ claim := 42, holder := 8, f := 1000000 })) :=
  ⟨by decide +kernel, by decide +kernel, by decide +kernel, by decide +kernel, by decide +kernel, by decide +kernel, by decide +kernel, by decide +kernel, by decide +kernel, by decide +kernel, by decide +kernel⟩

/-- The hypotheses of MembersWatchEachOther can be met, clause by clause. -/
theorem test_meets_MembersWatchEachOther :
    ((fun (s : State) (m : ClaimMsg) => (s.up = true ∧ s.pairMember = true ∧ m.claim < 2 ^ 32 ∧ m.kind = 1 ∧ m.station = s.station ∧ m.holder = s.partner)) (memberWith .standby { request := some (42, 0, 0), lapse := true }) ({ fromPartner 1 41 0 0 with seq := 9 })) ∧
    ((fun (s : State) => (s.up = true ∧ s.pairMember = true ∧ s.red.holds = true ∧ s.red.renewing = true ∧ s.red.suspended = false ∧ s.red.seq ≠ 0) ∧ ((∀ e, s.red.lastEcho = some e → e + 1600 ≤ s.mer.raw) ∧ (∀ a, s.red.lastAck = some a → a + 1600 ≤ s.mer.raw))) (memberWith .run { holds := true, renewing := true, seq := 1 })) ∧
    ((fun (s : State) (m : ClaimMsg) => (s.up = true ∧ s.pairMember = true ∧ m.claim < 2 ^ 32 ∧ m.kind = 3 ∧ m.station = s.station ∧ m.holder = s.modIndex)) (memberWith .run { suspended := true }) (toOwn 3 41 0 1)) ∧
    ((fun (s : State) (m : ClaimMsg) => (s.up = true ∧ s.pairMember = true ∧ m.claim < 2 ^ 32 ∧ m.kind = 4 ∧ m.station = s.station)) (memberWith .run { suspended := true, cur := { claim := 41, holder := 8 } }) (toOwn 4 41 0 0)) ∧
    ((fun (s : State) (m : ClaimMsg) => (s.up = true ∧ s.pairMember = true ∧ m.claim < 2 ^ 32 ∧ (m.kind = 1 ∨ m.kind = 2) ∧ m.holder = s.partner) ∧ (Sound s m ∧ s.red.holds = false ∧ s.red.highest < m.claim ∧ (m.f = 0 ∨ m.f ≤ s.now)) ∧ (s.mode.mode = .run ∨ s.mode.mode = .hold ∨ s.mode.mode = .stop ∨ s.mode.mode = .safe)) (memberWith .stop { cur := { claim := 41, holder := 8 } }) (fromPartner 1 42 0 0)) ∧
    ((fun (s : State) (m : ClaimMsg) => (s.up = true ∧ s.pairMember = true ∧ m.claim < 2 ^ 32 ∧ (m.kind = 1 ∨ m.kind = 2) ∧ m.holder = s.partner) ∧ (Sound s m ∧ s.red.holds = true ∧ s.heldClaim.1 < m.claim ∧ (m.f = 0 ∨ m.f ≤ s.now) ∧ (s.mode.mode = .run ∨ s.mode.mode = .hold))) (memberWith .run { holds := true, renewing := true, cur := { claim := 41, holder := 8 } }) (fromPartner 2 42 0 0)) ∧
    ((fun (s : State) => (s.up = true ∧ s.mode.mode = .standby ∧ s.red.lapse = false ∧ s.red.ready = false) ∧ (∀ p, s.red.peerRenew = some p → p + 2400 ≤ s.mer.raw)) (memberWith .standby {})) ∧
    ((fun (s : State) => (s.up = true ∧ s.mode.mode = .standby ∧ s.red.lapse = false ∧ s.red.ready = true) ∧ (∀ p, s.red.peerRenew = some p → p + 2400 ≤ s.mer.raw)) (memberWith .standby { ready := true, peerRenew := some 397600, cur := { claim := 41, holder := 9 } })) ∧
    ((fun (s : State) (c r : Nat) => (s.up = true ∧ s.red.request = some (c, 0, r) ∧ s.red.lapse = true ∧ r + 4000 ≤ s.mer.raw)) (memberWith .standby { lapse := true, ready := true, request := some (42, 0, 396000) }) (42) (396000)) ∧
    ((fun (s : State) (m : ClaimMsg) (r : Nat) => (s.up = true ∧ s.pairMember = true ∧ s.red.request = some (m.claim, 0, r) ∧ m.kind = 6 ∧ m.holder = s.modIndex ∧ Sound s m ∧ m.claim < 2 ^ 32) ∧ (s.mode.mode = .standby ∧ s.mode.applying = false ∧ s.red.cur.claim < m.claim ∧ s.mem.tamper = false ∧ s.red.dutyMode = Mode.run.code) ∧ (s.red.swap = 0)) (memberWith .standby { request := some (42, 0, 0), dutyMode := 2, cur := { claim := 41, holder := 9 } }) (toOwn 6 42 0 0) (0)) ∧
    ((fun (s : State) (m : ClaimMsg) (f : MTime) (r : Nat) => (s.up = true ∧ s.red.request = some (m.claim, f, r) ∧ m.kind = 6 ∧ m.holder = s.modIndex ∧ Sound s m ∧ m.claim < 2 ^ 32) ∧ (s.mode.applying = false ∧ f ≠ 0 ∧ s.now ≤ f - 1000000 ∧ s.red.cur.claim < m.claim)) (memberWith .standby { request := some (42, 3000000, 0), cur := { claim := 41, holder := 9 } }) (toOwn 6 42 3000000 0) (3000000) (0)) ∧
    ((fun (s : State) (m : ClaimMsg) => (s.up = true ∧ s.red.request.isSome = true ∧ m.kind = 7 ∧ m.station = s.station ∧ m.claim < 2 ^ 32 ∧ s.mode.applying = false)) (memberWith .standby { request := some (42, 0, 0) }) (toOwn 7 50 0 4)) ∧
    ((fun (s : State) => (s.up = true ∧ s.pairMember = true ∧ s.red.holds = true ∧ s.red.witnessLost = false) ∧ ((∀ e, s.red.lastEcho = some e → e + 1600 ≤ s.mer.raw) ∧ (∃ a, s.red.lastAck = some a ∧ s.mer.raw < a + 1600))) (memberWith .run { holds := true, lastEcho := some 398400, lastAck := some 398401 })) :=
  ⟨by decide +kernel, by decide +kernel, by decide +kernel, by decide +kernel, by decide +kernel, by decide +kernel, by decide +kernel, by decide +kernel, by decide +kernel, by decide +kernel, by decide +kernel, by decide +kernel, by decide +kernel⟩

/-- The hypotheses of TheWitnessEndorsesEachClaimOnce can be met, clause by clause. -/
theorem test_meets_TheWitnessEndorsesEachClaimOnce :
    ((fun (s : State) (m : ClaimMsg) (i : Nat) => (s.up = true ∧ Serves s m i ∧ m.claim < 2 ^ 32)) (witnessOf { e := 41, holder := 9 }) (fromPartner 1 41 0 0) (15)) ∧
    ((fun (s : State) (m : ClaimMsg) (i : Nat) => (s.up = true ∧ Serves s m i ∧ m.claim < 2 ^ 32 ∧ m.kind = 8 ∧ m.claim = (s.witStation i).e ∧ m.holder = (s.witStation i).holder)) (witnessOf { e := 41, holder := 9 }) (fromPartner 8 41 13000000 0) (15)) ∧
    ((fun (s : State) (m : ClaimMsg) (i : Nat) => (s.up = true ∧ m.kind = 5 ∧ Serves s m i ∧ m.claim < 2 ^ 32 ∧ s.witRefusal i m = none ∧ s.mem.tamper = false)) (witnessOf { e := 0xFFFEFFFF, holder := 9, watched := true, lastRenew := some 3998000 }) (toOwn 5 0xFFFF0000 0 1) (15)) ∧
    ((fun (s : State) (m : ClaimMsg) (i : Nat) => (s.up = true ∧ m.kind = 5 ∧ Serves s m i ∧ m.claim < 2 ^ 32 ∧ (s.witStation i).watched = true) ∧ ((s.witStation i).e = 0xFFFFFFFF)) (witnessOf { e := 0xFFFFFFFF, holder := 9, watched := true }) (toOwn 5 0 0 1) (15)) ∧
    ((fun (s : State) (m : ClaimMsg) (i why : Nat) => (s.up = true ∧ m.kind = 5 ∧ Serves s m i ∧ m.claim < 2 ^ 32 ∧ s.witRefusal i m = some why)) (witnessOf { e := 41, holder := 9, watched := true, lastRenew := some 3998001 }) (toOwn 5 42 0 1) (15) (1)) ∧
    ((fun (s : State) (_ : Fin 16) => (s.up = true ∧ s.mode.mode = .witness ∧ s.wit.since + 4000 ≤ s.mer.raw)) (witnessOf { e := 41, holder := 9 }) (15)) ∧
    ((fun (s : State) (i : Fin 16) (r : Nat) => (s.up = true ∧ s.mode.mode = .witness ∧ s.el (0x50030 + i) 0 0 ≠ 0 ∧ (s.witStation i).silent = false) ∧ ((s.witStation i).lastRenew = some r ∧ r + 2000 ≤ s.mer.raw)) (witnessOf { e := 41, holder := 9, lastRenew := some 0 }) (15) (0)) ∧
    ((fun (s : State) (who : Who) (i : Fin 16) => (Asked s who 2 ∧ s.isWitness = true ∧ Authorised s) ∧ (∀ r, (s.witStation i).lastAny = some r → r + 400000000 ≤ s.mer.raw)) (witnessOf { e := 41, holder := 9 }) (asker 2) (15)) ∧
    ((fun (s : State) (who : Who) (i : Fin 16) => (Asked s who 2 ∧ (s.isWitness = false ∨ ∃ r, (s.witStation i).lastAny = some r ∧ s.mer.raw < r + 400000000))) (memberWith .service {}) (asker 2) (0)) :=
  ⟨by decide +kernel, by decide +kernel, by decide +kernel, by decide +kernel, by decide +kernel, by decide +kernel, by decide +kernel, by decide +kernel, by decide +kernel⟩

/-- The hypotheses of CopiesFeedTheShadow can be met, clause by clause. -/
theorem test_meets_CopiesFeedTheShadow :
    ((fun (s : State) (_ : Nat) (u : CopyUnit) (_ : List Byte) => (s.up = true ∧ s.shadows = true ∧ (match u with | .pages 0xFFFF _ => False | _ => True))) (memberWith .standby { ready := true, copies := [(6, { bytes := [1] })] }) (6) (.task 15 0 [] [] [] 0) ([2, 3])) ∧
    ((fun (s : State) (_ : Nat) (p : PageSet) (_ : List Byte) (a k : Nat) (v : Byte) (l : LoopState) => (s.up = true ∧ s.shadows = true ∧ p = { bytes := [(a, [v])], loops := [(k, l)] } ∧ 0x20000000 ≤ a)) (memberWith .standby {}) (6) ({ bytes := [(0x62000000, [7])], loops := [(4095, { flags := 3 })] }) ([]) (0x62000000) (4095) (7) ({ flags := 3 })) ∧
    ((fun (s : State) (seq count crc : Nat) (_ : List WEntry) (_ : List OutVal) (_ : List Eval) => (s.up = true ∧ s.shadows = true ∧ count < 2 ^ 32 ∧ crc < 2 ^ 64 ∧ seq < 2 ^ 32) ∧ ((Table.get s.red.copies {} seq).bytes.length ≠ count ∨ crc64 (Table.get s.red.copies {} seq).bytes ≠ crc ∨ (s.red.nextUnit ≠ 0 ∧ s.red.nextUnit ≠ seq + 1))) (memberWith .standby { ready := true, nextUnit := 9 }) (7) (0) (crc64 []) ([]) ([]) ([])) ∧
    ((fun (s : State) (seq count crc : Nat) (set : List WEntry) (_ : List OutVal) (_ : List Eval) (k : Nat) (c : MTime) (image : List (Nat × SurveyRec)) (ret : List WEntry) (outs : List OutVal) (sig : Nat) => (s.up = true ∧ s.shadows = true ∧ count < 2 ^ 32 ∧ crc < 2 ^ 64 ∧ seq < 2 ^ 32 ∧ (Table.get s.red.copies {} seq).units = [.task k c image ret outs sig]) ∧ ((Table.get s.red.copies {} seq).bytes.length = count ∧ crc64 (Table.get s.red.copies {} seq).bytes = crc ∧ (s.red.nextUnit = 0 ∨ s.red.nextUnit = seq + 1)) ∧ (s.red.changes = [] ∧ s.red.swap ≠ 2 ∧ s.red.shadowing.contains k = true ∧ setSig set = sig)) (memberWith .standby { copies := [(6, { units := [.task 0 5 [] [] [] 0], bytes := [] })], shadowing := [0], nextUnit := 7, matched := [(0, 15)] }) (6) (0) (crc64 []) ([]) ([]) ([]) (0) (5) ([]) ([]) ([]) (0)) ∧
    ((fun (s : State) (seq count crc : Nat) (set : List WEntry) (_ : List OutVal) (_ : List Eval) (k : Nat) (c : MTime) (image : List (Nat × SurveyRec)) (ret : List WEntry) (outs : List OutVal) (sig : Nat) => (s.up = true ∧ s.shadows = true ∧ count < 2 ^ 32 ∧ crc < 2 ^ 64 ∧ seq < 2 ^ 32 ∧ (Table.get s.red.copies {} seq).units = [.task k c image ret outs sig]) ∧ ((Table.get s.red.copies {} seq).bytes.length = count ∧ crc64 (Table.get s.red.copies {} seq).bytes = crc ∧ (s.red.nextUnit = 0 ∨ s.red.nextUnit = seq + 1)) ∧ (s.red.changes = [] ∧ s.red.swap ≠ 2 ∧ s.red.shadowing.contains k = true ∧ setSig set ≠ sig)) (memberWith .standby { copies := [(6, { units := [.task 0 5 [] [] [] 1], bytes := [] })], shadowing := [0], ready := true }) (6) (0) (crc64 []) ([]) ([]) ([]) (0) (5) ([]) ([]) ([]) (1)) ∧
    ((fun (s : State) (chan : Chan) (value : Nat) (_ release : MTime) => (s.up = true ∧ s.paralleled chan = true ∧ (match chan with | .dio n => n < 32 ∧ value < 2 | .ao n => n < 8 ∧ value < 2 ^ 32 | _ => False)) ∧ (s.now < release ∧ ∀ q ∈ s.red.staged, s.now < q.release)) ({ memberWith .standby {} with elems := [(ea 0x50001 0, 1), (ea 0x50002 0, 2147483648)] }) (.dio 31) (1) (5) (1000001)) ∧
    ((fun (s : State) (p : Nat) (value : Nat) (_ _ : MTime) => (s.up = true ∧ s.pairMember = true ∧ p < 4 ∧ value < 2)) (memberWith .standby {}) (3) (1) (0) (0)) ∧
    ((fun (s : State) (slot n value : Nat) (_ : MTime) => (s.up = true ∧ s.shadows = true ∧ slot < 4096 ∧ n < 256 ∧ value < 2 ^ 64)) (memberWith .standby {}) (4095) (41) (9) (5000000)) ∧
    ((fun (s : State) (slot value : Nat) (_ : MTime) => (s.up = true ∧ s.shadows = true ∧ 0x28000 ≤ slot ∧ slot ≤ 0x2FFFF ∧ value < 2 ^ 64)) (memberWith .standby {}) (0x2FFFF) (9) (0)) ∧
    ((fun (s : State) (_ : Mode) (_ : MTime) => (s.up = true ∧ s.pairMember = true ∧ s.red.holds = false)) (memberWith .standby {}) (.hold) (0)) :=
  ⟨by decide +kernel, by decide +kernel, by decide +kernel, by decide +kernel, by decide +kernel, by decide +kernel, by decide +kernel, by decide +kernel, by decide +kernel, by decide +kernel⟩

/-- The hypotheses of TransfersAndResynchronisationsProceed can be met, clause by clause. -/
theorem test_meets_TransfersAndResynchronisationsProceed :
    ((fun (s : State) (who : Who) => (Asked s who 2 ∧ s.mayTransfer = true)) (synced .run { holds := true }) (asker 2)) ∧
    ((fun (s : State) (who : Who) => (Asked s who 2 ∧ s.mayTransfer = false)) (memberWith .standby {}) (asker 2)) ∧
    ((fun (s : State) (x : Transfer) => (s.up = true ∧ s.red.holds = true ∧ s.red.transfer = some x ∧ x.f - 1000000 ≤ s.now) ∧ (∀ c, s.red.next_ = some c → c.f ≠ x.f)) (memberWith .run { holds := true, transfer := some { f := 2000000, swap := true }, swap := 3 }) ({ f := 2000000, swap := true })) ∧
    ((fun (s : State) (c : Nat) (f : MTime) (r : Nat) => (s.up = true ∧ s.red.transfer = none ∧ s.red.request = some (c, f, r) ∧ f ≠ 0 ∧ f - 1000000 < s.now)) (memberWith .standby { request := some (42, 1999999, 0), swap := 3 }) (42) (1999999) (0)) ∧
    ((fun (s : State) (_ : List Nat) => (s.up = true ∧ s.resyncDue = true ∧ s.red.finishing = [] ∧ s.red.resync = false)) ({ synced .run { holds := true } with leg := { directory := partnerRec 0 .standby } }) ([])) ∧
    ((fun (s : State) (written : List Nat) => (s.up = true ∧ s.resyncDue = true ∧ s.red.finishing = [] ∧ s.red.resync = true ∧ written.length ≤ 64)) ({ synced .run { holds := true, resync := true, pass := 1 } with leg := { directory := partnerRec 0 .standby } }) ([1610612736])) ∧
    ((fun (s : State) (written : List Nat) => (s.up = true ∧ s.resyncDue = true ∧ s.red.finishing = [] ∧ s.red.resync = true ∧ 64 < written.length)) ({ synced .run { holds := true, resync := true, pass := 1 } with leg := { directory := partnerRec 0 .standby } }) ((upto 65).map (fun i => 1610612736 + 4096 * i))) ∧
    ((fun (s : State) (r : Nat) => (s.up = true ∧ s.red.resync = true ∧ s.red.outrunSince = some r ∧ r + 4000000000 ≤ s.mer.raw)) ({ memberWith .run { resync := true, outrunSince := some 0 } with mer := { raw := 4000000000 } }) (0)) ∧
    ((fun (s : State) (r : Nat) => (s.up = true ∧ s.red.restartAt = some r ∧ r ≤ s.mer.raw)) (memberWith .run { restartAt := some 400000 }) (400000)) :=
  ⟨by decide +kernel, by decide +kernel, by decide +kernel, by decide +kernel, by decide +kernel, by decide +kernel, by decide +kernel, by decide +kernel, by decide +kernel⟩

/-- The hypotheses of SwapsFollowTable0808 can be met, clause by clause. -/
theorem test_meets_SwapsFollowTable0808 :
    ((fun (s : State) (who : Who) (prog : Program) => (Asked s who 2 ∧ Authorised s ∧ s.shadows = true ∧ s.red.dutyMode = Mode.run.code ∧ s.red.ready = true ∧ s.synced = true ∧ s.peerSynced = true ∧ s.red.swap = 0) ∧ (s.loadFault prog = none ∧ s.swapCopyFault prog = none)) (synced .standby { ready := true, dutyMode := 2 }) (asker 2) ({ ident := 1, tasks := [] })) ∧
    ((fun (s : State) (who : Who) (prog : Program) (a : Ans) => (Asked s who 2 ∧ Authorised s ∧ s.shadows = true ∧ s.red.dutyMode = Mode.run.code ∧ s.red.ready = true ∧ s.synced = true ∧ s.peerSynced = true ∧ s.red.swap = 0) ∧ (s.loadFault prog = some a)) ({ synced .standby { ready := true, dutyMode := 2 } with leg := { directory := partnerRec 1 .run } }) (asker 2) ({ ident := 1, tasks := [] }) (ansCheck 1 0)) ∧
    ((fun (s : State) (p : Program) => (s.up = true ∧ s.shadows = true ∧ s.red.swap = 1 ∧ s.red.newProgram = some p)) ({ synced .standby { swap := 1, newProgram := some { ident := 2, tasks := [] } } with tsk := { active := some { ident := 1, tasks := [] } } }) ({ ident := 2, tasks := [] })) ∧
    ((fun (s : State) (who : Who) => (Asked s who 2 ∧ Authorised s ∧ s.mayTransfer = true ∧ s.mode.mode = .run)) (synced .run { holds := true }) (asker 2)) ∧
    ((fun (s : State) (who : Who) => (Asked s who 2 ∧ Authorised s ∧ s.shadows = true ∧ s.red.swap ≠ 0 ∧ s.red.transfer = none)) (synced .standby { swap := 2, ready := true, oldProgram := some { ident := 1, tasks := [] } }) (asker 2)) ∧
    ((fun (s : State) (who : Who) => (Asked s who 2 ∧ (s.shadows = false ∨ s.red.swap = 0))) (synced .standby { swap := 0 }) (asker 2)) :=
  ⟨by decide +kernel, by decide +kernel, by decide +kernel, by decide +kernel, by decide +kernel, by decide +kernel⟩

/-- The hypotheses of SessionsAreOpenedProvenAndEnded can be met, clause by clause. -/
theorem test_meets_SessionsAreOpenedProvenAndEnded :
    ((fun (s : State) (src : Source_) (m : List Byte) (i : Nat) => (Message s 0x01 src m ∧ s.admits src none false m = true) ∧ ((∀ j, j < 32 → s.sessionOver (s.session j) = false) ∧ s.slotForSession = some i) ∧ (byteAt (item0 m) 0 ≤ 2 ∧ (byteAt (item0 m) 1 < 32 ∨ byteAt (item0 m) 1 = 0xFF))) (server (openSession 2)) (.udp 1 2) (reqMsg 1 0 1 [2, 0, 0, 0]) (0)) ∧
    ((fun (s : State) (src : Source_) (m : List Byte) => (Message s 0x01 src m ∧ s.admits src none false m = true) ∧ ((∀ j, j < 32 → s.sessionOver (s.session j) = false) ∧ s.slotForSession = none) ∧ (byteAt (item0 m) 0 ≤ 2 ∧ (byteAt (item0 m) 1 < 32 ∨ byteAt (item0 m) 1 = 0xFF))) ({ server (openSession 2) with leg := { udpUp := true, sessions := (upto 32).map (fun i => (i, openSession 1)) } }) (.udp 1 2) (reqMsg 1 0 1 [0, 255, 0, 0])) ∧
    ((fun (s : State) (src : Source_) (m : List Byte) (i : Nat) => (Message s 0x02 src m ∧ Names s src m i ∧ (s.session i).state = 1 ∧ s.admits src none false m = true) ∧ (s.mem.tamper = false ∧ (s.keySlot (s.session i).key).level ≠ 0 ∧ (s.session i).level ≤ (s.keySlot (s.session i).key).level) ∧ (edVerify (s.keySlot (s.session i).key).pub (s.proofMsg (s.session i)) (item0 m) = true)) ({ server {} with leg := { udpUp := true, keys := openKey, sessions := [(31, { openSession 2 with state := 1, openedAt := 400000 })] } }) (.udp 1 2) (reqMsg 2 7 1 (leBytes 64 1)) (31)) ∧
    ((fun (s : State) (src : Source_) (m : List Byte) (i : Nat) => (Message s 0x02 src m ∧ Names s src m i ∧ (s.session i).state = 1 ∧ s.admits src none false m = true) ∧ (s.mem.tamper = false ∧ (s.keySlot (s.session i).key).level ≠ 0) ∧ (edVerify (s.keySlot (s.session i).key).pub (s.proofMsg (s.session i)) (item0 m) = false)) ({ server {} with leg := { udpUp := true, keys := openKey, sessions := [(31, { openSession 2 with state := 1, openedAt := 400000 })] } }) (.udp 1 2) (reqMsg 2 7 1 (leBytes 64 2)) (31)) ∧
    ((fun (s : State) (src : Source_) (m : List Byte) (i : Nat) => (Message s 0x02 src m ∧ Names s src m i ∧ (s.session i).state = 2 ∧ s.admits src none false m = true)) (server (openSession 2)) (.udp 1 2) (reqMsg 2 7 1 (leBytes 64 1)) (31)) ∧
    ((fun (s : State) (src : Source_) (m : List Byte) (i : Nat) => (Served s 0x03 src m i)) (server (openSession 0)) (.udp 1 2) (reqMsg 3 7 0 []) (31)) ∧
    ((fun (s : State) (src : Source_) (m : List Byte) (i : Nat) => (Served s 0x04 src m i ∧ byteAt (item0 m) 0 < 32 ∧ (s.keySlot (byteAt (item0 m) 0)).level = 3 ∧ s.mem.tamper = false)) ({ server {} with leg := { udpUp := true, keys := [(31, { pub := 1, level := 3 })], sessions := [(31, openSession 0)] } }) (.udp 1 2) (reqMsg 4 7 1 [31, 0, 0, 0]) (31)) ∧
    ((fun (s : State) (src : Source_) (m : List Byte) (i : Nat) => (Served s 0x04 src m i ∧ (s.keySlot (byteAt (item0 m) 0)).level ≠ 3)) (server (openSession 0)) (.udp 1 2) (reqMsg 4 7 1 [31, 0, 0, 0]) (31)) ∧
    ((fun (s : State) (i : Fin 32) => (s.up = true ∧ (s.session i).state = 1 ∧ (s.session i).openedAt + 4000000000 ≤ s.mer.raw)) ({ server { openSession 1 with state := 1 } with mer := { raw := 4000000000 } }) (31)) ∧
    ((fun (s : State) (i : Fin 32) => (s.up = true ∧ (s.session i).state = 2 ∧ (s.session i).lastAt + 400000000 * s.el 0xA8001 0 60 ≤ s.mer.raw)) ({ server (openSession 1) with mer := { raw := 24000400000 } }) (31)) ∧
    ((fun (s : State) (i : Fin 32) => (s.up = true ∧ (s.session i).state ≠ 0)) (server (openSession 1)) (31)) ∧
    ((fun (s : State) (src : Source_) (m : List Byte) (o : Nat) => (s.up = true ∧ isClient src = true ∧ s.hears src = true ∧ msgReadable m = true ∧ msgFault m false = some o ∧ (s.rate src).2 < 10)) (server (openSession 1)) (.udp 1 2) (badMsg 18 9) (18)) ∧
    ((fun (s : State) (src : Source_) (m : List Byte) => (s.up = true ∧ isClient src = true ∧ s.hears src = true ∧ (msgReadable m = false ∨ ((msgFault m false).isSome = true ∧ 10 ≤ (s.rate src).2)))) (server (openSession 1)) (.can 3 3) ([1, 2, 3])) :=
  ⟨by decide +kernel, by decide +kernel, by decide +kernel, by decide +kernel, by decide +kernel, by decide +kernel, by decide +kernel, by decide +kernel, by decide +kernel, by decide +kernel, by decide +kernel, by decide +kernel, by decide +kernel⟩

/-- The hypotheses of RequestsAreServedAndAnsweredOnce can be met, clause by clause. -/
theorem test_meets_RequestsAreServedAndAnsweredOnce :
    ((fun (s : State) (src : Source_) (m : List Byte) (i : Nat) (l : List (List Byte)) => (Served s 0x10 src m i) ∧ (l = (askItems m 0).map (fun it => readBytes ((s.afterAdmission src i m).readItem (eaEntry (leAt it 0 4)) (eaElem (leAt it 0 4)))) ∧ l.flatten.length ≤ 1440)) (server (openSession 0)) (.udp 1 2) (reqMsg 0x10 7 1 (leBytes 4 0xFFFFF)) (31) ([[2, 0, 0, 0, 0, 0, 0, 0]])) ∧
    ((fun (s : State) (src : Source_) (m : List Byte) (i : Nat) (dec : Decoded) => (Served s 0x11 src m i ∧ (askItems m 0).length = 1) ∧ ((s.afterAdmission src i m).isCommandItem (wItem (item0 m)) = false ∧ (s.afterAdmission src i m).itemNeedsToken (wItem (item0 m)) = false) ∧ ((s.itemWrite src m i dec).1 = ansOk)) (server (openSession 2)) (.udp 1 2) (reqMsg 0x11 7 1 ([2, 0, 1, 0, 1, 0, 1, 0] ++ [1, 0, 0, 0])) (31) ({})) ∧
    ((fun (s : State) (src : Source_) (m : List Byte) (i : Nat) (_ : Decoded) (it : List Byte) => (Served s 0x11 src m i ∧ askItems m 0 = [it]) ∧ (s.element? (wItem it).e (wItem it).n = none)) (server (openSession 2)) (.udp 1 2) (reqMsg 0x11 7 1 ([255, 255, 15, 0, 6, 0, 1, 0] ++ [1, 0, 0, 0])) (31) ({}) ([255, 255, 15, 0, 6, 0, 1, 0, 1, 0, 0, 0])) ∧
    ((fun (s : State) (src : Source_) (m : List Byte) (i : Nat) (off len : Nat) => (Served s 0x12 src m i ∧ eaEntry (segEa (item0 m)) = 0xA8200 ∧ eaElem (segEa (item0 m)) = 0 ∧ off = segOff (item0 m) ∧ len = segLen (item0 m)) ∧ (off + len ≤ 16777216 ∧ len ≤ 1424)) (server (openSession 0)) (.udp 1 2) (reqMsg 0x12 7 1 (leBytes 4 0xA8200 ++ leBytes 4 16777214 ++ leBytes 2 2 ++ [0, 0])) (31) (16777214) (2)) ∧
    ((fun (s : State) (src : Source_) (m : List Byte) (i : Nat) (d : Desc) => (Served s 0x12 src m i ∧ (s.afterAdmission src i m).element? (eaEntry (segEa (item0 m))) (eaElem (segEa (item0 m))) = some d ∧ d.ty ≠ 13)) (server (openSession 0)) (.udp 1 2) (reqMsg 0x12 7 1 (leBytes 4 0x10002 ++ leBytes 4 0 ++ leBytes 2 1 ++ [0, 0])) (31) ((((server (openSession 0)).element? 0x10002 0).getD { ty := 0, size := 0, acc := 0, priv := 0, lo := 0, hi := 0, dflt := 0 }))) ∧
    ((fun (s : State) (src : Source_) (m : List Byte) (i : Nat) (off len : Nat) => (Served s 0x13 src m i ∧ eaEntry (segEa (item0 m)) = 0xA8200 ∧ eaElem (segEa (item0 m)) = 0 ∧ off = segOff (item0 m) ∧ len = segLen (item0 m)) ∧ (off + len ≤ 16777216 ∧ 1 ≤ len ∧ len ≤ 1424 ∧ (s.session i).level = 2 ∧ s.mode.lifeCycle ≠ .retired ∧ len ≤ (item0 m).length - 12)) (server (openSession 2)) (.udp 1 2) (reqMsg 0x13 7 1 (leBytes 4 0xA8200 ++ leBytes 4 16777214 ++ leBytes 2 2 ++ [0, 0, 8, 9, 0, 0])) (31) (16777214) (2)) ∧
    ((fun (s : State) (src : Source_) (m : List Byte) (i : Nat) (x : Nat) (l : List (List Byte)) => (Served s 0x14 src m i ∧ (s.afterAdmission src i m).nextEntry (leAt (item0 m) 0 4) = some x ∧ ((s.afterAdmission src i m).entryItems x).length * 28 ≤ 1440) ∧ (l = (s.afterAdmission src i m).browse 52 (leAt (item0 m) 0 4) 1440 ∧ l.flatten.length ≤ 1440)) (server (openSession 0)) (.udp 1 2) (reqMsg 0x14 7 1 (leBytes 4 0x50002)) (31) ((((server (openSession 0)).afterAdmission (.udp 1 2) 31 (reqMsg 0x14 7 1 (leBytes 4 0x50002))).nextEntry 0x50002).getD 0) (((server (openSession 0)).afterAdmission (.udp 1 2) 31 (reqMsg 0x14 7 1 (leBytes 4 0x50002))).browse 52 0x50002 1440)) ∧
    ((fun (s : State) (src : Source_) (m : List Byte) (i : Nat) => (Served s 0x14 src m i ∧ (s.afterAdmission src i m).nextEntry (leAt (item0 m) 0 4) = none)) (server (openSession 0)) (.udp 1 2) (reqMsg 0x14 7 1 (leBytes 4 0xFFFFF)) (31)) ∧
    ((fun (s : State) (src : Source_) (m : List Byte) (i : Nat) (b : List Byte) => (Message s 0x10 src m ∧ s.findSession (msgSession m) = some i ∧ s.sessionOver (s.session i) = false ∧ (s.session i).source = some src) ∧ (s.keptAnswer i (msgReqId m) = some b)) (server { openSession 0 with kept := [{ reqId := 0x55, bytes := [9], at_ := 399000 }] }) (.udp 1 2) (reqMsg 0x10 7 1 (leBytes 4 0xFFFFF)) (31) ([9])) ∧
    ((fun (s : State) (src : Source_) (m : List Byte) (_ : Decoded) (i : Nat) => (Message s 0x11 src m ∧ Names s src m i ∧ (s.session i).state = 2 ∧ s.admits src (some i) ((s.session i).level == 0) m = false ∧ (s.rate src).1 < 100)) (server { openSession 2 with bucket := 0, refillAt := 400000 }) (.udp 1 2) (reqMsg 0x11 7 1 ([2, 0, 1, 0, 1, 0, 1, 0] ++ [1, 0, 0, 0])) ({}) (31)) ∧
    ((fun (s : State) (who : Who) => (Asked s who 2)) (inMode .stop) (asker 2)) ∧
    ((fun (s : State) (c k : Fin 4) (data : List Byte) (_ : Decoded) => (s.up = true ∧ s.tri.cc1.inReset = false ∧ s.leg.canUp = true ∧ s.pairOn c k = true ∧ s.partial_ c k = none ∧ data.length = 63)) ({ server (openSession 0) with elems := [(ea 0x90303 3, 1)] }) (3) (3) (List.replicate 63 0) ({})) ∧
    ((fun (s : State) (c k : Fin 4) (r : Reassembly) (b0 : Byte) (data : List Byte) (_ : Decoded) => (s.up = true ∧ s.tri.cc1.inReset = false ∧ s.leg.canUp = true ∧ s.pairOn c k = true ∧ s.partial_ c k = some r ∧ s.mer.raw ≤ r.at_ + 20000000) ∧ (data.length = 63 ∧ b0.toNat / 64 = 2 ∧ b0.toNat % 64 = (r.counter + 1) % 64 ∧ r.counter + 1 < 24)) ({ server (openSession 0) with elems := [(ea 0x90303 3, 1)], leg := { canUp := true, reasm := [((3, 3), { bytes := [], counter := 22, at_ := 0 })] } }) (3) (3) ({ bytes := [], counter := 22, at_ := 0 }) (0x97) (List.replicate 63 0) ({})) ∧
    ((fun (s : State) (c k : Fin 4) (r : Reassembly) => (s.up = true ∧ s.partial_ c k = some r ∧ r.at_ + 20000000 < s.mer.raw)) ({ server (openSession 0) with mer := { raw := 20000001 }, leg := { reasm := [((3, 3), { bytes := [], counter := 1, at_ := 0 })] } }) (3) (3) ({ bytes := [], counter := 1, at_ := 0 })) :=
  ⟨by decide +kernel, by decide +kernel, by decide +kernel, by decide +kernel, by decide +kernel, by decide +kernel, by decide +kernel, by decide +kernel, by decide +kernel, by decide +kernel, by decide +kernel, by decide +kernel, by decide +kernel, by decide +kernel⟩

/-- The hypotheses of SurveyPointsAreReadWrittenAndSwept can be met, clause by clause. -/
theorem test_meets_SurveyPointsAreReadWrittenAndSwept :
    ((fun (s : State) (src : Source_) (m : List Byte) (i : Nat) => (Served s 0x20 src m i ∧ msgAtomic m = false ∧ OwnPoints s m ∧ (askItems m 0).length * (4 + surveyBody (msgMeta m)) ≤ 1440 ∧ (askItems m 0).length ≤ 71) ∧ ((s.ownItems src i m).flatten.length ≤ 1440)) (surveyor 0) (.udp 1 2) (reqMsg 0x20 7 2 (leBytes 4 (8 * 524288 + 1) ++ leBytes 4 (8 * 524288))) (31)) ∧
    ((fun (s : State) (src : Source_) (m : List Byte) (i : Nat) (q : MTime) => (Served s 0x20 src m i ∧ msgAtomic m = true ∧ OwnPoints s m ∧ askItems m 0 ≠ [] ∧ 8 + (askItems m 0).length * (4 + surveyBody (msgMeta m)) ≤ 1440 ∧ (askItems m 0).length ≤ 71) ∧ (q = toSigned 64 (leAt (msgPayload m) 0 8) ∧ q ≠ 0 ∧ s.now + 1000000 ≤ q ∧ q ≤ s.now + 10000000000 ∧ s.leg.atomics.length < 4)) (surveyor 0) (.udp 1 2) (atomicMsg 2000000) (31) (2000000)) ∧
    ((fun (s : State) (src : Source_) (m : List Byte) (i : Nat) (q : MTime) => (Served s 0x20 src m i ∧ msgAtomic m = true ∧ 8 + (askItems m 0).length * (4 + surveyBody (msgMeta m)) ≤ 1440 ∧ (askItems m 0).length ≤ 71) ∧ (q = toSigned 64 (leAt (msgPayload m) 0 8) ∧ q ≠ 0 ∧ q < s.now + 1000000)) (surveyor 0) (.udp 1 2) (atomicMsg 1999999) (31) (1999999)) ∧
    ((fun (s : State) (id : Nat) (x : Atomic) (f : Forward) (pos : List Nat) (l : List (List Byte)) => (s.up = true ∧ s.leg.atomics.find? (fun x => x.id == id) = some x ∧ x.q ≤ s.now ∧ x.part = some (id, pos) ∧ s.forward? id = some f) ∧ (f.parts = [(s.modIndex % 64, pos)] ∧ f.cluster = false ∧ isClient f.source = true) ∧ (l = (pos.zip (x.points.map (s.readPoint x.meta_))).foldl (fun t y => t.set y.1 y.2) f.items ∧ (f.lead ++ l.flatten).length ≤ 1440)) ({ surveyor 0 with leg := { atomics := [{ id := 3, source := .udp 1 2, head := [], q := 5, meta_ := false, points := [0], at_ := 0, part := some (3, [0]) }], forwards := [{ id := 3, source := .udp 1 2, head := [], parts := [(8, [0])], items := [[]], at_ := 0, q := some 5 }] } }) (3) ({ id := 3, source := .udp 1 2, head := [], q := 5, meta_ := false, points := [0], at_ := 0, part := some (3, [0]) }) ({ id := 3, source := .udp 1 2, head := [], parts := [(8, [0])], items := [[]], at_ := 0, q := some 5 }) ([0]) ([(surveyor 0).readPoint false 0])) ∧
    ((fun (s : State) (src : Source_) (m : List Byte) (i : Nat) (it : List Byte) (p q v : Nat) => (Served s 0x21 src m i ∧ askItems m 0 = [it] ∧ OwnPoints s m ∧ p = ptLocal (leAt it 0 4) ∧ q = byteAt it 4 ∧ v = leAt it 8 8) ∧ (s.surveyCheck (s.askOf src m i {}) p q v = ansOk ∧ s.forceOf p = none)) (surveyor 1) (.udp 1 2) (reqMsg 0x21 7 1 (leBytes 4 (8 * 524288 + 1) ++ [5, 0, 0, 0] ++ leBytes 8 65535)) (31) (leBytes 4 (8 * 524288 + 1) ++ [5, 0, 0, 0] ++ leBytes 8 65535) (1) (5) (65535)) ∧
    ((fun (s : State) (src : Source_) (m : List Byte) (i : Nat) => (Served s 0x21 src m i ∧ OwnPoints s m ∧ (askItems m 0).length ≤ 90) ∧ ((askItems m 0).any (fun it => (s.surveyCheck (s.askOf src m i {}) (ptLocal (leAt it 0 4)) (byteAt it 4) (leAt it 8 8)).status != .ok) = true)) (surveyor 0) (.udp 1 2) (reqMsg 0x21 7 1 (leBytes 4 (8 * 524288 + 1) ++ [5, 0, 0, 0] ++ leBytes 8 65535)) (31)) ∧
    ((fun (s : State) (n : Nat) => (s.up = true ∧ n ≤ 524288)) (surveyor 0) (524288)) :=
  ⟨by decide +kernel, by decide +kernel, by decide +kernel, by decide +kernel, by decide +kernel, by decide +kernel, by decide +kernel⟩

/-- The hypotheses of TheCascadeReachesOtherModules can be met, clause by clause. -/
theorem test_meets_TheCascadeReachesOtherModules :
    ((fun (s : State) (idx : Fin 64) (m : List Byte) (_ : Decoded) => (s.up = true ∧ s.tri.cc0.inReset = false ∧ s.leg.udpUp = true ∧ msgReadable m = true ∧ s.partTagOk m = false ∧ byteAt m 17 = idx)) (server {}) (9) (untagged) ({})) ∧
    ((fun (s : State) (idx : Fin 64) (m : List Byte) (_ : Decoded) (l : List (List Byte)) => (s.up = true ∧ s.tri.cc0.inReset = false ∧ s.leg.udpUp = true ∧ msgReadable m = true ∧ s.partTagOk m = true ∧ byteAt m 17 = idx ∧ msgFault m true = none ∧ msgOp m = 0x10 ∧ msgTarget m ≠ 0xFE) ∧ (s.admits (peerOf idx) none false m = true) ∧ (l = (askItems m 8).map (fun it => readBytes ((s.afterPeer idx m).readItem (eaEntry (leAt it 0 4)) (eaElem (leAt it 0 4)))) ∧ l.flatten.length ≤ 1440)) (server {}) (9) (part 0x10 1 (leBytes 4 0xFFFFF)) ({}) ([[2, 0, 0, 0, 0, 0, 0, 0]])) ∧
    ((fun (s : State) (idx : Fin 64) (m : List Byte) (f : Forward) => (s.up = true ∧ s.tri.cc0.inReset = false ∧ msgReadable m = true ∧ bitOf (msgFlags m) 0 = true) ∧ (s.forward? (msgReqId m) = some f ∧ f.whole = true ∧ f.parts = [(idx.val, [])] ∧ msgOp f.head = msgOp m)) ({ server {} with leg := { forwards := [{ id := 3, source := .udp 1 2, head := [1, 0x10], parts := [(9, [])], items := [], at_ := 0, whole := true }] } }) (9) (sealMsg ([1, 0x10, 1, 9] ++ leBytes 4 1 ++ leBytes 4 3 ++ leBytes 2 0 ++ leBytes 2 0 ++ [1, 8, 5, 0]) []) ({ id := 3, source := .udp 1 2, head := [1, 0x10], parts := [(9, [])], items := [], at_ := 0, whole := true })) ∧
    ((fun (s : State) (id : Nat) (f : Forward) => (s.up = true ∧ s.forward? id = some f ∧ f.whole = true ∧ f.q = none ∧ f.at_ + 8000000 ≤ s.mer.raw)) ({ server {} with mer := { raw := 8000000 }, leg := { forwards := [{ id := 3, source := .udp 1 2, head := [1, 0x10], parts := [(9, [])], items := [], at_ := 0, whole := true }] } }) (3) ({ id := 3, source := .udp 1 2, head := [1, 0x10], parts := [(9, [])], items := [], at_ := 0, whole := true })) ∧
    ((fun (s : State) (src : Source_) (m : List Byte) (i x : Nat) => (Served s 0x22 src m i ∧ s.isDatum = true ∧ (askItems m 0).length = 1 ∧ leAt (item0 m) 0 8 ≠ 0 ∧ s.hashHolders (leAt (item0 m) 0 8) = [x])) (datum) (.udp 1 2) (reqMsg 0x22 7 1 (leBytes 8 77)) (31) (9 * 524288 + 5)) ∧
    ((fun (s : State) (src : Source_) (m : List Byte) (i : Nat) => (Served s 0x22 src m i ∧ s.isDatum = false ∧ s.leg.datum = 0xFF)) (server (openSession 0)) (.udp 1 2) (reqMsg 0x22 7 1 (leBytes 8 77)) (31)) ∧
    ((fun (s : State) (src : Source_) (m : List Byte) (i : Nat) => (Served s 0x23 src m i ∧ s.isDatum = true ∧ byteAt (item0 m) 0 < 64)) (datum) (.udp 1 2) (reqMsg 0x23 7 1 [63, 0, 0, 0]) (31)) ∧
    ((fun (s : State) => (s.up = true ∧ s.tri.cc0.inReset = false ∧ s.isDatum = false ∧ s.datumName ≠ 0xFF ∧ s.leg.lastBeat + 40000000 ≤ s.mer.raw)) ({ server {} with mer := { raw := 40000000 }, elems := [(ea 0xA8440 0, 9)] })) ∧
    ((fun (s : State) (_ : Fin 64) (_ : Beat) => (s.up = true ∧ s.tri.cc0.inReset = false ∧ s.isDatum = true)) (datum) (63) ({ role := 0, station := 0, partner := 255, mode := 2, mq := 3, ready := 0, addr := 5, container := 1 })) ∧
    ((fun (s : State) (idx : Fin 64) => (s.up = true ∧ s.isDatum = true ∧ idx.val ≠ s.modIndex) ∧ ((Table.get s.leg.directory {} idx).state = 1 ∧ (Table.get s.leg.directory {} idx).seenAt + 200000000 ≤ s.mer.raw)) ({ datum with mer := { raw := 200000000 } }) (9)) ∧
    ((fun (s : State) (_ : Fin 64) => (s.up = true ∧ s.tri.cc0.inReset = false)) ({ server {} with leg := { datumLost := true } }) (9)) ∧
    ((fun (s : State) => (s.up = true ∧ s.isDatum = false ∧ s.datumName ≠ 0xFF ∧ s.leg.datumLost = false ∧ s.leg.datumAck + 200000000 ≤ s.mer.raw)) ({ server {} with mer := { raw := 200000000 }, elems := [(ea 0xA8440 0, 9)] })) ∧
    ((fun (s : State) (v : Fin 256) (x : Service) => (s.up = true ∧ s.tri.dead = false ∧ s.el (0xE0000 + 0x100 * v) 0 0 ≠ 0 ∧ s.elB (0xE0000 + 0x100 * v) 1 false = true) ∧ (x = Table.get s.leg.services {} v ∧ x.state < 2 ∧ x.lastAt + s.el (0xE0000 + 0x100 * v) 2 1000 * 400 ≤ s.mer.raw)) ({ server {} with mer := { raw := 400000 }, elems := [(ea 0xEFF00 0, 1), (ea 0xEFF00 1, 1)] }) (255) ({})) ∧
    ((fun (s : State) (v : Fin 256) => (s.up = true ∧ s.tri.dead = false ∧ s.el (0xE0000 + 0x100 * v) 0 0 ≠ 0 ∧ s.elB (0xE0000 + 0x100 * v) 1 false = true) ∧ ((Table.get s.leg.services {} v).state < 2 ∧ s.serviceBusy v = true)) ({ server {} with tri := { unit_ := .service 255 }, elems := [(ea 0xEFF00 0, 1), (ea 0xEFF00 1, 1)] }) (255)) :=
  ⟨by decide +kernel, by decide +kernel, by decide +kernel, by decide +kernel, by decide +kernel, by decide +kernel, by decide +kernel, by decide +kernel, by decide +kernel, by decide +kernel, by decide +kernel, by decide +kernel, by decide +kernel, by decide +kernel⟩

/-- The hypotheses of InputsAreFilteredCountedAndWatched can be met, clause by clause. -/
theorem test_meets_InputsAreFilteredCountedAndWatched :
    ((fun (s : State) (g : Fin 4) (mv : Nat) => (s.up = true ∧ mv < 65536 ∧ (s.dioGrp g).low = false ∧ (s.dioGrp g).missing = false ∧ 18000 ≤ mv)) (digital 0 1 {}) (3) (18000)) ∧
    ((fun (s : State) (g : Fin 4) (mv a : Nat) => (s.up = true ∧ 9000 ≤ mv ∧ (s.dioGrp g).low = false ∧ (s.dioGrp g).missing = false ∧ mv < 18000) ∧ ((s.dioGrp g).lowAt = some a ∧ a + 400000 ≤ s.mer.raw)) ({ digital 0 1 {} with dio := { groups := [(3, { lowAt := some 0 })] } }) (3) (17999) (0)) ∧
    ((fun (s : State) (sec : Fin 6) => (s.up = true ∧ sec.val < 4)) (digital 31 2 {}) (3)) ∧
    ((fun (s : State) (sec : Fin 6) => (s.up = true ∧ sec.val = 4)) (digital 31 2 {}) (4)) ∧
    ((fun (s : State) (sec : Fin 6) => (s.up = true ∧ sec.val = 5)) (digital 31 2 {}) (5)) ∧
    ((fun (_ : State) (sec : Fin 6) => (sec.val < 4)) (digital 31 4098 {}) (3)) ∧
    ((fun (_ : State) (sec : Fin 6) => (sec.val = 4)) (digital 31 4098 {}) (4)) ∧
    ((fun (_ : State) (sec : Fin 6) => (sec.val = 5)) (digital 31 4098 {}) (5)) ∧
    ((fun (s : State) (ch : Fin 32) (level : Bool) => (s.up = true ∧ s.dioMode ch = 1 ∧ (level != bitOf (s.dioCfg ch) 7) ≠ (s.dioCh ch).raw) ∧ (field (s.dioCfg ch) 4 3 = 0 ∧ (level != bitOf (s.dioCfg ch) 7) ≠ (s.dioCh ch).state)) (digital 31 1 {}) (31) (true)) ∧
    ((fun (s : State) (ch : Fin 32) (level : Bool) => (s.up = true ∧ s.dioMode ch = 1 ∧ (level != bitOf (s.dioCfg ch) 7) ≠ (s.dioCh ch).raw) ∧ ((level != bitOf (s.dioCfg ch) 7) = (s.dioCh ch).state ∧ (s.dioCh ch).rejectRun = 3 ∧ (s.dioCh ch).conds.contains 9 = false)) (digital 31 1 { raw := true, rejectRun := 3 }) (31) (false)) ∧
    ((fun (s : State) (ch : Fin 32) (level : Bool) => (s.up = true ∧ s.dioMode ch = 1 ∧ (level != bitOf (s.dioCfg ch) 7) ≠ (s.dioCh ch).raw)) (digital 31 25 { counter := 0xFFFFFFFF }) (31) (true)) ∧
    ((fun (s : State) (ch : Fin 32) (level : Bool) => (s.up = true ∧ (s.dioMode ch ≠ 1 ∨ (level != bitOf (s.dioCfg ch) 7) = (s.dioCh ch).raw))) (digital 31 2 {}) (31) (true)) ∧
    ((fun (s : State) (ch : Fin 32) (a : Nat) => (s.up = true ∧ s.dioMode ch = 1 ∧ (s.dioCh ch).raw ≠ (s.dioCh ch).state ∧ (s.dioCh ch).edgeAt = some a ∧ a + 400 * s.dioDeb ch ≤ s.mer.raw) ∧ (bitOf (s.dioCfg ch) 5 = false ∧ (s.dioCh ch).conds.contains 10 = false)) (digital 31 1 { raw := true, edgeAt := some 0 }) (31) (0)) ∧
    ((fun (s : State) (ch : Fin 32) (a : Nat) => (s.up = true ∧ s.dioMode ch = 1 ∧ (s.dioCh ch).raw ≠ (s.dioCh ch).state ∧ (s.dioCh ch).edgeAt = some a ∧ a + 400 * s.dioDeb ch ≤ s.mer.raw) ∧ (bitOf (s.dioCfg ch) 5 = true ∧ (s.dioCh ch).conds.contains 9 = false ∧ (s.dioCh ch).conds.contains 10 = false ∧ (s.queue (s.el 0x60010 0 0)).fill < (s.queue (s.el 0x60010 0 0)).credit ∧ (s.queue (s.el 0x60010 0 0)).fill < (s.queue (s.el 0x60010 0 0)).depth)) ({ digital 31 33 { raw := true, edgeAt := some 0, cosSeq := 0xFFFFFFFF } with leg := { queues := [(0, { depth := 16, credit := 16 })] } }) (31) (0)) ∧
    ((fun (s : State) (ch : Fin 32) => (s.up = true ∧ (s.dioCh ch).conds.contains 9 = true ∧ (∀ a, (s.dioCh ch).edgeAt = some a → a + 400 * (16 * s.dioDeb ch) ≤ s.mer.raw))) (digital 31 33 { conds := [9] }) (31)) ∧
    ((fun (s : State) (ch : Fin 32) => (s.up = true ∧ (s.dioCh ch).conds.contains 14 = true ∧ (∀ a, (s.dioCh ch).closeAt = some a → a + 4000000 ≤ s.mer.raw))) (digital 31 33 { conds := [14] }) (31)) ∧
    ((fun (s : State) (who : Who) (_ : Fin 32) => (Asked s who 2)) (digital 31 9 {}) (asker 2) (31)) ∧
    ((fun (s : State) (ch : Fin 32) (o : Bool) => (s.up = true ∧ s.dioMode ch = 1 ∧ bitOf (s.dioCfg ch) 8 = true ∧ (s.dioCh ch).conds.contains 7 = !o)) (digital 31 257 {}) (31) (true)) ∧
    ((fun (s : State) (ch : Fin 32) => (s.up = true ∧ s.dioMode ch = 1 ∧ s.dioMaxact ch ≠ 0 ∧ (s.dioCh ch).state = true ∧ (s.dioCh ch).conds.contains 10 = false ∧ (s.dioCh ch).onSince + 400000 * s.dioMaxact ch ≤ s.mer.raw)) ({ digital 31 1 { state := true } with dio := { cfg := [(31, 1)], maxact := [(31, 1000)], chans := [(31, { state := true })] } }) (31)) :=
  ⟨by decide +kernel, by decide +kernel, by decide +kernel, by decide +kernel, by decide +kernel, by decide +kernel, by decide +kernel, by decide +kernel, by decide +kernel, by decide +kernel, by decide +kernel, by decide +kernel, by decide +kernel, by decide +kernel, by decide +kernel, by decide +kernel, by decide +kernel, by decide +kernel, by decide +kernel⟩

/-- The hypotheses of OutputsAreCheckedLatchedAndRetried can be met, clause by clause. -/
theorem test_meets_OutputsAreCheckedLatchedAndRetried :
    ((fun (s : State) (ch : Fin 32) => (s.up = true ∧ s.dioDrive ch = true)) (digitals [(30, 3), (31, 3)] [(30, { cmd := true, rb := true }), (31, { rb := true })]) (31)) ∧
    ((fun (s : State) (ch : Fin 32) => (s.up = true ∧ s.dioDrive ch = true)) (digitals [(31, 2)] [(31, { cmd := true, rb := true })]) (31)) ∧
    ((fun (s : State) (ch : Fin 32) (a : Nat) => (s.up = true ∧ (s.dioCh ch).tripAt = some a ∧ a + 40000000 ≤ s.mer.raw ∧ (s.dioCh ch).latched = true ∧ s.retryFree (grpFn ch) = true)) (digitals [(31, 2)] [(31, { cmd := true, latched := true, conds := [3], tripAt := some 0 })]) (31) (0)) ∧
    ((fun (s : State) (ch : Fin 32) (a : Nat) => (s.up = true ∧ (s.dioCh ch).tripAt = some a ∧ a + 40000000 ≤ s.mer.raw ∧ (s.dioCh ch).latched = true ∧ s.retryFree (grpFn ch) = true)) (digitals [(31, 2)] [(31, { cmd := true, latched := true, conds := [4], tripAt := some 0 })]) (31) (0)) ∧
    ((fun (s : State) (ch : Fin 32) (_ : Bool) (a : Nat) => (s.up = true ∧ (s.dioCh ch).tripAt = some a ∧ a + 40000000 ≤ s.mer.raw ∧ (s.dioCh ch).latched = true ∧ s.retryFree (grpFn ch) = false)) ({ digitals [(31, 2)] [(31, { cmd := true, latched := true, conds := [4], tripAt := some 0 })] with mode := { phase := .up, mode := .run, retries := [(1027, [399999999, 399999998, 399999997])] } }) (31) (true) (0)) ∧
    ((fun (s : State) (ch : Fin 32) => (s.up = true ∧ s.dioDrive ch = true ∧ (s.dioCh ch).conds.contains 5 = false ∧ (s.dioCh ch).conds.contains 3 = false ∧ s.dioSuspended ch = false ∧ s.dioChecked ch = true)) (digitals [(31, 2)] [(31, { cmd := true, rb := true })]) (31)) ∧
    ((fun (s : State) (ch : Fin 32) => (s.up = true ∧ (s.dioCh ch).conds.contains 5 = true)) (digitals [(31, 2)] [(31, { cmd := true, conds := [5] })]) (31)) ∧
    ((fun (s : State) (ch : Fin 32) => (s.up = true ∧ s.dioDrive ch = true ∧ bitOf (s.dioCfg ch) 9 = true ∧ (s.dioCh ch).conds.contains 6 = false ∧ s.dioSuspended ch = false ∧ s.dioChecked ch = true)) (digitals [(31, 514)] [(31, { cmd := true, rb := true })]) (31)) ∧
    ((fun (s : State) (ch : Fin 32) => (s.up = true ∧ s.dioMode ch = 3 ∧ s.dioDrive (s.dioBase ch) = true ∧ (s.dioCh (s.dioBase ch)).conds.contains 8 = false ∧ s.dioSuspended (s.dioBase ch) = false ∧ s.dioChecked (s.dioBase ch) = true)) (digitals [(30, 3), (31, 3)] [(30, { cmd := true, rb := true }), (31, { rb := true })]) (31)) ∧
    ((fun (s : State) (n : Fin 32) (onset : MTime) => (s.up = true ∧ s.dioIsOut n = true ∧ s.dioDrive n = false ∧ s.dioChecked n = true ∧ (s.dioCh n).conds.contains 1 = false ∧ (s.dioCh n).conds.contains 2 = false) ∧ (s.wiredCandidates n onset = [])) (digitals [(31, 2)] []) (31) (0)) ∧
    ((fun (s : State) (n : Fin 32) (onset : MTime) => (s.up = true ∧ s.dioIsOut n = true ∧ s.dioDrive n = false ∧ s.dioChecked n = true ∧ (s.dioCh n).conds.contains 1 = false ∧ (s.dioCh n).conds.contains 2 = false) ∧ (s.wiredCandidates n onset ≠ [])) (digitals [(30, 2), (31, 2)] [(30, { cmd := true, rb := true, changedAt := 999, changedRaw := some 400 })]) (31) (2000)) ∧
    ((fun (s : State) (n : Fin 32) (_ : MTime) => (s.up = true ∧ n.val < 4 ∧ (s.safPair n).highClosed = false ∧ (s.safPair n).lowClosed = false ∧ (s.safPair n).extDrive = false ∧ s.pairMember = false ∧ s.safActive = true) ∧ (s.mode.mode = .run ∨ s.mode.mode = .hold)) ({ digitals [] [] with saf := { set := some { chMode := [] } } }) (3) (0)) ∧
    ((fun (s : State) (ch : Fin 32) (a : Nat) => (s.up = true ∧ (s.dioCh ch).conds.contains 2 = true ∧ (s.dioCh ch).conds.contains 1 = false ∧ (s.dioCh ch).changedRaw = some a ∧ a + 80000 ≤ s.mer.raw)) (digitals [(31, 2)] [(31, { conds := [2], latched := true, changedRaw := some 0 })]) (31) (0)) ∧
    ((fun (s : State) (ch : Fin 32) (a : Nat) => (s.up = true ∧ (s.dioCh ch).conds.contains 2 = true ∧ (s.dioCh ch).changedRaw = some a ∧ a + 80000 ≤ s.mer.raw)) (digitals [(31, 2)] [(31, { conds := [2], latched := true, rb := true, changedRaw := some 0 })]) (31) (0)) ∧
    ((fun (s : State) (n : Fin 32) => (s.up = true ∧ (s.dioCh n).conds.contains 1 = true ∧ s.dioDrive n = false)) (digitals [(31, 2)] [(31, { conds := [1], rb := true })]) (31)) ∧
    ((fun (s : State) (n : Fin 32) => (s.up = true ∧ n.val < 4 ∧ (s.safPair n).extDrive = true)) ({ digitals [] [] with saf := { pairs := [(3, { extDrive := true })] } }) (3)) ∧
    ((fun (s : State) (who : Who) (_ : Fin 32) => (Asked s who 2)) (digitals [(31, 2)] [(31, { latched := true })]) (asker 2) (31)) ∧
    ((fun (s : State) (_ : Agent) (mask : Nat) => (s.up = true ∧ mask < 2 ^ 32)) (digitals [(31, 2)] [(31, { latched := true })]) (.triad) (2147483648)) ∧
    ((fun (s : State) (r : PatternRun) => (s.up = true ∧ s.dio.runs = [r] ∧ r.next + 1 = s.patternCount r.table ∧ r.at_ + (s.patternStep r.table r.next).1 * 1000 ≤ s.now)) ({ digitals [(31, 4)] [] with elems := [(ea 0x60300 0, 1), (ea 0x60300 1, 9223372036854775808)], dio := { cfg := [(31, 4)], runs := [{ table := 0, mask := 2147483648, at_ := 0, slot := 384, next := 0 }] } }) ({ table := 0, mask := 2147483648, at_ := 0, slot := 384, next := 0 })) ∧
    ((fun (s : State) => (s.up = true ∧ s.firstDue s.dio.runs = none)) (digitals [] [])) :=
  ⟨by decide +kernel, by decide +kernel, by decide +kernel, by decide +kernel, by decide +kernel, by decide +kernel, by decide +kernel, by decide +kernel, by decide +kernel, by decide +kernel, by decide +kernel, by decide +kernel, by decide +kernel, by decide +kernel, by decide +kernel, by decide +kernel, by decide +kernel, by decide +kernel, by decide +kernel, by decide +kernel⟩

/-- The hypotheses of AnalogueChannelsMeasureDriveAndCheck can be met, clause by clause. -/
theorem test_meets_AnalogueChannelsMeasureDriveAndCheck :
    ((fun (s : State) (ch : Fin 8) (code d : Nat) (x : Nat × PointMeta) => (s.up = true ∧ bitOf (s.aiCfg ch) 0 = true ∧ code < 262144 ∧ (s.aiCh ch).limiterOpen = false ∧ 20000 ≤ s.now % 1000000) ∧ (OnePoint s 1 (256 + ch.val) x ∧ s.aio.link = true ∧ ((s.aiCh ch).detail = d ∧ inBand 2 d (inputMa s ch code) = true ∨ inBand (-2) d (inputMa s ch code) = true))) ({ analogueIn 7 { detail := 1 } with mer := { raw := 400008000, running := true } }) (7) (37538) (3) ((5, { kind := 1, writer := 263 }))) ∧
    ((fun (s : State) (ch : Fin 8) (_ : Nat) (x : Nat × PointMeta) => (s.up = true ∧ bitOf (s.aiCfg ch) 0 = true ∧ (s.aiCh ch).limiterOpen = true ∧ 20000 ≤ s.now % 1000000) ∧ (OnePoint s 1 (256 + ch.val) x ∧ s.aio.link = true ∧ (s.aiCh ch).detail = 6)) ({ analogueIn 7 { detail := 6, limiterOpen := true } with mer := { raw := 400008000, running := true } }) (7) (1) ((5, { kind := 1, writer := 263 }))) ∧
    ((fun (s : State) (ch : Fin 8) (_ : Nat) => (s.up = true ∧ (bitOf (s.aiCfg ch) 0 = false ∨ s.now % 1000000 < 20000))) (analogueIn 7 {}) (7) (5)) ∧
    ((fun (s : State) (ch : Fin 8) (x : Nat × PointMeta) => (s.up = true ∧ bitOf (s.aiCfg ch) 0 = true ∧ (s.aiCh ch).limiterOpen = false ∧ OnePoint s 1 (256 + ch.val) x ∧ s.aio.link = true)) (analogueIn 7 {}) (7) ((5, { kind := 1, writer := 263 }))) ∧
    ((fun (s : State) (ch : Fin 8) (code : Nat) => (s.up = true ∧ code < 262144 ∧ (s.aiCh ch).limiterOpen = true ∧ (s.aiCh ch).openAt + 400000000 ≤ s.mer.raw ∧ F64.lt (inputMa s ch code) (F64.ofInt 25) = true)) (analogueIn 7 { limiterOpen := true, detail := 6 }) (7) (100000)) ∧
    ((fun (s : State) (ch : Fin 8) (code : Nat) => (s.up = true ∧ code < 262144 ∧ (s.aiCh ch).limiterOpen = true ∧ (s.aiCh ch).openAt + 400000000 ≤ s.mer.raw ∧ F64.lt (inputMa s ch code) (F64.ofInt 25) = false)) ({ analogueIn 7 {} with aio := { aiCfg := [(7, 1)], ai := [(7, { limiterOpen := true, detail := 6 })], z := [(7, 13830554455654793216)] } }) (7) (262143)) ∧
    ((fun (s : State) (ch : Fin 8) (mv : Nat) => (s.up = true ∧ bitOf (s.aoCfg ch) 0 = true ∧ s.aoSuspended ch = false ∧ mv < 65536 ∧ (s.aoCh ch).conds.contains 1 = false)) (analogueOut 7 { iCmd := F64.ofInt 20, rb := F64.ofInt 19 }) (7) (299)) ∧
    ((fun (s : State) (ch : Fin 8) (_ a : Nat) => (s.up = true ∧ bitOf (s.aoCfg ch) 0 = true ∧ s.aoSuspended ch = false ∧ (s.aoCh ch).conds.contains 1 = true) ∧ (F64.le (F64.abs (F64.sub (s.aoCh ch).rb (s.aoCh ch).iCmd)) (f64 5 100) = true ∧ Table.find (s.aoCh ch).clearSince 1 = some a)) (analogueOut 7 { iCmd := F64.ofInt 20, rb := F64.ofInt 20, conds := [1], clearSince := [(1, 396000000)] }) (7) (299) (396000000)) ∧
    ((fun (s : State) (ch : Fin 8) (_ : Nat) => (s.up = true ∧ (bitOf (s.aoCfg ch) 0 = false ∨ s.aoSuspended ch = true))) (analogueOut 6 {}) (7) (299)) ∧
    ((fun (s : State) (ch : Fin 8) (code : Nat) (x : Nat × PointMeta) => (s.up = true ∧ bitOf (s.aoCfg ch) 0 = true ∧ code < 65536 ∧ s.aoIdleParallel ch = true ∧ s.aio.link = true ∧ OnePoint s 1 (512 + ch.val) x)) ({ analogueOut 7 {} with mode := { phase := .up, mode := .standby }, elems := [(ea 0x50001 0, 1), (ea 0x50002 1, 128)] }) (7) (27) ((5, { kind := 1, writer := 519 }))) ∧
    ((fun (s : State) (ch : Fin 8) (code : Nat) (x : Nat × PointMeta) => (s.up = true ∧ bitOf (s.aoCfg ch) 0 = true ∧ code < 65536 ∧ s.aoSuspended ch = false ∧ s.aio.link = true ∧ OnePoint s 1 (512 + ch.val) x ∧ (s.aoCh ch).conds = []) ∧ (F64.lt (F64.add (s.aoCh ch).iCmd (f64 5 10)) (f64 (24 * code) 65536) = false ∧ F64.le (F64.abs (F64.sub (f64 (24 * code) 65536) (s.aoCh ch).resp)) (f64 2 10) = true) ∧ ((s.aoCh ch).head ≠ 0 ∨ F64.lt (f64 (24 * code) 65536) (f64 5 10) = false)) (analogueOut 7 { iCmd := F64.ofInt 12, resp := F64.ofInt 12, head := 5000 }) (7) (32768) ((5, { kind := 1, writer := 519 }))) ∧
    ((fun (s : State) (ch : Fin 8) (code a : Nat) => (s.up = true ∧ bitOf (s.aoCfg ch) 0 = true ∧ code < 65536 ∧ s.aoSuspended ch = false ∧ s.aio.link = true ∧ (s.aoCh ch).conds.contains 4 = false) ∧ (F64.lt (F64.add (s.aoCh ch).iCmd (f64 5 10)) (f64 (24 * code) 65536) = true ∧ Table.find (s.aoCh ch).since 4 = some a)) (analogueOut 7 { iCmd := F64.ofInt 12, resp := F64.ofInt 12, since := [(4, 399200000)] }) (7) (35000) (399200000)) ∧
    ((fun (s : State) (ch : Fin 8) (code a : Nat) => (s.up = true ∧ bitOf (s.aoCfg ch) 0 = true ∧ code < 65536 ∧ s.aoSuspended ch = false ∧ s.aio.link = true ∧ (s.aoCh ch).conds = []) ∧ (F64.le F64.one (s.aoCh ch).iCmd = true ∧ F64.lt (f64 (24 * code) 65536) (f64 5 10) = true ∧ (s.aoCh ch).head = 0 ∧ Table.find (s.aoCh ch).since 2 = some a)) (analogueOut 7 { iCmd := F64.ofInt 12, resp := F64.ofInt 12, since := [(2, 399200000)] }) (7) (0) (399200000)) ∧
    ((fun (s : State) (ch : Fin 8) (code a : Nat) => (s.up = true ∧ bitOf (s.aoCfg ch) 0 = true ∧ code < 65536 ∧ s.aoSuspended ch = false ∧ s.aio.link = true ∧ (s.aoCh ch).conds = [] ∧ (s.aoCh ch).head ≠ 0) ∧ (F64.lt (F64.add (s.aoCh ch).iCmd (f64 5 10)) (f64 (24 * code) 65536) = false ∧ F64.lt (f64 2 10) (F64.abs (F64.sub (f64 (24 * code) 65536) (s.aoCh ch).resp)) = true) ∧ ((s.aoCh ch).settleUntil ≤ s.mer.raw ∧ Table.find (s.aoCh ch).since 3 = some a)) (analogueOut 7 { iCmd := F64.ofInt 12, resp := F64.ofInt 12, head := 5000, since := [(3, 392000000)] }) (7) (30000) (392000000)) ∧
    ((fun (s : State) (ch : Fin 8) (code a : Nat) => (s.up = true ∧ bitOf (s.aoCfg ch) 0 = true ∧ code < 65536 ∧ s.aoSuspended ch = false ∧ (s.aoCh ch).conds = [4] ∧ Table.find (s.aoCh ch).clearSince 4 = some a) ∧ (F64.lt (F64.add (s.aoCh ch).iCmd (f64 5 10)) (f64 (24 * code) 65536) = false ∧ (F64.lt (s.aoCh ch).iCmd F64.one = true ∨ (s.aoCh ch).head ≠ 0))) (analogueOut 7 { iCmd := F64.ofInt 12, resp := F64.ofInt 12, head := 5000, conds := [4], clearSince := [(4, 392000000)] }) (7) (32768) (392000000)) :=
  ⟨by decide +kernel, by decide +kernel, by decide +kernel, by decide +kernel, by decide +kernel, by decide +kernel, by decide +kernel, by decide +kernel, by decide +kernel, by decide +kernel, by decide +kernel, by decide +kernel, by decide +kernel, by decide +kernel, by decide +kernel⟩

/-- The hypotheses of TrimsAndHartMastersFollowTheirRules can be met, clause by clause. -/
theorem test_meets_TrimsAndHartMastersFollowTheirRules :
    ((fun (s : State) (who : Who) (ch : Fin 16) (z k : F32) => (Asked s who 2 ∧ s.mode.mode = .service ∧ (∀ p ∈ s.aio.plate, p.channel ≠ ch.val) ∧ trimInRange (F32.widen z) (F32.widen k) = true)) (inMode .service) (asker 2) (15) (0xBE4CCCCD) (0x3F7AE148)) ∧
    ((fun (s : State) (who : Who) (ch : Fin 16) (z k : F32) => (Asked s who 2 ∧ s.mode.mode = .service ∧ (∀ p ∈ s.aio.plate, p.channel ≠ ch.val)) ∧ (trimInRange (F32.widen z) (F32.widen k) = false ∨ F64.lt (f64 201 1000) (F64.abs (F32.widen z)) = true ∨ F64.lt (f64 21 1000) (F64.sub (F32.widen k) F64.one) = true ∨ F64.lt (f64 21 1000) (F64.sub F64.one (F32.widen k)) = true)) (inMode .service) (asker 2) (15) (0xBE4CCCCE) (0x3F800000)) ∧
    ((fun (s : State) (who : Who) (ch : Fin 16) (_ _ : F32) => (Asked s who 2 ∧ (s.mode.mode ≠ .service ∨ s.aio.plate.map (·.channel) = some ch.val))) ({ inMode .service with aio := { plate := some { channel := 15 } } }) (asker 2) (15) (0) (0x3F800000)) ∧
    ((fun (s : State) (who : Who) (ch : Fin 16) (_ : Option F32) => (Asked s who 2 ∧ s.mode.mode = .service ∧ (∀ p ∈ s.aio.plate, p.channel ≠ ch.val) ∧ ch.val < 8)) (inMode .service) (asker 2) (7) (none)) ∧
    ((fun (s : State) (who : Who) (ch : Fin 16) (_ : Option F32) => (Asked s who 2 ∧ s.mode.mode = .service ∧ (∀ p ∈ s.aio.plate, p.channel ≠ ch.val) ∧ ch.val < 8)) (inMode .service) (asker 2) (7) (none)) ∧
    ((fun (s : State) (who : Who) (ch : Fin 16) (_ : Option F32) => (Asked s who 2 ∧ s.mode.mode = .service ∧ (∀ p ∈ s.aio.plate, p.channel ≠ ch.val) ∧ 8 ≤ ch.val)) (inMode .service) (asker 2) (15) (some 0x40800000)) ∧
    ((fun (s : State) (who : Who) (ch : Fin 16) (_ : Option F32) => (Asked s who 2 ∧ s.mode.mode = .service ∧ (∀ p ∈ s.aio.plate, p.channel ≠ ch.val) ∧ 8 ≤ ch.val)) (inMode .service) (asker 2) (15) (none)) ∧
    ((fun (s : State) (who : Who) (ch : Fin 16) (r4 r20 z k : F64) => (Asked s who 2 ∧ s.mode.mode = .service ∧ (∀ p ∈ s.aio.plate, p.channel ≠ ch.val) ∧ ch.val < 8 ∧ (s.aiCh ch).r4 = some r4 ∧ (s.aiCh ch).r20 = some r20) ∧ (z = F64.add (F64.div (F64.sub r4 (F64.mul (F64.ofInt 4) (F64.div (F64.sub r20 r4) (F64.ofInt 16)))) (s.trimK ch)) (s.trimZ ch) ∧ k = F64.div (s.trimK ch) (F64.div (F64.sub r20 r4) (F64.ofInt 16)) ∧ trimInRange z k = true)) ({ inMode .service with aio := { ai := [(7, { r4 := some (f64 41 10), r20 := some (f64 201 10) })] } }) (asker 2) (7) (f64 41 10) (f64 201 10) (F64.add (F64.div (F64.sub (f64 41 10) (F64.mul (F64.ofInt 4) (F64.div (F64.sub (f64 201 10) (f64 41 10)) (F64.ofInt 16)))) F64.one) 0) (F64.div F64.one (F64.div (F64.sub (f64 201 10) (f64 41 10)) (F64.ofInt 16)))) ∧
    ((fun (s : State) (who : Who) (ch : Fin 16) (d4 d20 z k : F64) => (Asked s who 2 ∧ s.mode.mode = .service ∧ (∀ p ∈ s.aio.plate, p.channel ≠ ch.val) ∧ 8 ≤ ch.val ∧ (s.aoCh (ch - 8)).d4 = some d4 ∧ (s.aoCh (ch - 8)).d20 = some d20) ∧ (z = F64.sub d4 (F64.mul (F64.div (F64.sub d20 d4) (F64.ofInt 16)) (F64.sub (F64.ofInt 4) (s.trimZ ch))) ∧ k = F64.div (s.trimK ch) (F64.div (F64.sub d20 d4) (F64.ofInt 16)) ∧ trimInRange z k = true)) ({ inMode .service with aio := { ao := [(7, { d4 := some (f64 41 10), d20 := some (f64 201 10) })] } }) (asker 2) (15) (f64 41 10) (f64 201 10) (F64.sub (f64 41 10) (F64.mul (F64.div (F64.sub (f64 201 10) (f64 41 10)) (F64.ofInt 16)) (F64.sub (F64.ofInt 4) 0))) (F64.div F64.one (F64.div (F64.sub (f64 201 10) (f64 41 10)) (F64.ofInt 16)))) ∧
    ((fun (s : State) (p : PlateTrim) => (s.up = true ∧ s.aio.plate = some p ∧ p.lastKey + 48000000000 ≤ s.mer.raw)) ({ inMode .service with mer := { raw := 48000000000 }, aio := { plate := some { channel := 15 } } }) ({ channel := 15 })) ∧
    ((fun (s : State) => (s.up = true ∧ (∀ p ∈ s.aio.plate, s.mer.raw < p.lastKey + 48000000000))) (inMode .service)) ∧
    ((fun (s : State) (m : Fin 8) (l : Nat) => (s.up = true ∧ HartTurn s m l ∧ ((s.hartLoop l).state = .off ∨ (s.hartLoop l).state = .connect))) (hartOf 14 {} {}) (7) (14)) ∧
    ((fun (s : State) (m : Fin 8) (l : Nat) => (s.up = true ∧ HartTurn s m l ∧ (s.hartLoop l).state = .cyclic ∧ (∀ p ∈ (s.hartMaster m).pass, p.1 ≠ l % 2) ∧ ((s.hartLoop l).more = true ∨ (s.hartLoop l).last + s.hartPeriod m ≤ s.mer.raw))) (hartOf 15 { state := .cyclic } { turn := true }) (7) (15)) ∧
    ((fun (s : State) (m : Fin 8) (l cmd : Nat) (data : List Byte) => (s.up = true ∧ HartTurn s m l ∧ (s.hartLoop l).state = .cyclic ∧ (s.hartMaster m).pass = some (l % 2, cmd, data))) (hartOf 15 { state := .cyclic } { turn := true, pass := some (1, 65535, [1]) }) (7) (15) (65535) ([1])) ∧
    ((fun (s : State) (m : Fin 8) (l : Nat) => (s.up = true ∧ HartTurn s m l ∧ (s.hartLoop l).state = .lost ∧ s.retryFree (0x0300 + m) = true)) (hartOf 15 { state := .lost } { turn := true }) (7) (15)) ∧
    ((fun (s : State) (m : Fin 8) => (s.up = true ∧ (s.hartOut m ≠ none ∨ (s.hartOn (2 * m) = false ∧ s.hartOn (2 * m + 1) = false)))) (hartOf 15 { out := some (0, false, 0) } { turn := true }) (7)) ∧
    ((fun (s : State) (m : Fin 8) (l k code bits st : Nat) (r : HartReply) => (s.up = true ∧ s.hartOut m = some l ∧ r.good = true ∧ s.hartSlots l = [k] ∧ r.vars = [(code, bits, st)] ∧ (s.hartSlot m k).1 = code ∧ bits < 2 ^ 32) ∧ (s.configured ((s.hartSlot m k).2.2 % 524288) = true ∧ s.forceOf ((s.hartSlot m k).2.2 % 524288) = none)) (hartOf 15 { state := .connect, out := some (9, false, 0) } {}) (7) (15) (0) (7) (4294967295) (64) ({ good := true, command := 9, devStatus := 208, unique := 77, vars := [(7, 4294967295, 64)] })) ∧
    ((fun (s : State) (m : Fin 8) (l : Nat) (r : HartReply) (o : Nat × Bool × Nat) => (s.up = true ∧ s.hartOut m = some l ∧ r.good = true ∧ (s.hartLoop l).out = some o ∧ o.2.1 = true)) (hartOf 15 { state := .cyclic, out := some (1000, true, 0) } { pass := some (1, 1000, []) }) (7) (15) ({ good := true, command := 1000, devStatus := 64, code := 0, data := [5] }) ((1000, true, 0))) ∧
    ((fun (s : State) (m : Fin 8) (l : Nat) (r : HartReply) => (s.up = true ∧ s.hartOut m = some l ∧ r.good = false ∧ ((s.hartLoop l).state ≠ .cyclic ∨ (s.hartLoop l).unanswered < 2))) (hartOf 15 { state := .cyclic, unanswered := 1, out := some (9, false, 0) } {}) (7) (15) ({ good := false, command := 0 })) ∧
    ((fun (s : State) (m : Fin 8) (l : Nat) => (s.up = true ∧ s.hartOut m = some l ∧ ((s.hartLoop l).state ≠ .cyclic ∨ (s.hartLoop l).unanswered < 2))) (hartOf 15 { state := .cyclic, unanswered := 1, out := some (9, false, 0) } {}) (7) (15)) ∧
    ((fun (s : State) (m : Fin 8) (l k : Nat) => (s.up = true ∧ s.hartOut m = some l ∧ (s.hartLoop l).state = .cyclic ∧ 2 ≤ (s.hartLoop l).unanswered ∧ s.hartSlots l = [k]) ∧ (s.configured ((s.hartSlot m k).2.2 % 524288) = true ∧ s.forceOf ((s.hartSlot m k).2.2 % 524288) = none)) (hartOf 15 { state := .cyclic, unanswered := 2, out := some (9, false, 0) } {}) (7) (15) (0)) ∧
    ((fun (s : State) (m : Fin 8) (_ : HartReply) => (s.up = true ∧ s.hartOut m = none)) (hartOf 15 {} {}) (7) ({ good := true, command := 0 })) ∧
    ((fun (s : State) (l : Fin 16) (k code bits st : Nat) (r : HartReply) => (s.up = true ∧ s.hartOn l = true ∧ r.good = true ∧ (r.command = 1 ∨ r.command = 2 ∨ r.command = 3 ∨ r.command = 9) ∧ s.hartSlots l = [k] ∧ r.vars = [(code, bits, st)] ∧ (s.hartSlot (l / 2) k).1 = code ∧ bits < 2 ^ 32) ∧ (s.configured ((s.hartSlot (l / 2) k).2.2 % 524288) = true ∧ s.forceOf ((s.hartSlot (l / 2) k).2.2 % 524288) = none)) (hartOf 15 { state := .cyclic } {}) (15) (0) (7) (5) (192) ({ good := true, command := 9, vars := [(7, 5, 192)] })) ∧
    ((fun (s : State) (l : Fin 16) (r : HartReply) => (s.up = true ∧ (s.hartOn l = false ∨ (r.good = true ∧ r.command ≠ 1 ∧ r.command ≠ 2 ∧ r.command ≠ 3 ∧ r.command ≠ 9)))) (hartOf 15 { state := .cyclic } {}) (15) ({ good := true, command := 33 })) ∧
    ((fun (s : State) (l : Fin 16) (r : HartReply) => (s.up = true ∧ s.hartOn l = true ∧ r.good = false)) (hartOf 15 { state := .cyclic } {}) (15) ({ good := false, command := 0 })) ∧
    ((fun (s : State) (m k : Fin 8) (l : Nat) => (s.up = true ∧ (s.hartSlots l).contains k.val = true ∧ l = 2 * m.val + (s.hartSlot m k).2.1 % 2 ∧ (s.hartLoop l).state ≠ .lost ∧ Table.get (s.hartMaster m).refreshed 0 k + 3 * s.hartPeriod m ≤ s.mer.raw) ∧ (s.configured ((s.hartSlot m k).2.2 % 524288) = true ∧ s.forceOf ((s.hartSlot m k).2.2 % 524288) = none ∧ qCode (s.record ((s.hartSlot m k).2.2 % 524288)).quality ≠ qStale)) ({ hartOf 15 { state := .cyclic } {} with sur := { points := [(5, { kind := 2, writer := 0 })], image := [(5, { quality := 5 })] } }) (7) (0) (15)) ∧
    ((fun (s : State) (m k : Fin 8) => (s.up = true ∧ s.mer.raw < Table.get (s.hartMaster m).refreshed 0 k + 3 * s.hartPeriod m)) (hartOf 15 { state := .cyclic } { refreshed := [(0, 3999999999)] }) (7) (0)) ∧
    ((fun (s : State) (who : Who) (m : Fin 8) (l cmd : Nat) (_ : List Byte) => (Asked s who 2 ∧ l < 2 ∧ cmd < 65536 ∧ (s.hartMaster m).pass = none)) (hartOf 15 { state := .cyclic } {}) (asker 2) (7) (1) (65535) ([1])) ∧
    ((fun (s : State) (who : Who) (m : Fin 8) (l cmd : Nat) (_ : List Byte) => (Asked s who 2 ∧ l < 2 ∧ cmd < 65536 ∧ (s.hartMaster m).pass ≠ none)) (hartOf 15 { state := .cyclic } { pass := some (0, 1, []) }) (asker 2) (7) (1) (65535) ([1])) :=
  ⟨by decide +kernel, by decide +kernel, by decide +kernel, by decide +kernel, by decide +kernel, by decide +kernel, by decide +kernel, by decide +kernel, by decide +kernel, by decide +kernel, by decide +kernel, by decide +kernel, by decide +kernel, by decide +kernel, by decide +kernel, by decide +kernel, by decide +kernel, by decide +kernel, by decide +kernel, by decide +kernel, by decide +kernel, by decide +kernel, by decide +kernel, by decide +kernel, by decide +kernel, by decide +kernel, by decide +kernel, by decide +kernel, by decide +kernel⟩

/-- The hypotheses of SafetyInputsDemandAndResetFunctions can be met, clause by clause. -/
theorem test_meets_SafetyInputsDemandAndResetFunctions :
    ((fun (s : State) (ch : Fin 12) (f : Nat) => (s.up = true ∧ s.safUsed ch = true ∧ (s.safCh ch).on = true ∧ f < 8 ∧ (s.fnRec f).type = 1 ∧ bitOf (s.fnRec f).demand (named s ch) = true) ∧ ((s.inRec (ch / 2)).mode = 2 → ch.val % 2 = 0)) (safety (setWith someFns) (running 2)) (0) (0)) ∧
    ((fun (s : State) (ch : Fin 12) (f : Nat) => (s.up = true ∧ s.safUsed ch = true ∧ (s.safCh ch).on = true ∧ f < 8 ∧ (s.fnRec f).type = 1 ∧ bitOf (s.fnRec f).demand (named s ch) = true) ∧ ((s.inRec (ch / 2)).mode = 2 → ch.val % 2 = 0)) (safety (setWith someFns) (running 2)) (0) (0)) ∧
    ((fun (s : State) (ch : Fin 12) (f : Nat) => (s.up = true ∧ s.safUsed ch = true ∧ (s.safCh ch).on = true ∧ f < 8 ∧ ((s.fnRec f).type = 2 ∨ (s.fnRec f).type = 3) ∧ bitOf (s.fnRec f).demand (named s ch) = true) ∧ (((s.inRec (ch / 2)).mode = 2 → ch.val % 2 = 0) ∧ (∀ g, g < 8 → (s.fnRec g).resetCh ≠ ch.val) ∧ (s.safFn f).state = 2 ∧ (s.safFn f).demand = false) ∧ (axisBits (s.safAxis 0) = 0 ∧ axisBits (s.safAxis 1) = 0 ∧ (s.fnRec f).axis ≤ 1 ∧ (∀ g, g < 8 → (s.fnRec g).type = 1 → ∀ p, p < 4 → ¬(bitOf (s.fnRec g).outputs p = true ∧ bitOf (s.fnRec f).outputs p = true)))) (safety (setWith someFns) { running 2 with axes := [(0, { speed := -5000 })] }) (2) (2)) ∧
    ((fun (s : State) (ch : Fin 12) => (s.up = true ∧ (s.safUsed ch = false ∨ (s.safCh ch).on = false))) (safety (setWith someFns) (running 2)) (11)) ∧
    ((fun (s : State) (ch : Fin 12) (f : Nat) => (s.up = true ∧ s.safUsed ch = true ∧ (s.safCh ch).on = false ∧ f < 8 ∧ (s.fnRec f).type ≠ 0 ∧ (s.safFn f).state = 0) ∧ ((∀ n ∈ s.demandChans f, s.chanOff n = false ∨ (n = ch.val ∧ (s.inRec (n / 2)).mode = 0)) ∧ (s.safFn f).triadOff = false ∧ s.faultDemand f = false) ∧ ((s.inRec (ch / 2)).mode = 0)) (safety (setWith someFns) { running 0 with chans := [(2, { on := true })] }) (0) (0)) ∧
    ((fun (s : State) (ch : Fin 12) => (s.up = true ∧ (s.safUsed ch = false ∨ (s.safCh ch).on = true))) (safety (setWith someFns) (running 2)) (11)) ∧
    ((fun (s : State) (ch : Fin 12) (f : Nat) => (s.up = true ∧ s.safUsed ch = true ∧ s.safMode ch ≤ 4 ∧ (s.safCh ch).on = true ∧ (s.safCh ch).pulseMissing = false) ∧ (f < 8 ∧ (s.fnRec f).type = 1 ∧ bitOf (s.fnRec f).demand (named s ch) = true)) (safety (setWith someFns) (running 2)) (0) (0)) ∧
    ((fun (s : State) (q : Fin 6) (a f : Nat) => (s.up = true ∧ s.safActive = true ∧ Table.find s.saf.disagree q = some a ∧ s.saf.disc.contains q.val = false ∧ a + 400000 * (s.inRec q).disc ≤ s.mer.raw) ∧ (f < 8 ∧ (s.fnRec f).type = 1 ∧ (s.inRec q).mode ≠ 0 ∧ bitOf (s.fnRec f).demand (2 * q) = true)) (safety { setWith someFns with pairs := [{ mode := 2 }] } { running 2 with disagree := [(0, 3960000000)] }) (0) (3960000000) (0)) ∧
    ((fun (s : State) (k : Fin 4) (ch f : Nat) => (s.up = true ∧ s.safActive = true ∧ s.saf.sources.contains k.val = false ∧ s.safMode ch = k.val + 1 ∧ ch < 12 ∧ f < 8 ∧ (s.fnRec f).type = 1 ∧ bitOf (s.fnRec f).demand (named s ch) = true)) (safety (setWith someFns) (running 2)) (0) (0) (0)) ∧
    ((fun (s : State) (ch : Fin 12) (f : Nat) => (s.up = true ∧ s.safUsed ch = true ∧ s.safOn ch = true ∧ (s.safCh ch).onAt + 40000000 ≤ s.mer.raw ∧ s.mer.raw ≤ (s.safCh ch).onAt + 800000000) ∧ (f < 8 ∧ (s.fnRec f).type ≠ 0 ∧ (s.fnRec f).resetCh = ch.val ∧ (s.safFn f).state = 1 ∧ (s.safFn f).triadOff = false ∧ s.faultDemand f = false) ∧ (∀ n ∈ s.demandChans f, s.chanOff n = false ∧ n / 2 ≠ ch.val / 2)) (safety (setWith someFns) { running 1 with chans := [(0, { on := true }), (2, { on := true }), (4, { on := true, onAt := 3960000000 })] }) (4) (0)) ∧
    ((fun (s : State) (ch : Fin 12) (f : Nat) => (s.up = true ∧ s.safUsed ch = true ∧ s.safOn ch = true ∧ (s.mer.raw < (s.safCh ch).onAt + 40000000 ∨ (s.safCh ch).onAt + 800000000 < s.mer.raw)) ∧ (f < 8 ∧ (s.fnRec f).type ≠ 0 ∧ (s.fnRec f).resetCh = ch.val ∧ (s.safFn f).state ≤ 1 ∧ (s.fnRec f).restart = 0)) (safety (setWith someFns) { running 1 with chans := [(0, { on := true }), (2, { on := true }), (4, { on := true, onAt := 3199999999 })] }) (4) (0)) ∧
    ((fun (s : State) (ch : Fin 12) => (s.up = true ∧ s.safUsed ch = true ∧ s.safOn ch = true) ∧ ((∃ f, f < 8 ∧ (s.fnRec f).type ≠ 0 ∧ (s.fnRec f).resetCh = ch.val) ∧ (∀ f, f < 8 → (s.fnRec f).type ≠ 0 → (s.fnRec f).resetCh = ch.val → (s.safFn f).triadOff = true))) (safety (setWith [{ type := 1, demand := 1, outputs := 1, resetCh := 4 }]) { running 1 with fns := [(0, { state := 2, triadOff := true })] }) (4)) ∧
    ((fun (s : State) (i0 i1 : SpeedIn) => (s.up = true ∧ s.safActive = true ∧ (s.axisRec 0).source = 0 ∧ s.safAxis 0 = { speed := (s.safAxis 0).speed } ∧ s.safAxis 1 = { speed := (s.safAxis 1).speed }) ∧ (i0.phase = false ∧ i0.freq = false ∧ i0.wire = false ∧ i1.phase = false ∧ i1.freq = false ∧ i1.wire = false) ∧ ((speedOf i0.edges (s.axisRec 0).w).natAbs ≤ 2000000 ∧ (speedOf i1.edges (s.axisRec 1).w).natAbs ≤ 2000000)) (safety (setWith someFns) (running 2)) ({ edges := -2000 }) ({ edges := 1 })) ∧
    ((fun (s : State) (i0 _ : SpeedIn) (f : Nat) => (s.up = true ∧ s.safActive = true ∧ (i0.phase = true ∨ i0.freq = true ∨ ((s.axisRec 0).ttl = true ∧ i0.wire = true)) ∧ axisBits (s.safAxis 0) = 0) ∧ (f < 8 ∧ (s.fnRec f).type = 3 ∧ (s.fnRec f).axis = 0 ∧ 2 ≤ (s.safFn f).state)) (safety (setWith someFns) (running 3)) ({ edges := -2000, phase := true, freq := true }) ({ edges := 1 }) (2)) ∧
    ((fun (s : State) (i0 _ : SpeedIn) (f : Nat) => (s.up = true ∧ s.safActive = true ∧ (s.axisRec 0).source = 0 ∧ axisBits (s.safAxis 0) = 0 ∧ i0.phase = false ∧ i0.freq = false ∧ i0.wire = false ∧ (speedOf i0.edges (s.axisRec 0).w).natAbs ≤ 2000000) ∧ (f < 8 ∧ (s.fnRec f).type = 3 ∧ (s.fnRec f).axis = 0 ∧ (s.safFn f).state = 3 ∧ AboveLimit (s.fnRec f) (s.safFn f).v0 (speedOf i0.edges (s.axisRec 0).w).natAbs (s.now - (s.safFn f).t0))) (safety (setWith someFns) { running 2 with fns := [(2, { state := 3, t0 := 9000000000, v0 := 60200, demand := true, triadOff := true })] }) ({ edges := -9 }) ({ edges := 1 }) (2)) ∧
    ((fun (s : State) (i0 _ : SpeedIn) (f : Nat) => (s.up = true ∧ s.safActive = true ∧ (s.axisRec 0).source = 0 ∧ s.safAxis 0 = { speed := (s.safAxis 0).speed } ∧ i0.phase = false ∧ i0.freq = false ∧ i0.wire = false ∧ (speedOf i0.edges (s.axisRec 0).w).natAbs ≤ 2000000) ∧ (f < 8 ∧ (s.fnRec f).type = 3 ∧ (s.fnRec f).axis = 0 ∧ (s.safFn f).state = 3 ∧ ¬AboveLimit (s.fnRec f) (s.safFn f).v0 (speedOf i0.edges (s.axisRec 0).w).natAbs (s.now - (s.safFn f).t0))) (safety (setWith someFns) { running 2 with fns := [(2, { state := 3, t0 := 9000000000, v0 := 60201, demand := true, triadOff := true })] }) ({ edges := 9 }) ({ edges := 1 }) (2)) ∧
    ((fun (s : State) (f : Fin 8) => (s.up = true ∧ s.safActive = true ∧ (s.fnRec f).type = 2 ∧ (s.safFn f).state = 3 ∧ (s.safFn f).t0Raw + 400000 * (s.fnRec f).tStop ≤ s.mer.raw)) (safety (setWith [{ type := 2, demand := 1, outputs := 1, resetCh := 4, tStop := 9999 }]) { running 3 with chans := [] }) (0)) ∧
    ((fun (s : State) (f : Fin 8) => (s.up = true ∧ ((s.safFn f).state ≠ 3 ∨ s.mer.raw < (s.safFn f).t0Raw + 400000 * (s.fnRec f).tStop))) (safety (setWith someFns) (running 3)) (1)) ∧
    ((fun (s : State) (f : Fin 8) (a : Nat) => (s.up = true ∧ s.safActive = true ∧ (s.fnRec f).type = 3 ∧ (s.safFn f).state = 3 ∧ (s.safFn f).stillSince = some a ∧ a + 4000000 ≤ s.mer.raw)) (safety (setWith someFns) { running 3 with fns := [(2, { state := 3, stillSince := some 3996000000 })], chans := [] }) (2) (3996000000)) ∧
    ((fun (s : State) (f : Fin 8) => (s.up = true ∧ s.safActive = true ∧ (s.fnRec f).type = 3 ∧ (s.safFn f).state = 3 ∧ (s.safFn f).t0Raw + 400000 * (s.fnRec f).tMax ≤ s.mer.raw)) (safety (setWith someFns) { running 3 with chans := [] }) (2)) ∧
    ((fun (s : State) (f : Fin 8) => (s.up = true ∧ ((s.safFn f).state ≠ 3 ∨ s.mer.raw < (s.safFn f).t0Raw + 400000 * (s.fnRec f).tMax))) (safety (setWith someFns) (running 2)) (2)) :=
  ⟨by decide +kernel, by decide +kernel, by decide +kernel, by decide +kernel, by decide +kernel, by decide +kernel, by decide +kernel, by decide +kernel, by decide +kernel, by decide +kernel, by decide +kernel, by decide +kernel, by decide +kernel, by decide +kernel, by decide +kernel, by decide +kernel, by decide +kernel, by decide +kernel, by decide +kernel, by decide +kernel, by decide +kernel⟩

/-- The hypotheses of TwoChannelsDecideEachSafetyPair can be met, clause by clause. -/
theorem test_meets_TwoChannelsDecideEachSafetyPair :
    ((fun (s : State) => (s.up = true ∧ s.safActive = true)) (safety (setWith someFns) { running 2 with edges := 16, frameSeq := 4294967295 })) ∧
    ((fun (s : State) => (s.up = true ∧ s.safActive = true ∧ s.tri.dead = false)) (safety (setWith someFns) (running 2))) ∧
    ((fun (s : State) => (s.up = true ∧ (s.safActive = false ∨ s.tri.dead = true))) ({ safety (setWith someFns) (running 2) with tri := { dead := true } })) ∧
    ((fun (s : State) (fr : CheckFrame) => (s.up = true ∧ s.safActive = true ∧ fr.crcOk = true ∧ fr.seq = s.saf.expectSeq ∧ s.saf.divergence = false ∧ (s.saf.divRun = 0 ∨ fr.enables.val = packBits ((upto 4).map s.dieEnable)))) (safety (setWith someFns) { running 2 with expectSeq := 4294967295 }) ({ seq := 4294967295, permit := 3, off := 1, enables := 15 })) ∧
    ((fun (s : State) (fr : CheckFrame) => (s.up = true ∧ s.safActive = true ∧ (fr.crcOk = false ∨ fr.seq ≠ s.saf.expectSeq))) (safety (setWith someFns) (running 2)) ({ seq := 7, permit := 3, off := 1, enables := 15 })) ∧
    ((fun (s : State) (fr : CheckFrame) => (s.up = true ∧ s.safActive = true ∧ fr.crcOk = true ∧ fr.seq = s.saf.expectSeq ∧ s.saf.divergence = false ∧ 1 ≤ s.saf.divRun ∧ fr.enables.val ≠ packBits ((upto 4).map s.dieEnable))) (safety (setWith someFns) { running 2 with divRun := 1 }) ({ seq := 0, permit := 3, off := 0, enables := 15 })) ∧
    ((fun (s : State) => (s.up = true ∧ s.safActive = true ∧ s.saf.channelFault = false ∧ s.saf.lastCheck + 600000 ≤ s.mer.raw)) (safety (setWith someFns) { running 2 with lastCheck := 3999400000 })) ∧
    ((fun (s : State) => (s.up = true ∧ (s.safActive = false ∨ s.mer.raw < s.saf.lastCheck + 600000))) (safety (setWith someFns) { running 2 with lastCheck := 3999400001 })) ∧
    ((fun (s : State) => (s.up = true ∧ s.safActive = true)) (safety (setWith someFns) (running 2))) ∧
    ((fun (s : State) => (s.up = true ∧ s.safActive = true ∧ s.saf.frameAt < s.now - s.now % 4000000)) (safety (setWith someFns) { running 2 with sources := [2], frameAt := 9996000000 })) ∧
    ((fun (s : State) (p : Fin 4) (fd : TestFind) => (s.up = true ∧ s.safActive = true ∧ s.safHolder = true ∧ ((s.safPair p).lastTest = 0 ∨ (s.safPair p).lastTest + 400000 * (s.outRec p).testInterval ≤ s.mer.raw ∨ (s.safPair p).testLow = true)) ∧ (fd.followed = true ∧ fd.moved = [])) (safety (setWith someFns) (running 2)) (3) ({})) ∧
    ((fun (s : State) (p : Fin 4) (fd : TestFind) => (s.up = true ∧ s.safActive = true ∧ s.safHolder = true ∧ ((s.safPair p).lastTest = 0 ∨ (s.safPair p).lastTest + 400000 * (s.outRec p).testInterval ≤ s.mer.raw ∨ (s.safPair p).testLow = true)) ∧ (fd.followed = false ∧ (s.safPair p).energised = true)) (safety (setWith someFns) (running 2)) (1) ({ followed := false })) ∧
    ((fun (s : State) (p : Fin 4) (fd : TestFind) => (s.up = true ∧ s.safActive = true ∧ s.safHolder = true ∧ ((s.safPair p).lastTest = 0 ∨ (s.safPair p).lastTest + 400000 * (s.outRec p).testInterval ≤ s.mer.raw ∨ (s.safPair p).testLow = true)) ∧ (fd.followed = false ∧ (s.safPair p).energised = false ∧ fd.moved = [])) (safety (setWith someFns) { running 2 with pairs := [(2, { testLow := true })] }) (2) ({ followed := false })) ∧
    ((fun (s : State) (p q : Fin 4) (fd : TestFind) => (s.up = true ∧ s.safActive = true ∧ s.safHolder = true ∧ ((s.safPair p).lastTest = 0 ∨ (s.safPair p).lastTest + 400000 * (s.outRec p).testInterval ≤ s.mer.raw ∨ (s.safPair p).testLow = true)) ∧ (fd.moved.contains q = true ∧ q ≠ p)) (safety (setWith someFns) (running 2)) (3) (1) ({ moved := [1] })) ∧
    ((fun (s : State) (p : Fin 4) => (s.up = true ∧ s.safActive = true ∧ (s.safPair p).energised = true)) (safety (setWith someFns) (running 2)) (1)) ∧
    ((fun (s : State) (p : Fin 4) => (s.up = true ∧ s.safActive = true ∧ (s.safPair p).energised = true)) (safety (setWith someFns) (running 2)) (1)) ∧
    ((fun (s : State) (p : Fin 4) (a : Nat) => (s.up = true ∧ s.safActive = true ∧ (s.outRec p).edmInput ≠ 0xFF ∧ (s.safPair p).edmFault = false ∧ (s.safPair p).edmWait = some a ∧ a + 400000 * (s.outRec p).edmT ≤ s.mer.raw)) (safety { setWith someFns with outs := [{}, { edmInput := 1 }] } { running 2 with pairs := [(1, { highClosed := true, lowClosed := true, permit := true, edmWait := some 3880000000 })] }) (1) (3880000000)) ∧
    ((fun (s : State) (p : Fin 4) => (s.up = true ∧ s.safActive = true ∧ (s.outRec p).edmInput ≠ 0xFF ∧ (s.safPair p).energised = false)) (safety { setWith someFns with outs := [{}, { edmInput := 1 }] } { running 2 with pairs := [(1, { permit := true })] }) (1)) ∧
    ((fun (s : State) (p : Fin 4) => (s.up = true ∧ s.safActive = true ∧ s.pairMember = true ∧ s.red.holds = false ∧ (s.safPair p).stagedEnable = false ∧ (s.safPair p).nhCond = false)) (safetyMember (setWith someFns) (running 2) { ready := true }) (3)) ∧
    ((fun (s : State) => (s.up = true ∧ s.safActive = true ∧ s.pairMember = true ∧ s.red.holds = true ∧ ((∃ p, p < 4 ∧ s.dieEnable p ≠ (s.safPair p).lastSent) ∨ s.saf.lastEnableSend + 400000 ≤ s.mer.raw))) (safetyMember (setWith someFns) (running 2) { holds := true })) ∧
    ((fun (s : State) (a : Nat) => (s.up = true ∧ s.safActive = true ∧ s.pairMember = true ∧ s.red.holds = false ∧ s.saf.mismatchSince = some a ∧ a + 40000000 ≤ s.mer.raw ∧ s.red.ready = true)) (safetyMember (setWith someFns) { running 2 with mismatchSince := some 3960000000 } { ready := true }) (3960000000)) ∧
    ((fun (s : State) => (s.up = true ∧ (s.pairMember = false ∨ s.red.holds = true ∨ s.saf.mismatchSince = none))) (safety (setWith someFns) (running 2))) :=
  ⟨by decide +kernel, by decide +kernel, by decide +kernel, by decide +kernel, by decide +kernel, by decide +kernel, by decide +kernel, by decide +kernel, by decide +kernel, by decide +kernel, by decide +kernel, by decide +kernel, by decide +kernel, by decide +kernel, by decide +kernel, by decide +kernel, by decide +kernel, by decide +kernel, by decide +kernel, by decide +kernel, by decide +kernel, by decide +kernel⟩

/-- The hypotheses of SafetySetsAreCheckedSignedAndConfirmed can be met, clause by clause. -/
theorem test_meets_SafetySetsAreCheckedSignedAndConfirmed :
    ((fun (s : State) (who : Who) (x : SafetySet) => (Asked s who 2 ∧ s.sealed_ = false ∧ s.mode.mode = .stop ∧ 65 ≤ s.staged.length ∧ s.signed s.staged = true ∧ s.setFault x = none)) ({ mode := { phase := .up, mode := .stop }, leg := { keys := openKey, staging := shortContainer 0x53 0x53, stagingLen := 128 } }) (asker 2) ({ chMode := [1, 2, 5, 5, 6], pairs := [{ mode := 1 }], fns := [{ type := 1, demand := 1, outputs := 1, resetCh := 4 }], axes := [{}, {}] })) ∧
    ((fun (s : State) (who : Who) (_ : SafetySet) => (Asked s who 2 ∧ s.sealed_ = true)) ({ mode := { phase := .up, mode := .stop, lifeCycle := .sealed } }) (asker 2) ({ chMode := [] })) ∧
    ((fun (s : State) (who : Who) (_ : SafetySet) => (Asked s who 2 ∧ s.sealed_ = false ∧ s.mode.mode ≠ .stop)) (inMode .run) (asker 2) ({ chMode := [] })) ∧
    ((fun (s : State) (who : Who) (_ : SafetySet) => (Asked s who 2 ∧ s.sealed_ = false ∧ s.mode.mode = .stop ∧ s.signed s.staged = false)) (inMode .stop) (asker 2) ({ chMode := [] })) ∧
    ((fun (s : State) (who : Who) (x : SafetySet) (n : Nat) => (Asked s who 2 ∧ s.sealed_ = false ∧ s.mode.mode = .stop ∧ 65 ≤ s.staged.length ∧ s.signed s.staged = true) ∧ ((n < 6 ∧ ((x.pairs.getD n {}).mode = 1 ∨ (x.pairs.getD n {}).mode = 2) ∧ 1 ≤ x.chMode.getD (2 * n) 0 ∧ x.chMode.getD (2 * n) 0 ≤ 4 ∧ x.chMode.getD (2 * n + 1) 0 = x.chMode.getD (2 * n) 0) ∨ (n < 8 ∧ 3 < (x.fns.getD n {}).type) ∨ (n < 4 ∧ (x.outs.getD n {}).testInterval < 100))) ({ mode := { phase := .up, mode := .stop }, leg := { keys := openKey, staging := shortContainer 0x53 0x53, stagingLen := 128 } }) (asker 2) ({ chMode := [1, 1], pairs := [{ mode := 2 }], axes := [{}, {}] }) (0)) ∧
    ((fun (s : State) (who : Who) (x : SafetySet) (_ : Option Nat) => (Asked s who 2 ∧ s.saf.pending = some x)) ({ safety (setWith someFns) { running 2 with pending := some { chMode := [1, 2] }, pendCrc := 4294967295 } with mode := { phase := .up, mode := .stop } }) (asker 2) ({ chMode := [1, 2] }) (some 3)) ∧
    ((fun (s : State) (who : Who) (q : Nat) => (Asked s who 2 ∧ s.saf.pending.isSome = true ∧ s.role = 1 ∧ q ≠ s.saf.pendCrc)) ({ inMode .stop with saf := { pending := some { chMode := [1, 2] }, pendCrc := 4294967295 }, elems := [(ea 0x50001 0, 1)] }) (asker 2) (3)) ∧
    ((fun (s : State) (who : Who) (crc : Nat) (_ : Option Nat) => (Asked s who 2 ∧ s.saf.pending.isSome = true ∧ crc ≠ s.saf.pendCrc)) ({ inMode .stop with saf := { pending := some { chMode := [1, 2] }, pendCrc := 4294967295 } }) (asker 2) (0) (none)) ∧
    ((fun (s : State) => (s.up = true ∧ s.saf.pending.isSome = true ∧ s.saf.pendAt + 240000000000 ≤ s.mer.raw)) ({ inMode .stop with mer := { raw := 240000000000 }, saf := { pending := some { chMode := [1, 2] }, pendCrc := 4294967295 } })) ∧
    ((fun (s : State) => (s.up = true ∧ (s.saf.pending = none ∨ s.mer.raw < s.saf.pendAt + 240000000000))) (inMode .stop)) :=
  ⟨by decide +kernel, by decide +kernel, by decide +kernel, by decide +kernel, by decide +kernel, by decide +kernel, by decide +kernel, by decide +kernel, by decide +kernel, by decide +kernel⟩

/-- The hypotheses of CanControllersSendReceiveAndRecover can be met, clause by clause. -/
theorem test_meets_CanControllersSendReceiveAndRecover :
    ((fun (s : State) (c : Fin 4) (o : Fin 128) => (s.up = true ∧ (s.canObj c o).inTx = true ∧ s.canMode c = 1 ∧ (s.canObj c o).held = none)) (canOf (sendObject 127 5) { tec := 128, passive := true, txcnt := 4294967295, objs := [(127, { pending := true, inTx := true, payload := 0x1234 })] }) (3) (127)) ∧
    ((fun (s : State) (c : Fin 4) (o : Fin 128) (p : Nat) => (s.up = true ∧ (s.canObj c o).inTx = true ∧ s.canMode c = 1 ∧ s.objEl c o 12 0xFFFFFFFF = p ∧ s.configured p = true ∧ s.forceOf p = none)) (canOf (sendObject 127 5) { objs := [(127, { pending := true, inTx := true, payload := 0x1234, held := some 7 })] }) (3) (127) (5)) ∧
    ((fun (s : State) (c : Fin 4) (o : Fin 128) (pl : Nat) => (s.up = true ∧ (s.canObj c o).inTx = true ∧ s.canMode c = 1 ∧ (s.canObj c o).held = some pl)) (canOf (sendObject 127 5) { objs := [(127, { pending := true, inTx := true, payload := 0x1234, held := some 7 })] }) (3) (127) (7)) ∧
    ((fun (s : State) (c : Fin 4) (o : Fin 128) (p q : Nat) => (s.up = true ∧ (s.canObj c o).inTx = true ∧ s.canMode c = 1 ∧ p ≠ o.val ∧ q ≠ o.val ∧ (s.canObj c p).pending = true ∧ (s.canObj c q).inTx = false ∧ arbKey (s.objEl c p 2 0) < arbKey (s.objEl c q 2 0))) (canOf (sendObject 127 5 ++ sendObject 2 0x80040000 ++ sendObject 3 1) { objs := [(127, { pending := true, inTx := true }), (3, { pending := true }), (2, { pending := true })] }) (3) (127) (3) (2)) ∧
    ((fun (s : State) (c : Fin 4) (o : Fin 128) => (s.up = true ∧ ((s.canObj c o).inTx = false ∨ s.canMode c ≠ 1))) (canOf [] {}) (3) (127)) ∧
    ((fun (s : State) (c : Fin 4) (o : Fin 128) => (s.up = true ∧ (s.canObj c o).inTx = true ∧ (s.canObj c o).pending = true ∧ (s.canObj c o).attempts < s.objEl c o 7 0)) (canOf (sendObject 127 5) { objs := [(127, { pending := true, inTx := true, payload := 5, held := some 7 })] }) (3) (127)) ∧
    ((fun (s : State) (c : Fin 4) (o : Fin 128) => (s.up = true ∧ (s.canObj c o).inTx = true ∧ s.objEl c o 7 0 ≤ (s.canObj c o).attempts ∧ (s.canObj c o).held = none)) (canOf (sendObject 127 5) { objs := [(127, { pending := true, inTx := true, attempts := 1 })] }) (3) (127)) ∧
    ((fun (s : State) (c : Fin 4) (o : Fin 128) => (s.up = true ∧ (s.canObj c o).pending = true ∧ (s.canObj c o).inTx = false ∧ s.objEl c o 8 0 ≠ 0 ∧ (s.canObj c o).placedAt + 400 * s.objEl c o 8 0 ≤ s.mer.raw)) (canOf (sendObject 127 5) { objs := [(127, { pending := true, placedAt := 3999600000 })] }) (3) (127)) ∧
    ((fun (s : State) (c : Fin 4) (o : Fin 128) => (s.up = true ∧ ((s.canObj c o).pending = false ∨ (s.canObj c o).inTx = true ∨ s.objEl c o 8 0 = 0 ∨ s.mer.raw < (s.canObj c o).placedAt + 400 * s.objEl c o 8 0))) (canOf [] {}) (3) (127)) ∧
    ((fun (s : State) (c : Fin 4) (o : Nat) (f : CanFrame) (g : CanField) (_ : Decoded) => (FrameTaken s c f ∧ s.legendPair c f = none ∧ s.rxObject c f = some o ∧ dlcLen (bitOf (s.objEl c o 3 0) 0) (s.objEl c o 4 0) ≤ f.data.length ∧ s.mode.mode ≠ .standby) ∧ (s.objFields c o = [g] ∧ s.configured (refLocal g.ref) = true ∧ s.forceOf (refLocal g.ref) = none ∧ F64.num (unpackField g (leNat f.data)) ≠ .nan)) (canOf receiveObject { rxcnt := 4294967295 }) (3) (127) ({ id := 0x123, dlc := 2, data := [0xFE, 0xFF], capture := 5 }) (canField (6 + 4 * 2 ^ 25 + 16 * 2 ^ 48 + 2 ^ 56 + 0x3F000000 * 2 ^ 64 + 0x3F800000 * 2 ^ 96)) ({})) ∧
    ((fun (s : State) (c : Fin 4) (o : Nat) (f : CanFrame) (_ : Decoded) => (FrameTaken s c f ∧ s.legendPair c f = none ∧ s.rxObject c f = some o ∧ f.data.length < dlcLen (bitOf (s.objEl c o 3 0) 0) (s.objEl c o 4 0))) (canOf receiveObject {}) (3) (127) ({ id := 0x123, dlc := 1, data := [0xFE], capture := 5 }) ({})) ∧
    ((fun (s : State) (c : Fin 4) (f : CanFrame) (_ : Decoded) => (FrameTaken s c f ∧ s.legendPair c f = none ∧ s.rxObject c f = none ∧ s.filterHit c f = none)) (canOf receiveObject {}) (3) ({ id := 0x123, rtr := true, dlc := 1, data := [], capture := 5 }) ({})) ∧
    ((fun (s : State) (c : Fin 4) (f : CanFrame) (k : Nat) (_ : Decoded) => (FrameTaken s c f ∧ s.legendPair c f = none ∧ s.rxObject c f = none ∧ s.filterHit c f = some k ∧ field (s.canFilter c k).2 30 29 = 1)) (canOf [] { flt := [(31, 2 ^ 61 + 2 ^ 30)] }) (3) ({ id := 0x1234567, ide := true, rtr := true, dlc := 1, data := [], capture := 5 }) (31) ({})) ∧
    ((fun (s : State) (c : Fin 4) (f : CanFrame) (_ : Decoded) => (s.up = true ∧ canFrameOk f = true ∧ (s.canMode c = 0 ∨ (s.canCtl c).busOff = true ∨ (f.fdf = true ∧ bitOf (s.canCtl c).ctrl 2 = false)))) (canOf [] { busOff := true }) (3) ({ id := 5, dlc := 0, capture := 5 }) ({})) ∧
    ((fun (s : State) (c : Fin 4) (o : Fin 128) (g : CanField) => (s.up = true ∧ s.objOn c o = true ∧ s.objEl c o 1 0 = 0 ∧ s.objEl c o 11 0 ≠ 0 ∧ s.canMode c ≠ 0 ∧ s.mode.mode ≠ .standby ∧ (s.canObj c o).rxStale = false ∧ (s.canObj c o).rxBad = true) ∧ (max (s.canObj c o).lastRx s.can.since + 400000 * s.objEl c o 11 0 ≤ s.mer.raw) ∧ (s.objFields c o = [g] ∧ s.configured (refLocal g.ref) = true ∧ s.forceOf (refLocal g.ref) = none ∧ qCode (s.record (refLocal g.ref)).quality ≠ qBad)) ({ canOf receiveObject { objs := [(127, { rxBad := true, lastRx := 3960000000 })] } with sur := { points := [(6, {})], image := [(6, { quality := 5 })] } }) (3) (127) (canField (6 + 4 * 2 ^ 25 + 16 * 2 ^ 48 + 2 ^ 56 + 0x3F000000 * 2 ^ 64 + 0x3F800000 * 2 ^ 96))) ∧
    ((fun (s : State) (c : Fin 4) (o : Fin 128) (g : CanField) => (s.up = true ∧ s.objOn c o = true ∧ s.objEl c o 1 0 = 0 ∧ s.objEl c o 11 0 ≠ 0 ∧ s.canMode c ≠ 0 ∧ s.mode.mode ≠ .standby ∧ (s.canObj c o).rxStale = true ∧ (s.canObj c o).rxBad = false) ∧ (max (s.canObj c o).lastRx s.can.since + 400000 * (3 * s.objEl c o 11 0) ≤ s.mer.raw) ∧ (s.objFields c o = [g] ∧ s.configured (refLocal g.ref) = true ∧ s.forceOf (refLocal g.ref) = none ∧ qCode (s.record (refLocal g.ref)).quality ≠ qBad)) ({ canOf receiveObject { objs := [(127, { rxStale := true, lastRx := 3880000000 })] } with sur := { points := [(6, {})], image := [(6, { quality := 1 })] } }) (3) (127) (canField (6 + 4 * 2 ^ 25 + 16 * 2 ^ 48 + 2 ^ 56 + 0x3F000000 * 2 ^ 64 + 0x3F800000 * 2 ^ 96))) ∧
    ((fun (s : State) (c : Fin 4) (o : Fin 128) => (s.up = true ∧ (s.objEl c o 11 0 = 0 ∨ s.mer.raw < max (s.canObj c o).lastRx s.can.since + 400000 * s.objEl c o 11 0))) (canOf [] {}) (3) (127)) ∧
    ((fun (s : State) (c : Fin 4) (err : CanErr) (_ : Bool) => (ErrorTaken s c ∧ (s.canCtl c).tec < 248 ∧ (err ≠ .ack ∨ (s.canCtl c).passive = false))) (canOf [] { tec := 120, errCrc := 15 }) (3) (.crc) (true)) ∧
    ((fun (s : State) (c : Fin 4) (_ : CanErr) (_ : Bool) => (ErrorTaken s c ∧ (s.canCtl c).tec < 256 ∧ (s.canCtl c).rec_ < 119)) (canOf [] { rec_ := 118 }) (3) (.bitDominant) (false)) ∧
    ((fun (s : State) (c : Fin 4) (err : CanErr) (_ : Bool) => (ErrorTaken s c ∧ 248 ≤ (s.canCtl c).tec ∧ err ≠ .ack ∧ s.el (0x90000 + c) 4 0 = 0 ∧ s.retryFree (canFn c) = true)) (canOf (sendObject 127 5) { tec := 248, objs := [(127, { pending := true, inTx := true }), (3, { pending := true })] }) (3) (.form) (false)) ∧
    ((fun (s : State) (c : Fin 4) => (s.up = true ∧ (s.canCtl c).busOff = true ∧ (s.canCtl c).recovering = true)) (canOf [] { busOff := true, recovering := true, tec := 256, rec_ := 3 }) (3)) ∧
    ((fun (s : State) (c : Fin 4) => (s.up = true ∧ ((s.canCtl c).busOff = false ∨ (s.canCtl c).recovering = false))) (canOf [] { busOff := true, tec := 256 }) (3)) ∧
    ((fun (s : State) (c : Fin 4) (a : Nat) => (s.up = true ∧ (s.canCtl c).episode = some a)) (canOf [] { episode := some 0 }) (3) (0)) :=
  ⟨by decide +kernel, by decide +kernel, by decide +kernel, by decide +kernel, by decide +kernel, by decide +kernel, by decide +kernel, by decide +kernel, by decide +kernel, by decide +kernel, by decide +kernel, by decide +kernel, by decide +kernel, by decide +kernel, by decide +kernel, by decide +kernel, by decide +kernel, by decide +kernel, by decide +kernel, by decide +kernel, by decide +kernel, by decide +kernel, by decide +kernel⟩

/-- The hypotheses of PortsRingAndTieLinkFollowTheirRules can be met, clause by clause. -/
theorem test_meets_PortsRingAndTieLinkFollowTheirRules :
    ((fun (s : State) (p : Port) => (s.up = true ∧ (s.net.port p).up = true ∧ s.retryFree (0x0200 + p) = true ∧ (s.openFault? (0x0200 + p) 0xA001 p).isNone = true)) (ported {}) (3)) ∧
    ((fun (s : State) (p : Port) => (s.up = true ∧ (s.net.port p).up = false)) ({ ported {} with net := {} }) (3)) ∧
    ((fun (s : State) (p : Port) => (s.up = true ∧ (s.net.port p).up = false)) ({ ported {} with net := {} }) (3)) ∧
    ((fun (s : State) (p : Port) (f : PlantFrame) => (PlantTaken s p f ∧ f.kind = .arpOwn ∧ Table.get (s.net.port p).windows 0 1 < 100)) (ported { na := { windows := [(1, 99)] } }) (0) ({ kind := .arpOwn, src := 77 })) ∧
    ((fun (s : State) (p : Port) (f : PlantFrame) => (PlantTaken s p f ∧ f.kind = .icmpEcho ∧ Table.get (s.net.port p).windows 0 2 < 100)) (ported { na := { windows := [(2, 10)], icmpReplies := 10 } }) (0) ({ kind := .icmpEcho, src := 77 })) ∧
    ((fun (s : State) (p : Port) (f : PlantFrame) (c : Nat × Nat) => (PlantTaken s p f ∧ policeClass f.kind = some c ∧ c.2 ≤ Table.get (s.net.port p).windows 0 c.1)) (ported { nb := { windows := [(3, 20000)] } }) (1) ({ kind := .udpLegend, src := 77 }) ((3, 20000))) ∧
    ((fun (s : State) (p : Port) (f : PlantFrame) (q at_ : Nat) => (s.up = true ∧ p.val < 2 ∧ (s.net.port p).up = true ∧ f.kind = .udpLegend ∧ f.seq = some q ∧ (f.src, q, at_) ∈ s.net.seen ∧ s.mer.raw < at_ + 160000) ∧ (s.mer.raw < (s.net.port p).windowAt + 400000000 ∧ Table.get (s.net.port p).windows 0 3 < 20000)) (ported { seen := [(77, 65535, 240001)] }) (1) ({ kind := .udpLegend, src := 77, seq := some 65535 }) (65535) (240001)) ∧
    ((fun (s : State) (p : Port) (f : PlantFrame) => (PlantTaken s p f ∧ (f.kind = .fragment ∨ f.kind = .other) ∧ s.el 0xA0000 0 0 = 0)) (ported {}) (0) ({ kind := .fragment, src := 77 })) ∧
    ((fun (s : State) => (s.up = true ∧ s.net.lastSup + 400000 * s.el 0xA0000 4 2000 ≤ s.mer.raw)) ({ ported { prpSeq := 65535 } with elems := [(ea 0xA0000 4, 1)] })) ∧
    ((fun (s : State) => (s.up = true ∧ s.mer.raw < s.net.lastSup + 400000 * s.el 0xA0000 4 2000)) (ported {})) ∧
    ((fun (s : State) (p : Port) (f : RingFrame) => (s.up = true ∧ 2 ≤ p.val ∧ (s.net.port p).up = true ∧ f.aborted = true)) (ported {}) (3) ({ kind := 1, ring := 0, src := 8, aborted := true, fcsOk := false })) ∧
    ((fun (s : State) (p : Port) (f : RingFrame) => (s.up = true ∧ 2 ≤ p.val ∧ (s.net.port p).up = true ∧ f.aborted = false) ∧ (f.ver ≠ 1 ∨ f.kind = 0 ∨ 5 < f.kind ∨ 28 < f.len ∨ f.ring ≠ s.ringId ∨ (f.src ≠ s.modIndex ∧ s.pairMember = false) ∨ f.fcsOk = false)) (ported {}) (3) ({ kind := 6, ring := 32776, src := 8 })) ∧
    ((fun (s : State) (p : Port) (f : RingFrame) (x : Exchange) (hd ch v q : Nat) (y : Nat × PointMeta) => (RingTaken s p f ∧ f.wrap = 0xFF ∧ s.ring.isOpen = false ∧ f.kind = 3 ∧ s.ring.exchanges = [x] ∧ exchCode x.owner = f.exch ∧ x.collected = false ∧ s.collectDue x = false) ∧ (s.exchHeads x.owner = [hd] ∧ f.bits.contains (s.headPos hd) = true ∧ (s.head hd).answered = false ∧ f.inputs = [(hd, ch, v, q)] ∧ s.pointsOf 2 (256 * hd + ch) = [y] ∧ s.forceOf y.1 = none ∧ q < 256 ∧ v < 2 ^ 64) ∧ ((s.head hd).state = .present ∧ s.configured y.1 = true)) ({ ported {} with elems := [(ea 0xA0117 0, 1), (ea 0xA0117 1, 23)], sur := { points := [(5, { kind := 2, writer := 5890 })] }, ring := { heads := [(23, { state := .present })], exchanges := [{ owner := 0, at_ := 1000000, seq := 0 }] } }) (3) ({ kind := 3, ring := 32776, src := 8, exch := 256, bits := [23], inputs := [(23, 2, 7, 5)] }) ({ owner := 0, at_ := 1000000, seq := 0 }) (23) (2) (7) (5) ((5, { kind := 2, writer := 5890 }))) ∧
    ((fun (s : State) (p : Port) (f : RingFrame) (x : Exchange) (hd : Nat) => (RingTaken s p f ∧ f.wrap = 0xFF ∧ s.ring.isOpen = false ∧ f.kind = 4 ∧ s.ring.exchanges = [x] ∧ exchCode x.owner = f.exch ∧ x.sentOut = true ∧ s.exchHeads x.owner = [hd] ∧ f.bits.contains (s.headPos hd) = true)) ({ ported {} with elems := [(ea 0xA0117 0, 1), (ea 0xA0117 1, 23)], ring := { heads := [(23, { state := .present })], exchanges := [{ owner := 0, at_ := 1000000, seq := 0, sentOut := true }] } }) (3) ({ kind := 4, ring := 32776, src := 8, exch := 256, bits := [23] }) ({ owner := 0, at_ := 1000000, seq := 0, sentOut := true }) (23)) ∧
    ((fun (s : State) (p : Port) (f : RingFrame) => (RingTaken s p f ∧ f.wrap ≠ 0xFF ∧ s.ring.isOpen = false)) (ported {}) (3) ({ kind := 1, ring := 32776, src := 8, wrap := 22, full := false })) ∧
    ((fun (s : State) (p : Port) (f : RingFrame) => (RingTaken s p f ∧ f.wrap = 0xFF ∧ f.full = true ∧ s.ring.isOpen = true)) ({ ported {} with ring := { isOpen := true, breakA := 22 } }) (3) ({ kind := 1, ring := 32776, src := 8 })) ∧
    ((fun (s : State) (l : Fin 2) (b : List Byte) (_ : Decoded) => (s.up = true ∧ (s.net.lane l).up = true ∧ b.length = (8 + byteAt b 3 + 7) / 8 * 8 ∧ byteAt b 3 ≤ 120 ∧ leAt b 4 4 ≠ tieCrc b)) (ported {}) (0) ([1, 2, 3, 0, 0, 0, 0, 0]) ({})) ∧
    ((fun (s : State) (l : Fin 2) (b : List Byte) (_ : Decoded) => (s.up = true ∧ (s.net.lane l).up = true ∧ b.length = (8 + byteAt b 3 + 7) / 8 * 8 ∧ byteAt b 3 ≤ 120 ∧ leAt b 4 4 = tieCrc b ∧ (byteAt b 0 ≠ 5 ∨ s.pairMember = false))) (ported {}) (0) (tieBlock 6 1 2) ({})) ∧
    ((fun (s : State) (l : Fin 2) (b : List Byte) (_ : Decoded) => (s.up = true ∧ (s.net.lane l).up = true ∧ b.length = (8 + byteAt b 3 + 7) / 8 * 8 ∧ byteAt b 3 ≤ 120 ∧ leAt b 4 4 = tieCrc b ∧ byteAt b 0 = 5 ∧ s.pairMember = true ∧ byteAt b 1 = s.partner ∧ byteAt b 2 = s.modIndex) ∧ ((s.net.relay ++ (b.drop 8).take (byteAt b 3)).length < 24)) ({ ported { relay := [1] } with elems := [(ea 0x50001 0, 1), (ea 0x50001 2, 9)] }) (0) (tieBlock 5 9 8) ({})) ∧
    ((fun (s : State) (l : Fin 2) => (s.up = true ∧ (s.net.lane l).up = true)) (ported {}) (0)) ∧
    ((fun (s : State) (l : Fin 2) => (s.up = true ∧ (s.net.lane l).up = false)) (ported {}) (1)) :=
  ⟨by decide +kernel, by decide +kernel, by decide +kernel, by decide +kernel, by decide +kernel, by decide +kernel, by decide +kernel, by decide +kernel, by decide +kernel, by decide +kernel, by decide +kernel, by decide +kernel, by decide +kernel, by decide +kernel, by decide +kernel, by decide +kernel, by decide +kernel, by decide +kernel, by decide +kernel, by decide +kernel, by decide +kernel⟩

/-- The hypotheses of RecorderStagesWritesMergesAndClears can be met, clause by clause. -/
theorem test_meets_RecorderStagesWritesMergesAndClears :
    ((fun (s : State) (_ : Offering) => (s.up = true ∧ s.evr.ready = true ∧ s.evr.staged.length < 4096)) (recording {}) ({ code := 0x6001, src := 0x0401, args := [9], rep := true, instant := some 55 })) ∧
    ((fun (s : State) (_ : Offering) => (s.up = true ∧ s.evr.ready = true ∧ 4096 ≤ s.evr.staged.length)) (recording { staged := List.replicate 4096 staged1, dropped := 4294967295 }) ({ code := 0x6001 })) ∧
    ((fun (s : State) => (s.evr.staged = [])) (recording {})) ∧
    ((fun (s : State) (o : Offer) (rest : List Offer) => (s.up = true ∧ s.evr.ready = true ∧ s.evr.staged = o :: rest ∧ s.evr.dropRun = 0 ∧ o.ext = 0 ∧ NoMerge s.evr o)) (recording { next := 524287 + 524288, recs := [(524287, { seq := 524287, upd := 4294967294 })], staged := [staged1, staged1] }) (staged1) ([staged1])) ∧
    ((fun (s : State) (o : Offer) (rest : List Offer) (q : Nat) => (s.up = true ∧ s.evr.ready = true ∧ s.evr.staged = o :: rest ∧ s.evr.dropRun = 0 ∧ o.rep = true ∧ o.ext = 0) ∧ (s.evr.merge.find? (fun m => (m.1, m.2.1, m.2.2.1) == (o.src, o.code, o.args)) = some (o.src, o.code, o.args, q) ∧ (s.evr.current (q % 524288)).seq = q ∧ s.evr.epochSeq ≤ q ∧ (s.evr.current (q % 524288)).pcyc = o.pcyc ∧ (s.evr.current (q % 524288)).ext = 0)) (recording { next := 9, recs := [(8, { seq := 8, code := 0x6001, src := 0x0401, pcyc := 7, args := [9], repeats := 4294967295 })], merge := [(5, 5, [], 2), (0x0401, 0x6001, [9], 8)], staged := [{ staged1 with rep := true }] }) ({ staged1 with rep := true }) ([]) (8)) ∧
    ((fun (s : State) (o : Offer) (rest : List Offer) (k : Nat) => (s.up = true ∧ s.evr.ready = true ∧ s.evr.staged = o :: rest ∧ s.evr.dropRun = 0 ∧ k < o.ext ∧ o.ext ≤ 3)) (recording { next := 524287, staged := [{ staged1 with ext := 3, rep := true }] }) ({ staged1 with ext := 3, rep := true }) ([]) (2)) ∧
    ((fun (s : State) (o : Offer) (rest : List Offer) => (s.up = true ∧ s.evr.ready = true ∧ s.evr.staged = o :: rest ∧ s.evr.dropRun ≠ 0)) (recording { staged := [staged1, staged1], dropRun := 3, dropped := 5, dropFirst := 1, dropLast := 2 }) (staged1) ([staged1])) ∧
    ((fun (s : State) (q : Nat) => (s.up = true ∧ s.evr.ready = true ∧ s.evr.flushAt + 4000000 ≤ s.mer.raw ∧ s.evr.unflushed = [(q % 524288, s.evr.current (q % 524288))])) (recording { flushAt := 3996000000, next := 9, recs := [(8, { seq := 8, repeats := 2, upd := 6 })], unflushed := [(8, { seq := 8, repeats := 4, upd := 6 })] }) (8)) ∧
    ((fun (s : State) => (s.mer.raw < s.evr.flushAt + 4000000)) (recording { flushAt := 3996000001 })) ∧
    ((fun (s : State) (_ : Who) (k : Nat) => (s.up = true ∧ s.mode.lifeCycle ≠ .retired ∧ s.leg.grant = some k ∧ s.evr.staged = [])) ({ recording { next := 524287, epochSeq := 3, recs := [(5, { seq := 5 })] } with leg := { grant := some 6 } }) (asker 2) (6)) ∧
    ((fun (s : State) (_ : Who) (k : Nat) (o : Offer) => (s.up = true ∧ s.mode.lifeCycle ≠ .retired ∧ s.leg.grant = some k ∧ s.evr.staged = [o] ∧ s.evr.dropRun = 0 ∧ o.ext = 0 ∧ o.rep = false)) ({ recording { next := 20, epochSeq := 3, staged := [staged1] } with leg := { grant := some 6 } }) (asker 2) (6) (staged1)) ∧
    ((fun (s : State) (who : Who) => (s.up = true ∧ s.mode.lifeCycle ≠ .retired ∧ s.leg.grant = none ∧ who.token = none)) (recording {}) (asker 2)) ∧
    ((fun (s : State) => (s.up = true ∧ s.evr.ready = true)) (recording { epochSeq := 9, wipeLeft := 5 })) :=
  ⟨by decide +kernel, by decide +kernel, by decide +kernel, by decide +kernel, by decide +kernel, by decide +kernel, by decide +kernel, by decide +kernel, by decide +kernel, by decide +kernel, by decide +kernel, by decide +kernel, by decide +kernel⟩

/-- The hypotheses of CartoucheUpdatesPanelsAndTakesKeys can be met, clause by clause. -/
theorem test_meets_CartoucheUpdatesPanelsAndTakesKeys :
    ((fun (s : State) (_ : Agent) => (s.up = true ∧ s.crt.update = none ∧ 4200 ≤ s.crt.reserveMv ∧ s.pwr.pfail = false)) (plated { band := 4, markSeq := 4294967295, fp := { changed := 20, band := 4, interrupted := true } }) (.cc1)) ∧
    ((fun (s : State) (_ : Agent) => (s.up = true ∧ (s.crt.update.isSome = true ∨ s.crt.reserveMv < 4200))) ({ mode := { phase := .up, mode := .run }, crt := { reserveMv := 4199 } }) (.cc1)) ∧
    ((fun (s : State) (_ : Agent) => (s.up = true ∧ (s.crt.update.isSome = true ∨ s.crt.reserveMv < 4200) ∧ s.crt.present = true ∧ (field s.crt.extCfg 1 0 = 1 ∨ field s.crt.extCfg 1 0 = 2))) (plated { present := true, extCfg := 2, update := some { external := false, full := true, band := 0, at_ := 0 } }) (.cc1)) ∧
    ((fun (s : State) (_ : Agent) => (s.up = true ∧ s.crt.update = none ∧ 4200 ≤ s.crt.reserveMv ∧ s.pwr.pfail = false ∧ s.crt.present = true ∧ field s.crt.extCfg 1 0 = 1 ∧ s.crt.fp.held = false)) (plated { present := true, extCfg := 1 + 4 * 800 + 4096 * 600 }) (.cc1)) ∧
    ((fun (s : State) (_ : Agent) => (s.up = true ∧ s.crt.update = none ∧ 4200 ≤ s.crt.reserveMv ∧ s.pwr.pfail = false ∧ s.crt.present = true ∧ field s.crt.extCfg 1 0 = 2 ∧ s.crt.fp.held = false)) (plated { present := true, extCfg := 2 + 4 * 480 + 4096 * 272 }) (.cc1)) ∧
    ((fun (s : State) (_ : Agent) => (s.up = true ∧ (s.crt.present = false ∨ field s.crt.extCfg 1 0 = 0 ∨ field s.crt.extCfg 1 0 = 3))) (plated { extCfg := 1 }) (.cc1)) ∧
    ((fun (s : State) (u : Update) => (s.crt.update = some u ∧ s.crt.late = [] ∧ s.crt.fp.held = false ∧ s.crt.ext.held = false ∧ s.mode.phase ≠ .off)) (plated { update := some { external := false, full := true, band := 0, at_ := 0, last := 299, frame := [(29999, 255)] } }) ({ external := false, full := true, band := 0, at_ := 0, last := 299, frame := [(29999, 255)] })) ∧
    ((fun (s : State) (u : Update) => (s.up = true ∧ s.crt.update = some u ∧ s.crt.late = [] ∧ s.crt.fp.held = true ∧ 4200 ≤ s.crt.reserveMv ∧ s.pwr.pfail = false)) (plated { fp := { held := true }, ext := { held := true }, update := some { external := true, full := true, band := 0, at_ := 0 } }) ({ external := true, full := true, band := 0, at_ := 0 })) ∧
    ((fun (s : State) => (s.crt.update = none)) (plated {})) ∧
    ((fun (s : State) => (s.up = true ∧ s.pwr.pfail = false ∧ s.crt.update = none ∧ s.crt.fp.held = true)) ({ mode := { phase := .up, mode := .run }, crt := { reserveMv := 4100, fp := { held := true } } })) ∧
    ((fun (s : State) => (s.up = true ∧ s.crt.update = none ∧ s.crt.fp.held = false ∧ s.crt.ext.held = false)) ({ mode := { phase := .up, mode := .run }, crt := { reserveMv := 4100 } })) ∧
    ((fun (s : State) (u : Update) => (s.crt.update = some u ∧ s.crt.late = [])) ({ plated { update := some { external := true, full := true, band := 0, at_ := 0 }, markState := 1 } with mode := { phase := .off } }) ({ external := true, full := true, band := 0, at_ := 0 })) ∧
    ((fun (s : State) (mF : Nat) => (s.up = true ∧ mF < 380)) (plated {}) (379)) ∧
    ((fun (s : State) (mF : Nat) => (s.up = true ∧ 380 ≤ mF ∧ mF < 65536)) (plated {}) (380)) ∧
    ((fun (s : State) (temp : Int) (k : Fin 8) => (s.up = true ∧ (k.val = 0 ∨ [-250, -100, 0, 100, 250, 400, 600].getD (k.val - 1) 0 ≤ temp) ∧ (k.val = 7 ∨ temp < [-250, -100, 0, 100, 250, 400, 600].getD k.val 0 - 20))) (plated { band := 5 }) (229) (4)) ∧
    ((fun (s : State) (temp : Int) (k : Fin 8) => (s.up = true ∧ s.crt.band = k ∧ (k.val = 0 ∨ [-250, -100, 0, 100, 250, 400, 600].getD (k.val - 1) 0 - 20 ≤ temp) ∧ (k.val = 7 ∨ temp < [-250, -100, 0, 100, 250, 400, 600].getD k.val 0))) (plated { band := 5 }) (230) (5)) ∧
    ((fun (s : State) (_ : Fin 3) (_ : Bool) => (s.up = true ∧ s.crt.keys.length < 8)) (plated { keys := [0, 1, 2, 4, 5, 6, 0] }) (2) (true)) ∧
    ((fun (s : State) (_ : Fin 3) (_ : Bool) => (s.up = true ∧ 8 ≤ s.crt.keys.length)) (plated { keys := [0, 1, 2, 4, 5, 6, 0, 1] }) (2) (true)) ∧
    ((fun (s : State) (_ : Agent) => (s.up = true ∧ s.crt.keys = [])) (plated {}) (.cc1)) ∧
    ((fun (s : State) (_ : Agent) (ks : List Nat) => (s.up = true ∧ s.crt.keys = 0 :: ks ∧ s.crt.update = none ∧ s.aio.plate = none ∧ s.mode.mode ≠ .service)) (plated { keys := [0, 5], page := 2, banner := true }) (.cc1) ([5])) ∧
    ((fun (s : State) (_ : Agent) (k : Nat) (ks : List Nat) => (s.up = true ∧ s.crt.keys = k :: ks ∧ s.crt.update.isSome = true)) (plated { keys := [6], update := some { external := false, full := true, band := 0, at_ := 0 } }) (.cc1) (6) ([])) ∧
    ((fun (s : State) (at_ : Nat) => (s.up = true ∧ s.crt.lastFp = some at_ ∧ s.mer.raw < at_ + 800000000)) (plated { lastFp := some 3200000001 }) (3200000001)) ∧
    ((fun (s : State) => (s.up = true ∧ s.crt.lastFp.all (fun at_ => decide (at_ + 800000000 ≤ s.mer.raw)) = true ∧ s.crt.update = none ∧ 4200 ≤ s.crt.reserveMv ∧ s.pwr.pfail = false)) (plated { lastFp := some 3200000000 })) ∧
    ((fun (s : State) (who : Who) => (Asked s who 1 ∧ s.crt.update = none ∧ 4200 ≤ s.crt.reserveMv ∧ s.pwr.pfail = false ∧ s.crt.present = true ∧ field s.crt.extCfg 1 0 = 1)) (plated { present := true, extCfg := 1 + 4 * 800 + 4096 * 600 }) (asker 1)) ∧
    ((fun (s : State) (who : Who) => (s.up = true ∧ s.mode.lifeCycle ≠ .retired ∧ who.level.val = 0)) (plated {}) (asker 0)) :=
  ⟨by decide +kernel, by decide +kernel, by decide +kernel, by decide +kernel, by decide +kernel, by decide +kernel, by decide +kernel, by decide +kernel, by decide +kernel, by decide +kernel, by decide +kernel, by decide +kernel, by decide +kernel, by decide +kernel, by decide +kernel, by decide +kernel, by decide +kernel, by decide +kernel, by decide +kernel, by decide +kernel, by decide +kernel, by decide +kernel, by decide +kernel, by decide +kernel, by decide +kernel⟩

/-- The hypotheses of ClocksFallBackSwitchAndReturn can be met, clause by clause. -/
theorem test_meets_ClocksFallBackSwitchAndReturn :
    ((fun (s : State) (_ : Int) => (Charged s s.clk.xa ∧ s.clk.root = 0 ∧ s.clk.fastRc.ok = true)) (rooted 0 { aLock := true }) (-200000)) ∧
    ((fun (s : State) (_ : Int) => (Charged s s.clk.xa ∧ s.clk.root ≠ 0)) (rooted 2 { aLock := true, switching := some 0 }) (0)) ∧
    ((fun (s : State) (_ : Int) => (Charged s s.clk.xb ∧ s.clk.root = 1 ∧ s.clk.fastRc.ok = true)) (rooted 1 { aLock := true, aRef := 1 }) (0)) ∧
    ((fun (s : State) (_ : Int) => (Charged s s.clk.xb ∧ s.clk.root ≠ 1)) (rooted 0 { aLock := true }) (0)) ∧
    ((fun (s : State) (_ : Int) => (Charged s s.clk.fastRc ∧ (s.clk.root = 0 ∨ s.clk.root = 1) ∧ s.clk.switching = none)) (rooted 0 { aLock := true }) (0)) ∧
    ((fun (s : State) (_ : Int) => (Charged s s.clk.fastRc ∧ (s.clk.root = 2 ∨ s.clk.root = 4) ∧ s.clk.clkin.ok = true ∧ (field s.clk.ctrl 3 2 = 1 ∨ field s.clk.ctrl 3 2 = 2))) (rooted 2 { clkin := goodSource, ctrl := 8 }) (0)) ∧
    ((fun (s : State) (_ : Int) => (Charged s s.clk.fastRc ∧ (s.clk.root = 2 ∨ s.clk.root = 4) ∧ (s.clk.clkin.ok = false ∨ field s.clk.ctrl 3 2 = 0))) (rooted 2 { clkin := goodSource }) (0)) ∧
    ((fun (s : State) (_ : Int) => (Charged s s.clk.clkin ∧ s.clk.root = 3 ∧ (field s.clk.ctrl 3 2 = 1 ∨ field s.clk.ctrl 3 2 = 2))) (rooted 3 { clkin := goodSource, ctrl := 4 }) (0)) ∧
    ((fun (s : State) (_ : Int) => (Charged s s.clk.slowRc)) (rooted 2 {}) (0)) ∧
    ((fun (s : State) (src : Fin 5) (_ : Int) => ((s.clk.source src).failed = true ∨ (s.clk.source src).window = true)) (rooted 2 {}) (4) (0)) ∧
    ((fun (s : State) (_ : Int) => (Clocked s ∧ s.clk.xb.window = true ∧ s.clk.xb.failed = false)) ({ rooted 2 {} with clk := { xb := { running := true } } }) (-620)) ∧
    ((fun (s : State) (src : Fin 5) (_ : Int) => (s.clk.source src = { s.clk.source src with window := false } ∨ src.val < 2)) (rooted 2 {}) (0) (0)) ∧
    ((fun (s : State) => (Clocked s ∧ s.clk.xb.window = true ∧ s.clk.xb.failed = false ∧ s.clk.root ≠ 1)) ({ rooted 2 {} with clk := { xb := { running := true } } })) ∧
    ((fun (s : State) (src : Fin 5) => (s.clk.source src = { s.clk.source src with window := false } ∨ src.val < 2)) (rooted 2 {}) (3)) ∧
    ((fun (s : State) => (Clocked s ∧ s.clk.aLock = true ∧ (s.clk.root = 0 ∨ s.clk.root = 1) ∧ s.clk.fastRc.ok = true ∧ (s.recentRetries 0).length < s.el 0x10031 0 3)) (rooted 0 { aLock := true })) ∧
    ((fun (s : State) => (Clocked s ∧ s.clk.aLock = true ∧ (s.clk.root = 0 ∨ s.clk.root = 1) ∧ s.clk.fastRc.ok = true ∧ s.el 0x10031 0 3 ≤ (s.recentRetries 0).length)) ({ rooted 0 { aLock := true } with elems := [(ea 0x10031 0, 0)] })) ∧
    ((fun (s : State) => (Clocked s ∧ s.clk.bLock = true)) (rooted 0 { aLock := true, bLock := true })) ∧
    ((fun (s : State) (_ : Fin 4) (_ : Bool) (_ rc _ : Int) => (s.clk.switching = some 2 ∧ s.clk.root = 0 ∧ s.clk.xa.ok = false) ∧ (0 < 100000000 + rc ∧ (1099511627776 + s.mer.rho) * 100000000 ≤ (1099511627776 + 2147483647) * (100000000 + rc) ∧ (1099511627776 - 2147483648) * (100000000 + rc) ≤ (1099511627776 + s.mer.rho) * 100000000)) ({ rooted 0 { switching := some 2 } with clk := { switching := some 2, root := 0 } }) (3) (true) (-620) (1400) (0)) ∧
    ((fun (s : State) (_ : Fin 4) (_ : Bool) (xb rc _ : Int) => (s.clk.switching = some 1 ∧ s.clk.root = 2) ∧ (0 < 100000000 + xb ∧ (1099511627776 + s.mer.rho) * (100000000 + rc) ≤ (1099511627776 + 2147483647) * (100000000 + xb) ∧ (1099511627776 - 2147483648) * (100000000 + xb) ≤ (1099511627776 + s.mer.rho) * (100000000 + rc))) (rooted 2 { switching := some 1, aLock := true, aRef := 1 }) (3) (false) (-620) (1400) (0)) ∧
    ((fun (s : State) (_ : Fin 4) (_ : Bool) (_ _ _ : Int) => (s.clk.switching = none)) (rooted 2 {}) (0) (false) (0) (0) (0)) ∧
    ((fun (s : State) => (Clocked s ∧ s.clk.aCoast = true ∧ s.clk.aStuck = false ∧ (if s.clk.aRef = 0 then s.clk.xa.ok = true else s.clk.xb.ok = true))) (rooted 2 { aCoast := true, aRef := 1 })) ∧
    ((fun (s : State) => (s.clk.aCoast = false ∨ s.clk.aStuck = true)) (rooted 2 { aCoast := true, aRef := 1, aStuck := true })) ∧
    ((fun (s : State) (since : Nat) => (Clocked s ∧ s.clk.aLock = true ∧ s.clk.switching = none ∧ s.clk.returnFrom = some since ∧ since + 400000 ≤ s.mer.raw)) (rooted 2 { aLock := true, aRef := 1, returnFrom := some 3999600000 }) (3999600000)) ∧
    ((fun (s : State) => (s.clk.returnFrom = none ∨ s.clk.returnFrom.all (fun since => decide (s.mer.raw < since + 400000)) = true)) (rooted 2 { aLock := true, aRef := 1, returnFrom := some 3999600001 })) ∧
    ((fun (s : State) (_ : Int) (code : Nat) => (Clocked s ∧ s.clk.fastRc.failed = false ∧ s.clk.xa.ok = true ∧ (s.clk.root = 0 ∨ s.clk.root = 1 ∨ s.clk.root = 3) ∧ code < 2 ^ 20)) (rooted 0 {}) (5000) (1048575)) ∧
    ((fun (s : State) (step : Int) (code : Nat) => (Clocked s ∧ s.clk.fastRc.failed = false ∧ s.clk.xa.ok = true ∧ (s.clk.root = 2 ∨ s.clk.root = 4) ∧ code < 2 ^ 20 ∧ s.clk.trimAt + 400000000 ≤ s.mer.raw ∧ step.natAbs ≤ 1000) ∧ ((1099511627776 + s.mer.rho) * 100000000 ≤ (1099511627776 + 2147483647) * (100000000 + step) ∧ (1099511627776 - 2147483648) * (100000000 + step) ≤ (1099511627776 + s.mer.rho) * 100000000)) (rooted 2 {}) (-1000) (7)) ∧
    ((fun (s : State) (step : Int) (_ : Fin 3) (_ : Nat) => ((s.clk.root = 2 ∨ s.clk.root = 4) ∧ s.mer.raw < s.clk.trimAt + 400000000 ∧ 1000 < s.clk.trimUsed + step.natAbs)) (rooted 2 { trimAt := 4000000000, trimUsed := 1000 }) (-1) (0) (7)) :=
  ⟨by decide +kernel, by decide +kernel, by decide +kernel, by decide +kernel, by decide +kernel, by decide +kernel, by decide +kernel, by decide +kernel, by decide +kernel, by decide +kernel, by decide +kernel, by decide +kernel, by decide +kernel, by decide +kernel, by decide +kernel, by decide +kernel, by decide +kernel, by decide +kernel, by decide +kernel, by decide +kernel, by decide +kernel, by decide +kernel, by decide +kernel, by decide +kernel, by decide +kernel, by decide +kernel, by decide +kernel⟩

/-- The hypotheses of MemoryErrorsHandoverAndTamper can be met, clause by clause. -/
theorem test_meets_MemoryErrorsHandoverAndTamper :
    ((fun (s : State) (_ : Fin 49) (w : Nat) => (Clocked s ∧ w < 65536)) ({ powered with mem := { sramCe := 4294967295 } }) (48) (65535)) ∧
    ((fun (s : State) (_ : Nat) => (Clocked s)) (powered) (9)) ∧
    ((fun (s : State) (_ : Nat) => (Clocked s)) (powered) (9)) ∧
    ((fun (s : State) (b : Fin 49) (w : Nat) => (Clocked s ∧ w < 65536 ∧ b.val < 16 ∧ Table.find s.mem.lastUe (b * 524288 + w * 8) = none)) ({ powered with mem := { lastUe := [(8, 5)] } }) (15) (65535)) ∧
    ((fun (s : State) (b : Fin 49) (w : Nat) => (Clocked s ∧ w < 65536 ∧ 16 ≤ b.val ∧ b.val < 20 ∧ Table.find s.mem.lastUe (b * 524288 + w * 8) = none)) (powered) (19) (65535)) ∧
    ((fun (s : State) (b : Fin 49) (w : Nat) => (Clocked s ∧ w < 65536 ∧ 24 ≤ b.val ∧ b.val < 36 ∧ Table.find s.mem.lastUe (b * 524288 + w * 8) = none)) (powered) (35) (65535)) ∧
    ((fun (s : State) (b : Fin 49) (w : Nat) => (Clocked s ∧ w < 65536 ∧ (36 ≤ b.val ∨ (20 ≤ b.val ∧ b.val < 24)))) (powered) (48) (65535)) ∧
    ((fun (s : State) (b : Fin 49) (w : Nat) (at_ : Nat) => (Clocked s ∧ w < 65536 ∧ Table.find s.mem.lastUe (b * 524288 + w * 8) = some at_ ∧ s.mer.raw < at_ + 4000000000)) ({ powered with mem := { lastUe := [(8, 36000000001)] } }) (0) (1) (36000000001)) ∧
    ((fun (s : State) (_ : EccSite) (_ : Bool) => (s.mode.phase = .off ∨ s.mode.phase = .charging ∨ s.mode.phase = .held)) ({}) (.dram 5) (true)) ∧
    ((fun (s : State) (agent : Agent) (k : Fin 4) (_ : Fin 8) => (s.up = true ∧ k.val ≠ 1 ∧ (s.mem.own k).owner = agent.code)) (powered) (.cc0) (3) (1)) ∧
    ((fun (s : State) (agent : Agent) (k : Fin 4) (_ : Fin 8) => (s.up = true ∧ (k.val = 1 ∨ (s.mem.own k).owner ≠ agent.code))) (powered) (.triad) (0) (1)) ∧
    ((fun (s : State) (_ : Fin 4) => (s.up = true)) (powered) (3)) ∧
    ((fun (s : State) (_ : Nat) => (Clocked s)) (powered) (2)) :=
  ⟨by decide, by decide, by decide, by decide, by decide, by decide, by decide, by decide, by decide, by decide, by decide, by decide, by decide⟩

/-- The hypotheses of SupplyInputsAndPowerDownFollowTheirRules can be met, clause by clause. -/
theorem test_meets_SupplyInputsAndPowerDownFollowTheirRules :
    ((fun (s : State) (mv : Nat) => (Clocked s ∧ s.pwr.inaOk = true ∧ mv < 17000)) (powered) (16999)) ∧
    ((fun (s : State) (mv : Nat) => (Clocked s ∧ s.pwr.inbOk = true ∧ mv < 17000)) (powered) (0)) ∧
    ((fun (s : State) (i : Fin 2) (mv : Nat) => (s.pwr.ok i = false ∨ 17000 ≤ mv)) (powered) (1) (17000)) ∧
    ((fun (s : State) (mv : Nat) => (Clocked s ∧ s.pwr.inaOk = false ∧ 18000 ≤ mv)) ({ powered with pwr := {} }) (18000)) ∧
    ((fun (s : State) (mv : Nat) => (Clocked s ∧ s.pwr.inbOk = false ∧ 18000 ≤ mv)) ({ powered with pwr := {} }) (18000)) ∧
    ((fun (s : State) (mv : Nat) => (Clocked s ∧ s.pwr.inaIso = false ∧ 34000 < mv)) (powered) (34001)) ∧
    ((fun (s : State) (mv : Nat) => (Clocked s ∧ s.pwr.inbIso = false ∧ 34000 < mv)) (powered) (34001)) ∧
    ((fun (s : State) (mv : Nat) => (Clocked s ∧ s.pwr.inbIso = true ∧ mv < 33000)) ({ powered with pwr := { inbIso := true } }) (32999)) ∧
    ((fun (s : State) (i : Fin 2) (mv : Nat) => (s.pwr.iso i = false ∨ 33000 ≤ mv)) ({ powered with pwr := { inbIso := true } }) (1) (33000)) ∧
    ((fun (s : State) => (s.mode.phase = .up ∨ s.mode.phase = .boot)) (powered)) ∧
    ((fun (s : State) => (s.mode.phase = .charging ∨ s.mode.phase = .held)) ({ mode := { phase := .held } })) ∧
    ((fun (s : State) => (s.mode.phase = .off ∨ s.mode.phase = .pfail)) ({ mode := { phase := .pfail } })) ∧
    ((fun (s : State) => (s.mode.phase = .pfail)) ({ powered with mode := { phase := .pfail } })) ∧
    ((fun (s : State) (o : Offer) => (s.mode.phase = .pfail ∧ s.evr.staged = [o] ∧ s.evr.dropRun = 0 ∧ o.rep = false ∧ o.ext = 0)) ({ powered with mode := { phase := .pfail }, evr := { next := 9, staged := [staged1] } }) (staged1)) ∧
    ((fun (s : State) => (s.mode.phase ≠ .pfail)) (powered)) ∧
    ((fun (s : State) (ina inb : Nat) => (s.mode.phase = .off ∧ s.pwr.inserted = true ∧ (18000 ≤ ina ∨ 18000 ≤ inb))) ({}) (0) (18000)) ∧
    ((fun (s : State) (ina inb : Nat) => (s.mode.phase ≠ .off ∨ s.pwr.inserted = false ∨ (ina < 18000 ∧ inb < 18000))) ({}) (17999) (17999)) ∧
    ((fun (s : State) => (s.pwr.inserted = false ∧ s.mode.phase = .off ∧ (18000 ≤ s.pwr.ina ∨ 18000 ≤ s.pwr.inb))) ({ pwr := { inserted := false, inb := 18000 } })) ∧
    ((fun (s : State) => (s.pwr.inserted = false ∧ s.mode.phase = .off ∧ s.pwr.ina < 18000 ∧ s.pwr.inb < 18000)) ({ pwr := { inserted := false } })) ∧
    ((fun (s : State) => (s.mode.phase = .up ∨ s.mode.phase = .boot)) (powered)) ∧
    ((fun (s : State) => (s.mode.phase = .off ∨ s.mode.phase = .pfail)) ({})) ∧
    ((fun (s : State) (_ : Agent) (code : Nat) => (s.up = true ∧ 1 ≤ code ∧ code ≤ 10)) (powered) (.cc1) (10)) ∧
    ((fun (_ : State) (_ : Agent) (code : Nat) => (code = 0 ∨ (11 ≤ code ∧ code < 16))) (powered) (.cc1) (11)) :=
  ⟨by decide +kernel, by decide +kernel, by decide +kernel, by decide +kernel, by decide +kernel, by decide +kernel, by decide +kernel, by decide +kernel, by decide +kernel, by decide +kernel, by decide +kernel, by decide +kernel, by decide +kernel, by decide +kernel, by decide +kernel, by decide +kernel, by decide +kernel, by decide +kernel, by decide +kernel, by decide +kernel, by decide +kernel, by decide +kernel, by decide +kernel⟩

/-- The hypotheses of RegistersAliasesSnapshotsAndTriplicatedFields can be met, clause by clause. -/
theorem test_meets_RegistersAliasesSnapshotsAndTriplicatedFields :
    ((fun (s : State) (_ : Agent) (addr _ : Nat) (width : Fin 4) => (s.up = true ∧ 0x40000000 ≤ addr ∧ addr < 0x40100000 ∧ addr % 2 ^ width.val ≠ 0)) (locked) (.cc1) (0x400FFFFE) (5) (2)) ∧
    ((fun (s : State) (_ : Agent) (f o _ : Nat) => (s.up = true ∧ ((21 ≤ f ∧ f < 0x80) ∨ (0x95 ≤ f ∧ f < 0x100)) ∧ o < 0x1000 ∧ o % 4 = 0)) (locked) (.triad) (21) (0xFFC) (5)) ∧
    ((fun (s : State) (_ : Agent) (f o _ : Nat) => (s.up = true ∧ 0x80 ≤ f ∧ f < 0x95 ∧ o < 0x1000 ∧ o % 4 = 0)) (locked) (.cc0) (0x94) (0) (5)) ∧
    ((fun (s : State) (_ : Agent) (f o _ : Nat) (width : Fin 2) => (s.up = true ∧ f < 21 ∧ o < 0x1000 ∧ o % 2 ^ width.val = 0 ∧ (regDesc f (o / 4 * 4)).isSome = true)) (locked) (.cc0) (20) (0x2A) (5) (1)) ∧
    ((fun (s : State) (_ : Agent) (k : Nat) => (s.up = true ∧ k < 2 ^ 32 ∧ s.sys.tmr = [])) (locked) (.cc0) (2048 + 2000)) ∧
    ((fun (s : State) (_ : Agent) (value : Nat) => (s.up = true ∧ value < 2 ^ 32 ∧ s.sys.tmr = [])) (locked) (.cc0) (0xFFFFFFFF)) ∧
    ((fun (s : State) (_ : Agent) (value : Nat) => (s.up = true ∧ value < 2 ^ 32 ∧ s.sys.tmr = [])) (locked) (.cc1) (255)) ∧
    ((fun (s : State) (_ : Agent) (_ : Fin 32) (value : Nat) => (s.up = true ∧ s.sys.armed = true ∧ s.sys.window = false ∧ value < 2 ^ 32)) (locked) (.triad) (31) (0)) ∧
    ((fun (s : State) (_ : Agent) (_ : Fin 32) (value : Nat) => (s.up = true ∧ (s.sys.armed = false ∨ s.sys.window = true) ∧ value < 2 ^ 32 ∧ s.sys.tmr = [])) ({ locked with sys := { armed := true, window := true } }) (.triad) (31) (0xFFFFFFFF)) ∧
    ((fun (s : State) (_ : Agent) (value : Nat) => (s.up = true ∧ s.sys.armed = true ∧ s.sys.window = false ∧ value < 2 ^ 32 ∧ s.sys.tmr = [] ∧ s.clk.ctrl < 128)) ({ locked with clk := { ctrl := 4 } }) (.cc0) (7)) ∧
    ((fun (s : State) (_ : Agent) (value : Nat) => (s.up = true ∧ s.sys.assetWritten = false ∧ value < 2 ^ 64)) (locked) (.cc0) (7)) ∧
    ((fun (s : State) (_ : Agent) (_ : Nat) => (s.up = true ∧ s.sys.assetWritten = true)) ({ locked with sys := { assetWritten := true } }) (.cc0) (7)) ∧
    ((fun (s : State) (_ : Agent) (_ : Fin 8) (_ : Nat) => (s.up = true ∧ s.mode.mode ≠ .service)) ({ locked with sys := {} }) (.cc0) (7) (7)) ∧
    ((fun (s : State) (agent : Agent) (value : Nat) => (s.up = true ∧ agent ≠ .triad ∧ value < 2 ^ 32)) (locked) (.cc0) (7)) ∧
    ((fun (s : State) (agent : Agent) (value high : Nat) => (s.up = true ∧ agent ≠ .triad ∧ value < 2 ^ 32 ∧ Table.find (s.sys.bank agent).heldHigh 0x3C = some high)) ({ locked with sys := { cc1 := { heldHigh := [(0x3C, 9)] } } }) (.cc1) (7) (9)) ∧
    ((fun (s : State) (value : Nat) => (s.up = true ∧ value < 2 ^ 32 ∧ s.sys.snapAt < 2 ^ 64)) (locked) (7)) ∧
    ((fun (s : State) (_ : Agent) (value : Nat) => (s.up = true ∧ value < 2 ^ 64)) (locked) (.triad) (2 ^ 64 - 1)) ∧
    ((fun (s : State) (_ : Agent) (_ : Fin 2) (_ : Nat) => (s.up = true ∧ s.tri.ctrl < 4 ∧ s.sys.tmr = [])) (locked) (.cc0) (1) (3)) ∧
    ((fun (s : State) (_ : Agent) (_ : Fin 3) (_ : Nat) => (s.up = true ∧ s.sys.tmr = [])) ({ locked with evr := { pend := 7 } }) (.cc0) (2) (1)) ∧
    ((fun (s : State) (_ : Agent) (_ : Fin 32) (_ : Nat) => (s.up = true)) (locked) (.cc0) (31) (1)) ∧
    ((fun (s : State) (_ : Agent) (o : Nat) (_ : Fin 32) (_ : Nat) => (s.up = true ∧ o < 0x100000 ∧ (o % 4 ≠ 0 ∨ regDesc (o / 0x1000) (o % 0x1000) = none))) (locked) (.cc0) (0xFFFFC) (31) (1)) ∧
    ((fun (s : State) (_ : Agent) => (s.up = true ∧ s.sys.snapArmed = false ∧ s.sys.snapBusy = false ∧ (s.sys.snapAt = 0 ∨ (s.now + 5000 ≤ toSigned 64 s.sys.snapAt ∧ toSigned 64 s.sys.snapAt ≤ s.now + 10000000000)))) ({ locked with sys := { snapAt := 10000005000 } }) (.cc0)) ∧
    ((fun (s : State) (_ : Agent) => (s.up = true ∧ s.sys.snapArmed = false ∧ s.sys.snapBusy = false ∧ toSigned 64 s.sys.snapAt ≠ 0 ∧ (toSigned 64 s.sys.snapAt < s.now + 5000 ∨ s.now + 10000000000 < toSigned 64 s.sys.snapAt))) ({ locked with sys := { snapAt := 10000004999 } }) (.cc0)) ∧
    ((fun (s : State) (_ : Agent) => (s.up = true ∧ (s.sys.snapArmed = true ∨ s.sys.snapBusy = true))) ({ locked with sys := { snapBusy := true } }) (.cc0)) ∧
    ((fun (s : State) (who : Who) (instant : MTime) => (Asked s who 1 ∧ s.sys.snapArmed = false ∧ s.sys.snapBusy = false ∧ s.now + 5000 ≤ instant ∧ instant ≤ s.now + 10000000000 ∧ instant ≠ 0)) (locked) (asker 1) (20000000000)) ∧
    ((fun (s : State) (who : Who) (instant : MTime) => (Asked s who 1 ∧ s.sys.snapArmed = false ∧ s.sys.snapBusy = false ∧ instant ≠ 0 ∧ (instant < s.now + 5000 ∨ s.now + 10000000000 < instant))) (locked) (asker 1) (20000000001)) ∧
    ((fun (s : State) (who : Who) (_ : MTime) => (Asked s who 1 ∧ s.sys.snapArmed = true ∧ s.now ≤ s.sys.snapDue)) ({ locked with sys := { snapArmed := true, snapDue := 10000000001 } }) (asker 2) (0)) ∧
    ((fun (s : State) => (s.up = true ∧ s.sys.snapArmed = true ∧ s.sys.snapDue ≤ s.now)) ({ locked with sys := { snapArmed := true, snapDue := 10000000000 } })) ∧
    ((fun (s : State) => (s.sys.snapArmed = false ∨ s.now < s.sys.snapDue)) ({ locked with sys := { snapArmed := true, snapDue := 10000000001 } })) ∧
    ((fun (s : State) => (s.up = true ∧ s.sys.snapBusy = true)) ({ locked with sys := { snapBusy := true, snapSeq := 65535, latched := [(4, 5)] } })) ∧
    ((fun (s : State) => (s.sys.snapBusy = false)) (locked)) ∧
    ((fun (s : State) (k x y : Nat) => (s.up = true ∧ s.sys.tmr = [] ∧ (k = 0x000C ∨ k = 0x0010 ∨ k = 0x100C ∨ k = 0x4024 ∨ k = 0x600C ∨ k = 0x6010) ∧ s.regRead s.sys.triad (k / 0x1000) (k % 0x1000) = x ∧ y ≠ x)) (locked) (0x6010) (0xFFFF) (0xFFFE)) ∧
    ((fun (s : State) (k x y z : Nat) => (s.up = true ∧ s.sys.tmr = [] ∧ (k = 0x000C ∨ k = 0x0010 ∨ k = 0x100C ∨ k = 0x4024 ∨ k = 0x600C ∨ k = 0x6010) ∧ x ≠ y ∧ y ≠ z ∧ x ≠ z ∧ s.openFault? 0 0xF003 k = none)) (locked) (0x100C) (200) (201) (202)) ∧
    ((fun (s : State) (_ _ : Nat) => (s.up = true ∧ s.sys.tmr = [])) (locked) (0x100C) (200)) :=
  ⟨by decide +kernel, by decide +kernel, by decide +kernel, by decide +kernel, by decide +kernel, by decide +kernel, by decide +kernel, by decide +kernel, by decide +kernel, by decide +kernel, by decide +kernel, by decide +kernel, by decide +kernel, by decide +kernel, by decide +kernel, by decide +kernel, by decide +kernel, by decide +kernel, by decide +kernel, by decide +kernel, by decide +kernel, by decide +kernel, by decide +kernel, by decide +kernel, by decide +kernel, by decide +kernel, by decide +kernel, by decide +kernel, by decide +kernel, by decide +kernel, by decide +kernel, by decide +kernel, by decide +kernel, by decide +kernel⟩

/-- The hypotheses of AStepRunsTheFrontCommandOrOneTick can be met. -/
theorem test_meets_AStepRunsTheFrontCommandOrOneTick :
    (fun s : State => s.pending = [.tamper 1, .pfail]) { pending := [.tamper 1, .pfail] } ∧
    (fun s : State => s.pending = [] ∧ s.mer.running = true ∧ s.red.staged = [] ∧ -(2 ^ 31) ≤ s.mer.rho ∧ s.mer.rho < 2 ^ 31)
      { mer := { running := true, opTicks := 399999, rho := 2147483647 } } ∧
    (fun s : State => s.pending = [] ∧ s.mer.running = false) State.reset := by decide

/-- The hypotheses of CommandsCompleteExactlyWhereWellFormed can be met. -/
theorem test_meets_CommandsCompleteExactlyWhereWellFormed :
    (fun c : Instr => c.wf = true) (.goFp .cc1) ∧ (fun c : Instr => c.wf = false) (.bitAliasWrite .cc1 0x4A000000 1) := by decide

/-- The hypotheses of MemoryStaysCanonical can be met. -/
theorem test_meets_MemoryStaysCanonical :
    (fun s t : State => MemOk s ∧ step s = .next t) { mem := { data := [(0x62000000, 1)] } } { mem := { data := [(0x62000000, 1)] } } := ⟨by decide, rfl⟩

/-- The hypotheses of RetiredIsFinal can be met. -/
theorem test_meets_RetiredIsFinal :
    (fun s t : State => s.mode.lifeCycle = .retired ∧ step s = .next t) { mode := { lifeCycle := .retired } } { mode := { lifeCycle := .retired } } := ⟨rfl, rfl⟩

/-- The hypotheses of TransitionsOutsideTable0203AreRefused can be met. -/
theorem test_meets_TransitionsOutsideTable0203AreRefused :
    (fun (s : State) (who : Who) (m : Mode) (c : Instr) => requestFor who m = some c ∧ ModeAsked s who 1 ∧ requestable s.mode.mode m = false ∧
      ¬(s.mode.mode = .stop ∧ m = .stop ∧ s.mode.applying = true)) (inMode .blank) (asker 1) .run (.modeRequestRun (asker 1)) ∧
    (fun (s : State) (who : Who) (m : Mode) (c : Instr) => requestFor who m = some c ∧ s.up = true ∧ s.mode.lifeCycle = .retired)
      { mode := { phase := .up, mode := .stop, lifeCycle := .retired } } (asker 2) .service (.modeRequestService (asker 2)) := by decide

end Sys2Proof.Tests
end

section
/-!
PROOFS. The task cycle and the release of digital outputs: what a change about one digital channel keeps, and the effect of the
freeze, the missed deadline and the release (O23).
-/
namespace Sys2Proof.Machine

/-- A map that keeps the keys acts on the entry found. -/
theorem Table.find_map_keys {α : Type} (t : Table α) (f : Nat × α → Nat × α) (hf : ∀ c, (f c).1 = c.1) (k : Nat) :
    Table.find (t.map f) k = (Table.find t k).map (fun x => (f (k, x)).2) := by
  induction t with
  | nil => rfl
  | cons c t ih =>
    obtain ⟨j, x⟩ := c
    have hj : f (j, x) = (j, (f (j, x)).2) := Prod.ext (hf _) rfl
    rw [List.map_cons, hj]
    simp only [Table.find]
    split
    · subst_vars; rfl
    · exact ih

/-! ## Digital channels (R269 to R286) -/

@[simp] theorem State.dioCh_updDio_same (s : State) (n : Nat) (f : DioChan → DioChan) : (s.updDio n f).dioCh n = f (s.dioCh n) :=
  Table.get_set_same ..

@[simp] theorem State.dioCh_updDio_other (s : State) {n k : Nat} (f : DioChan → DioChan) (h : k ≠ n) :
    (s.updDio n f).dioCh k = s.dioCh k := Table.get_set_other _ _ _ h

@[simp] theorem State.dioMode_updDio (s : State) (n k : Nat) (f : DioChan → DioChan) : (s.updDio n f).dioMode k = s.dioMode k := rfl

@[simp] theorem State.taskRun_updTask_same (s : State) (t : Nat) (f : TaskRun → TaskRun) : (s.updTask t f).taskRun t = f (s.taskRun t) :=
  Table.get_set_same ..

@[simp] theorem State.taskRun_updTask_other (s : State) {t k : Nat} (f : TaskRun → TaskRun) (h : k ≠ t) :
    (s.updTask t f).taskRun k = s.taskRun k := Table.get_set_other _ _ _ h

@[simp] theorem State.taskRec_updTask (s : State) (t k : Nat) (f : TaskRun → TaskRun) : (s.updTask t f).taskRec k = s.taskRec k := rfl

/-- Keeping a frozen record touches nothing of a task's run but its inset. -/
theorem State.taskRun_keepInsets (s : State) (p k : Nat) :
    ∃ i, (s.keepInsets p).taskRun k = { s.taskRun k with inset := i } := by
  unfold State.taskRun State.keepInsets Table.get
  rw [Table.find_map_keys _ _ (fun c => by dsimp only; split <;> rfl)]
  cases Table.find s.tsk.runs k with
  | none => exact ⟨[], rfl⟩
  | some r =>
    simp only [Option.map_some, Option.getD_some]
    split
    · exact ⟨_, rfl⟩
    · exact ⟨r.inset, rfl⟩

/-- A Survey write replaces the image, keeps what frozen insets need, and restores the words it covers (R18, R127, R423). -/
theorem State.surveyWrite_cases (s : State) (p value quality flags : Nat) (t : MTime) :
    s.surveyWrite p value quality flags t = s ∨ ∃ img, s.surveyWrite p value quality flags t =
      ({ s.keepInsets p with sur := { s.sur with image := img } } : State).restoreWords (16 * p) 16 := by
  unfold State.surveyWrite
  split
  · exact .inr ⟨_, rfl⟩
  · exact .inl rfl

theorem State.surveyWrite_only (s : State) (p value quality flags : Nat) (t : MTime) :
    OnlyIn [.mode, .tsk, .sur, .mem] s (s.surveyWrite p value quality flags t) := by
  obtain h | ⟨img, h⟩ := s.surveyWrite_cases p value quality flags t <;> rw [h]
  · exact OnlyIn.refl _ _
  · refine OnlyIn.step ?_ (State.restoreWords_only ..) (by decide)
    exact OnlyIn.upd (u := s.keepInsets p) rfl (fun q hq => by cases q <;> simp_all [Part.Same])
      ((State.keepInsets_only s p).mono (by decide))

/-- What a change about one digital channel keeps: the other channels, the configuration, memory, the command points and what the
tasks handed over. -/
structure AboutChannel (n : Nat) (s t : State) : Prop where
  only : OnlyIn [.mode, .tsk, .dio, .sur, .mem] s t
  data : t.mem.data = s.mem.data
  cmdPts : t.sur.cmdPts = s.sur.cmdPts
  run : ∀ k, ∃ i, t.taskRun k = { s.taskRun k with inset := i }
  others : ∀ k, k ≠ n → t.dioCh k = s.dioCh k
  cfg : t.dio.cfg = s.dio.cfg

theorem AboutChannel.refl (n : Nat) (s : State) : AboutChannel n s s :=
  ⟨OnlyIn.refl _ _, rfl, rfl, fun k => ⟨(s.taskRun k).inset, rfl⟩, fun _ _ => rfl, rfl⟩

theorem AboutChannel.trans {n : Nat} {s u t : State} (h : AboutChannel n s u) (k : AboutChannel n u t) : AboutChannel n s t where
  only := h.only.step k.only (fun _ q => q)
  data := k.data.trans h.data
  cmdPts := k.cmdPts.trans h.cmdPts
  run j := by
    obtain ⟨a, ha⟩ := h.run j
    obtain ⟨b, hb⟩ := k.run j
    exact ⟨b, by rw [hb, ha]⟩
  others j hj := (k.others j hj).trans (h.others j hj)
  cfg := k.cfg.trans h.cfg

theorem AboutChannel.each {α : Type} {n : Nat} {f : State → α → State} (h : ∀ s x, AboutChannel n s (f s x)) (s : State)
    (xs : List α) : AboutChannel n s (s.each xs f) := by
  induction xs generalizing s with
  | nil => exact AboutChannel.refl n s
  | cons x xs ih => exact (h s x).trans (ih (f s x))

theorem AboutChannel.mode_eq {n : Nat} {s t : State} (h : AboutChannel n s t) (k : Nat) : t.dioMode k = s.dioMode k := by
  unfold State.dioMode State.dioCfg; rw [h.cfg]

theorem State.updDio_about (s : State) (n : Nat) (f : DioChan → DioChan) : AboutChannel n s (s.updDio n f) :=
  ⟨(s.updDio_only n f).mono (by decide), rfl, rfl, fun k => ⟨(s.taskRun k).inset, rfl⟩, fun _ hk => s.dioCh_updDio_other f hk, rfl⟩

theorem State.setCond_about (s : State) (n d : Nat) (on : Bool) : AboutChannel n s (s.setCond n d on) := s.updDio_about n _

/-- A restored word changes neither the bytes nor the tables of points. -/
theorem State.restoreWords_data (s : State) (lo n : Nat) : (s.restoreWords lo n).mem.data = s.mem.data := by
  unfold State.restoreWords; dsimp only; split <;> rfl

theorem State.surveyWrite_about (s : State) (n p value quality flags : Nat) (t : MTime) :
    AboutChannel n s (s.surveyWrite p value quality flags t) := by
  have honly := s.surveyWrite_only p value quality flags t
  have hdio : (s.surveyWrite p value quality flags t).dio = s.dio := honly.2 .dio (by decide)
  obtain h | ⟨img, h⟩ := s.surveyWrite_cases p value quality flags t
  · rw [h]; exact AboutChannel.refl n s
  · have hrest := ({ s.keepInsets p with sur := { s.sur with image := img } } : State).restoreWords_only (16 * p) 16
    rw [← h] at hrest
    have hsur : (s.surveyWrite p value quality flags t).sur = { s.sur with image := img } := hrest.2 .sur (by decide)
    have htsk : (s.surveyWrite p value quality flags t).tsk = (s.keepInsets p).tsk := hrest.2 .tsk (by decide)
    refine ⟨honly.mono (by decide), by rw [h]; exact State.restoreWords_data .., by rw [hsur], fun k => ?_,
      fun k _ => by unfold State.dioCh; rw [hdio], by rw [hdio]⟩
    obtain ⟨i, hi⟩ := s.taskRun_keepInsets p k
    exact ⟨i, .trans (congrArg (fun x : TaskPart => Table.get x.runs {} k) htsk) hi⟩

theorem State.writeReadback_about (s : State) (n k : Nat) : AboutChannel k s (s.writeReadback n) :=
  AboutChannel.each (fun u _ => u.surveyWrite_about k ..) _ _

theorem State.writeReadback_only (s : State) (n : Nat) : OnlyIn [.mode, .tsk, .sur, .mem] s (s.writeReadback n) :=
  OnlyIn.each (fun u _ => u.surveyWrite_only ..) _ _

theorem State.dioCh_writeReadback (s : State) (n k : Nat) : (s.writeReadback n).dioCh k = s.dioCh k :=
  congrArg (fun d : DioPart => Table.get d.chans {} k) ((s.writeReadback_only n).2 .dio (by decide))

section SingleOutput
variable {s : State} {n : Nat}

/-- A single output is its own base. -/
theorem State.dioBase_single (h : s.dioMode n = 2) : s.dioBase n = n := by simp [State.dioBase, h]

/-- A single output is switched alone. -/
theorem State.dioUnit_single (h : s.dioMode n = 2) : s.dioUnit n = [n] := by simp [State.dioUnit, h]

theorem State.settleReadback_single (h : s.dioMode n = 2) :
    s.settleReadback n = (s.updDio n (fun c => { c with rb := s.dioDrive n })).writeReadback n := by
  simp [State.settleReadback, State.dioUnit_single h]

/-- The readback that settles leaves the command (R277). -/
theorem State.settleReadback_keeps (h : s.dioMode n = 2) :
    ((s.settleReadback n).dioCh n).cmd = (s.dioCh n).cmd ∧ AboutChannel n s (s.settleReadback n) := by
  rw [State.settleReadback_single h]
  exact ⟨by simp [State.dioCh_writeReadback], (s.updDio_about n _).trans (State.writeReadback_about ..)⟩

/-- With no unlatch pending, a single output takes the released command, and no other channel changes (R277). -/
theorem State.releaseDio_single (v : Bool) (h : s.dioMode n = 2) (hu : (s.dioCh n).unlatch = false) :
    ((s.releaseDio n v).dioCh n).cmd = v ∧ AboutChannel n s (s.releaseDio n v) := by
  have hun : s.doUnlatch n = s := by simp [State.doUnlatch, hu]
  have hout : s.dioIsOut n = true := by simp [State.dioIsOut, h]
  simp only [State.releaseDio, hout, if_true, State.dioBase_single h, State.dioUnit_single h, List.foldl_cons, List.foldl_nil, hun]
  generalize hu1 : (if (s.dioCh n).cmd = v then s else _) = u1
  have h1 : AboutChannel n s u1 := by
    subst hu1
    split
    · exact AboutChannel.refl n s
    · exact s.updDio_about n _
  have h2 : AboutChannel n s (u1.updDio n (fun c => { c with cmd := v })) := h1.trans (u1.updDio_about n _)
  rw [State.dioUnit_single ((h2.mode_eq n).trans h), List.foldl_cons, List.foldl_nil]
  cases v with
  | false =>
    obtain ⟨hcmd, habout⟩ := State.settleReadback_keeps ((h2.mode_eq n).trans h)
    exact ⟨by simpa using hcmd, h2.trans habout⟩
  | true =>
    have h3 := h2.trans (State.setCond_about _ n 1 false)
    obtain ⟨hcmd, habout⟩ := State.settleReadback_keeps ((h3.mode_eq n).trans h)
    exact ⟨by simpa [State.setCond] using hcmd, h3.trans habout⟩

end SingleOutput

/-- A BOOL released to a digital stage is its level. -/
theorem not_f64Eq_ofInt_zero {v : Nat} (h : v ≤ 1) : (!F64.eq (F64.ofInt v) 0) = (v == 1) := by
  obtain rfl | rfl : v = 0 ∨ v = 1 := by omega
  · decide +kernel
  · decide +kernel

/-! ## The task cycle (R126 to R135) -/

/-- In RUN, a latched cycle whose freeze instant has come is frozen (R126). -/
theorem execInputImageFreeze_due {s : State} {task : Fin 16} (hup : s.up = true) (hrun : s.mode.mode = .run)
    (hl : (s.taskRun task).latched = true) (hf : (s.taskRun task).freeze ≤ s.now) :
    execInputImageFreeze task s = .next (s.freezeTask task) := by
  simp [execInputImageFreeze, whenUp, State.cycles, *]

theorem State.taskRun_freezeTask (s : State) (t k : Nat) :
    (s.freezeTask t).taskRun k =
      (s.updTask t (fun x => { x with latched := false, frozen := true, inset := [], state := .running })).taskRun k := by
  unfold State.freezeTask State.readyUnit; dsimp only; split <;> rfl

theorem State.tri_freezeTask (s : State) (t : Nat) :
    (s.freezeTask t).tri = if s.tri.unit_ = .idle then { s.tri with unit_ := .task t }
      else { s.tri with preempted := s.tri.preempted ++ [.task t] } := by
  unfold State.freezeTask State.readyUnit; dsimp only; split <;> simp_all [State.updTask]

/-- In RUN, a busy cycle past its commit deadline is noted missed (R135). -/
theorem execTaskCommitDeadlineMissed_due {s : State} {task : Fin 16} (hup : s.up = true) (hrun : s.mode.mode = .run)
    (hb : (s.taskRun task).busy = true) (hm : (s.taskRun task).missed = false) (hd : s.taskDeadline task ≤ s.now) :
    execTaskCommitDeadlineMissed task s = .next
      (let u := s.updTask task (fun x => { x with missed := true, state := .late })
       if (u.taskRec task).ringOwner then u.repeatFrame task (s.taskRun task).c else u) := by
  simp [execTaskCommitDeadlineMissed, whenUp, *]

/-- The ring owner's output frame goes out once, and the exchange and its heads note it (R373). -/
theorem State.sendOutput_only (s : State) (owner : Nat) (release : MTime) (rep : Bool) :
    OnlyIn [.ring, .net, .sent] s (s.sendOutput owner release rep) := by
  unfold State.sendOutput
  split
  · exact OnlyIn.refl _ _
  · exact (((State.updExch_only ..).mono (by decide)).step (OnlyIn.each (fun u h => u.updHead_only h _) _ _) (by decide)).step
      (State.send_only ..) (by decide)

theorem State.sent_sendOutput (s : State) (owner : Nat) (release : MTime) (rep : Bool) (h : (s.exchHeads owner).isEmpty = false) :
    (s.sendOutput owner release rep).sent.length = s.sent.length + 1 := by
  have hheads : ∀ (u : State) (hs : List Nat),
      (u.each hs (fun s h => s.updHead h (fun x => { x with acked := false }))).sent = u.sent := fun u hs =>
    (OnlyIn.each (fun u h => u.updHead_only h _) u hs).2 .sent (by decide)
  simp [State.sendOutput, h, State.send, hheads, State.updExch]

theorem State.taskRun_repeatFrame (s : State) (t k : Nat) (c : MTime) : (s.repeatFrame t c).taskRun k = s.taskRun k :=
  congrArg (fun x : TaskPart => Table.get x.runs {} k) ((State.sendOutput_only ..).2 .tsk (by decide))

/-- With no command point placed on release, a digital value handed over is released to its stage (R131). -/
theorem State.releaseTaskOut_dio {s : State} {n v : Nat} (hv : v ≤ 1) (hm : s.dioMode n = 2)
    (hu : (s.dioCh n).unlatch = false) (hc : s.sur.cmdPts = []) :
    s.releaseTaskOut { chan := .dio n, value := v } = s.releaseDio n (v == 1) := by
  have hout : s.releaseOut { chan := .dio n, value := v } = s.releaseDio n (v == 1) := congrArg (s.releaseDio n) (not_f64Eq_ofInt_zero hv)
  simp [State.releaseTaskOut, hout, (State.releaseDio_single (v == 1) hm hu).2.cmdPts, hc, State.each]

/-- The state in which what a task handed over and is due is no longer handed over. -/
def State.withoutDue (s : State) (t : Nat) : State :=
  s.updTask t (fun x => { x with handed := x.handed.filter (fun h => !decide (h.at_ ≤ s.now)) })

/-- A single hand-over of one digital value, due: the value is released and nothing is handed over any more (R131). -/
theorem State.releaseHanded_dio {s : State} {t n v : Nat} {i : MTime} (hi : i ≤ s.now) (hv : v ≤ 1)
    (hh : (s.taskRun t).handed = [{ at_ := i, outs := [{ chan := .dio n, value := v }] }]) (hm : s.dioMode n = 2)
    (hu : (s.dioCh n).unlatch = false) (hc : s.sur.cmdPts = []) :
    s.releaseHanded t = (s.withoutDue t).releaseDio n (v == 1) := by
  simp only [State.releaseHanded, hh, State.each, List.filter_cons, hi, decide_true, if_true, List.filter_nil, List.foldl_cons,
    List.foldl_nil]
  exact State.releaseTaskOut_dio hv hm hu hc

/-- Where nothing is staged, no preset is applied. -/
theorem State.applyPresets_none {s : State} (h : s.red.staged = []) : s.applyPresets = s := by
  have hred : ({ s.red with staged := [] } : StationPart) = s.red := by rw [← h]
  simp [State.applyPresets, h, State.each, hred]

/-- Without a stop value waiting, a task's outputs are not stopped. -/
theorem State.stopOutputs_none {s : State} {t : Nat} (h : (s.taskRun t).stopAt = none) : s.stopOutputs t = s := by
  simp [State.stopOutputs, h]

theorem State.taskRun_withoutDue {s : State} {t : Nat} {i : MTime} {o : List OutVal} (hi : i ≤ s.now)
    (hh : (s.taskRun t).handed = [{ at_ := i, outs := o }]) :
    (s.withoutDue t).taskRun t = { s.taskRun t with handed := [] } := by
  simp [State.withoutDue, hh, hi]

/-- The release of a task that handed over one digital value, where nothing else waits for the instant (R131, R277). -/
theorem execOutputStageRelease_dio {s : State} {t : Fin 16} {n v : Nat} {i : MTime} (hup : s.up = true) (hi : i ≤ s.now) (hv : v ≤ 1)
    (hh : (s.taskRun t).handed = [{ at_ := i, outs := [{ chan := .dio n, value := v }] }]) (hs : (s.taskRun t).stopAt = none)
    (hm : s.dioMode n = 2) (hu : (s.dioCh n).unlatch = false) (hc : s.sur.cmdPts = []) (hg : s.red.staged = []) :
    execOutputStageRelease t s = .next ((s.withoutDue t).releaseDio n (v == 1)) := by
  have habout := (State.releaseDio_single (s := s.withoutDue t) (v == 1) hm hu).2
  obtain ⟨ins, hrun⟩ := habout.run t
  have hred : ((s.withoutDue t).releaseDio n (v == 1)).red = s.red := habout.only.2 .red (by decide)
  simp only [execOutputStageRelease, whenUp, hup, if_true, State.releaseHanded_dio hi hv hh hm hu hc]
  rw [State.stopOutputs_none (by rw [hrun, State.taskRun_withoutDue hi hh]; exact hs), State.applyPresets_none (by rw [hred]; exact hg)]

/-- Settles O23: the freeze, the missed deadline without and with the ring's frame, and the release of one digital value. -/
theorem taskCyclesFreezeMissAndRelease : Obligations.TaskCyclesFreezeMissAndRelease := by
  refine ⟨?_, ?_, ?_, ?_, ?_⟩
  · rintro s task ⟨hup, hrun, hl, hf, hidle⟩
    refine ⟨_, execInputImageFreeze_due hup hrun hl hf, ?_, ?_, fun k hk => ?_, (State.freezeTask_only ..).mono (by decide)⟩
    · rw [State.taskRun_freezeTask, State.taskRun_updTask_same]
    · rw [State.tri_freezeTask, if_pos hidle]
    · rw [State.taskRun_freezeTask, State.taskRun_updTask_other _ _ hk]
  · rintro s task ⟨hup, hrun, hl, hf, hbusy⟩
    refine ⟨_, execInputImageFreeze_due hup hrun hl hf, ?_, ?_, (State.freezeTask_only ..).mono (by decide)⟩
    · rw [State.taskRun_freezeTask, State.taskRun_updTask_same]
    · rw [State.tri_freezeTask, if_neg hbusy]
  · rintro s task ⟨hup, hrun, hb, hm, hd⟩ howner
    refine ⟨_, execTaskCommitDeadlineMissed_due hup hrun hb hm hd, ?_⟩
    simp only [State.taskRec_updTask, howner]
    exact ⟨State.taskRun_updTask_same .., State.updTask_only ..⟩
  · rintro s task ⟨hup, hrun, hb, hm, hd⟩ ⟨howner, hheads⟩
    refine ⟨_, execTaskCommitDeadlineMissed_due hup hrun hb hm hd, ?_⟩
    simp only [State.taskRec_updTask, howner, if_true]
    refine ⟨by simp [State.taskRun_repeatFrame], by simp [State.taskRun_repeatFrame], State.sent_sendOutput _ _ _ _ hheads, ?_⟩
    exact ((State.updTask_only ..).mono (by decide)).step (State.sendOutput_only ..) (by decide)
  · rintro s task n v i ⟨hup, hv, hi, hstaged, hcmd⟩ ⟨hhanded, hstop⟩ ⟨hmode, hunlatch⟩
    obtain ⟨hon, habout⟩ := State.releaseDio_single (s := s.withoutDue task) (n := n) (v == 1) hmode hunlatch
    obtain ⟨ins, hrun⟩ := habout.run task
    refine ⟨_, execOutputStageRelease_dio hup hi hv hhanded hstop hmode hunlatch hcmd hstaged, hon, ?_, habout.others, ?_,
      fun a => by rw [habout.data]; rfl⟩
    · rw [hrun, State.taskRun_withoutDue hi hhanded]
    · exact ((State.updTask_only ..).mono (by decide)).step habout.only (by decide)

end Sys2Proof.Machine
end

section
/-!
PROOFS. The Legend server's shared steps (events, answers, admission, requests) and the cascade: parts of other modules, the Datum's
operations, heartbeats and services (O39).
-/
namespace Sys2Proof.Machine

/-! ## Frames and events -/

/-- A change of the Legend part within a frame that lists it. -/
theorem OnlyIn.setLeg {l : List Part} {s u : State} (h : OnlyIn l s u) (hl : .leg ∈ l) (x : LegendPart) : OnlyIn l s { u with leg := x } :=
  ⟨h.1, fun p hp => (h.2 p hp).trans (by cases p with | leg => exact absurd hl hp | _ => rfl)⟩

/-- An event offered to a queue as it was before the command is among those the command offered, unless the queue was full. -/
theorem Records.offered {s u : State} (h : u.evr = s.evr) {o : Offer} {code : Nat} {args : List Nat} (hc : o.code = code)
    (ha : o.args = args) : Records s (u.offer o) code args := by
  unfold Records State.offer
  rw [h]
  split
  · exact fun _ => ⟨o, by simp, hc, ha⟩
  · intro hlt
    refine absurd hlt ?_
    dsimp only [RecorderPart.raise]
    split <;> assumption

theorem Records.evS {s u : State} (h : u.evr = s.evr) (code src : Nat) (args : List Nat) : Records s (u.evS code src args) code args :=
  Records.offered h rfl rfl

theorem Records.evRep {s u : State} (h : u.evr = s.evr) (code src : Nat) (args : List Nat) : Records s (u.evRep code src args) code args :=
  Records.offered h rfl rfl

theorem Records.fault {s u : State} (h : u.evr = s.evr) (fn code obj rung : Nat) (args : List Nat) :
    Records s (u.fault fn code obj rung args) code args := by
  unfold State.fault
  dsimp only
  split
  · exact Records.offered (by exact h) rfl rfl
  · split
    · exact Records.offered (by exact h) rfl rfl
    · exact Records.offered (by exact h) rfl rfl

theorem State.leg_evS (s : State) (code src : Nat) (args : List Nat) : (s.evS code src args).leg = s.leg :=
  (s.evS_only code src args).2 .leg (by decide)

/-- A violation is noted with its event, as FIRST or as REPEAT (R252). -/
theorem State.noteViolation_records {s u : State} (h : u.evr = s.evr) (src : Source_) (code arg : Nat) :
    Records s (u.noteViolation src code arg) code [arg] := by
  unfold State.noteViolation
  split
  · split
    · exact Records.evS (by exact h) _ _ _
    · exact Records.evRep h _ _ _
  · exact Records.evS (by exact h) _ _ _

theorem State.noteViolation_only (s : State) (src : Source_) (code arg : Nat) : OnlyIn [.leg, .evr] s (s.noteViolation src code arg) := by
  unfold State.noteViolation
  split
  · split
    · exact ((OnlyIn.refl [.leg, .evr] s).setLeg (by decide) _).step (State.evS_only ..) (by decide)
    · exact (State.evRep_only ..).mono (by decide)
  · exact ((OnlyIn.refl [.leg, .evr] s).setLeg (by decide) _).step (State.evS_only ..) (by decide)

theorem State.noteViolation_leg (s : State) (src : Source_) (code arg : Nat) :
    ∃ r, (s.noteViolation src code arg).leg = { s.leg with violRec := r } := by
  unfold State.noteViolation
  split
  · split
    · exact ⟨_, State.leg_evS ..⟩
    · exact ⟨s.leg.violRec, (State.evRep_only ..).2 .leg (by decide)⟩
  · exact ⟨_, State.leg_evS ..⟩

/-! ## Messages that leave -/

/-- What a message that leaves may change. -/
theorem State.deliver_only (s : State) (dst : Source_) (m : List Byte) : OnlyIn [.net, .can, .sent] s (s.deliver_ dst m) := by
  unfold State.deliver_
  split
  · exact (State.send_only ..).mono (by decide)
  · dsimp only
    split
    · exact OnlyIn.refl _ _
    · exact OnlyIn.each (fun u f => ((State.updCan_only ..).mono (by decide)).step (State.send_only ..) (by decide)) _ _
  · exact (State.send_only ..).mono (by decide)
  · exact (State.send_only ..).mono (by decide)

/-- The frames of a CAN message join what was sent, the last one newest. -/
theorem State.sent_each_canSend (s : State) (c id : Nat) (g : CanCtrl → CanCtrl) (l : List (List Byte)) :
    (s.each l (fun s f => (s.updCan c g).send (.can c id f))).sent = (l.map (OutMsg.can c id)).reverse ++ s.sent := by
  induction l generalizing s with
  | nil => rfl
  | cons f l ih => exact (ih _).trans (by simp [State.send, State.updCan])

/-- What leaves depends on the mode, the addresses, the controllers and what was sent before. -/
theorem State.sent_deliver_congr {s u : State} (dst : Source_) (m : List Byte) (hm : u.mode = s.mode) (he : u.elems = s.elems)
    (hc : u.can = s.can) (hs : u.sent = s.sent) : (u.deliver_ dst m).sent = (s.deliver_ dst m).sent := by
  cases dst with
  | udp a p => simp [State.deliver_, State.send, hs]
  | can c k =>
    have hctl : ∀ n, u.canCtl n = s.canCtl n := fun n => by simp only [State.canCtl, hc]
    have hmode : ∀ n, u.canMode n = s.canMode n := fun n => by simp only [State.canMode, hctl, hm]
    have hel : ∀ e n d, u.el e n d = s.el e n d := fun e n d => by simp only [State.el, he]
    simp only [State.deliver_, hmode, hctl, hel]
    split
    · exact hs
    · rw [State.sent_each_canSend, State.sent_each_canSend, hs]
  | program => simp [State.deliver_, State.send, hs]
  | peer i => simp [State.deliver_, State.send, State.el, hs, he]

/-! ## Answers -/

/-- Keep an answer for the session it belongs to, where its source has sessions, and send it (R244). -/
def State.keepAndSend (s : State) (src : Source_) (req out : List Byte) : State :=
  match src with
  | .udp _ _ | .can _ _ => (s.keepAnswer req out).deliver_ src out
  | _ => s.deliver_ src out

theorem State.reply_eq (s : State) (src : Source_) (req : List Byte) (st count : Nat) (payload : List Byte) :
    s.reply src req st count payload = s.keepAndSend src req (answerCode req st 0 count payload) := by
  cases src <;> rfl

theorem State.refuseKept_eq (s : State) (src : Source_) (req : List Byte) (a : Ans) :
    s.refuseKept src req a = s.keepAndSend src req (answerMsg req a.status 0 0 (leBytes 4 a.detail)) := State.reply_eq ..

/-- A whole request that was forwarded ends with the answer its target gave (R260). -/
theorem State.takePart_whole (s : State) {f : Forward} (h : f.whole = true) (idx : Nat) (pos : List Nat) (m : List Byte) :
    s.takePart f idx pos m = ((s.dropForward f.id).noteTime (some f.at_)).keepAndSend f.source f.head
      (answerCode f.head (byteAt m 16) (leAt m 18 2) (msgCount m) (msgPayload m)) := by
  unfold State.takePart
  simp only [h, if_true]
  cases f.source <;> rfl

/-- A whole request that was forwarded ends TIMEOUT (R247). -/
theorem State.timeoutForward_whole (s : State) {f : Forward} (h : f.whole = true) :
    s.timeoutForward f = ((s.dropForward f.id).noteTime (some f.at_)).keepAndSend f.source f.head
      (answerMsg f.head .timeout 0 0 (leBytes 4 0)) := by
  simp only [State.timeoutForward, h, if_true, State.refuseKept_eq]

theorem State.keepAndSend_only (s : State) (src : Source_) (req out : List Byte) :
    OnlyIn [.leg, .net, .sent, .can] s (s.keepAndSend src req out) := by
  unfold State.keepAndSend
  split
  · exact ((State.keepAnswer_only ..).mono (by decide)).step (State.deliver_only ..) (by decide)
  · exact ((State.keepAnswer_only ..).mono (by decide)).step (State.deliver_only ..) (by decide)
  · exact (State.deliver_only ..).mono (by decide)

/-- What the sessions keep is the only thing of the Legend that an answer changes. -/
theorem State.leg_keepAndSend (s : State) (src : Source_) (req out : List Byte) :
    ∃ x, (s.keepAndSend src req out).leg = { s.leg with sessions := x } := by
  have hkeep : ∃ x, (s.keepAnswer req out).leg = { s.leg with sessions := x } := by
    unfold State.keepAnswer
    split
    · exact ⟨_, rfl⟩
    · exact ⟨s.leg.sessions, rfl⟩
  have hsend : ∀ u : State, (u.deliver_ src out).leg = u.leg := fun u => (u.deliver_only src out).2 .leg (by decide)
  unfold State.keepAndSend
  split <;> simp only [hsend]
  · exact hkeep
  · exact hkeep
  · exact ⟨s.leg.sessions, rfl⟩

/-- An answer that leaves after changes of the Legend part and the free values alone is the one that would have left before. -/
theorem Replied.of_only {s u : State} (h : OnlyIn [.freeCtr, .leg] s u) (src : Source_) (req out : List Byte) :
    Replied s (u.keepAndSend src req out) src out := by
  have hsend : ∀ v : State, OnlyIn [.freeCtr, .leg] s v → (v.deliver_ src out).sent = (s.deliver_ src out).sent := fun v hv =>
    State.sent_deliver_congr src out (hv.2 .mode (by decide)) (hv.2 .elems (by decide)) (hv.2 .can (by decide)) (hv.2 .sent (by decide))
  have hkeep := hsend _ (h.step (u.keepAnswer_only req out) (by decide))
  unfold Replied State.keepAndSend
  split
  · exact hkeep
  · exact hkeep
  · exact hsend u h

/-! ## Outstanding requests -/

theorem State.forward?_id {s : State} {id : Nat} {f : Forward} (h : s.forward? id = some f) : f.id = id := by
  simpa using List.find?_some h

theorem State.forward?_dropForward (s : State) (id : Nat) : (s.dropForward id).forward? id = none := by
  simp [State.forward?, State.dropForward]

theorem State.noteTime_some_only (s : State) (t : Nat) : OnlyIn [.leg] s (s.noteTime (some t)) :=
  (OnlyIn.refl [.leg] s).setLeg (by decide) _

theorem State.noteTime_none_only (s : State) : OnlyIn [.freeCtr, .leg] s (s.noteTime none) := by
  have hdraw : OnlyIn [.freeCtr, .leg] s { s with freeCtr := s.freeCtr + 1 } :=
    ⟨rfl, fun p hp => by cases p with | freeCtr => exact absurd (by decide) hp | _ => rfl⟩
  exact hdraw.setLeg (by decide) _

/-- A whole forwarded request that is answered is answered to its source, and is outstanding no more. -/
theorem State.forward_answered (s : State) (f : Forward) (req out : List Byte) :
    let t := ((s.dropForward f.id).noteTime (some f.at_)).keepAndSend f.source req out
    Replied s t f.source out ∧ t.forward? f.id = none ∧ OnlyIn [.leg, .net, .sent, .can] s t := by
  have honly : OnlyIn [.leg] s ((s.dropForward f.id).noteTime (some f.at_)) :=
    (State.dropForward_only ..).step (State.noteTime_some_only ..) (by decide)
  obtain ⟨x, hx⟩ := ((s.dropForward f.id).noteTime (some f.at_)).leg_keepAndSend f.source req out
  refine ⟨Replied.of_only (honly.mono (by decide)) .., ?_, (honly.mono (by decide)).step (State.keepAndSend_only ..) (by decide)⟩
  unfold State.forward?
  rw [hx]
  exact s.forward?_dropForward f.id

/-! ## Admission -/

theorem State.setAsker_only (s : State) (src : Source_) (slot : Option Nat) (b : Bucket) : OnlyIn [.leg] s (s.setAsker src slot b) := by
  unfold State.setAsker
  split
  · exact (OnlyIn.refl _ _).setLeg (by decide) _
  · exact (OnlyIn.refl _ _).setLeg (by decide) _
  · exact State.updSession_only ..
  · exact (OnlyIn.refl _ _).setLeg (by decide) _

@[simp] theorem State.session_updSession (s : State) (i k : Nat) (f : Session → Session) :
    (s.updSession i f).session k = if k = i then f (s.session i) else s.session k := Table.get_set ..

theorem State.updSession_congr {s : State} {i : Nat} {f g : Session → Session} (h : f (s.session i) = g (s.session i)) :
    s.updSession i f = s.updSession i g := by
  unfold State.session at h
  simp only [State.updSession, Table.upd, h]

/-- The directory, the Datum and the states of the sessions are as before. -/
structure KeepsServer (s u : State) : Prop where
  directory : u.leg.directory = s.leg.directory
  datum : u.leg.datum = s.leg.datum
  state : ∀ k, (u.session k).state = (s.session k).state

theorem KeepsServer.trans {s u t : State} (h : KeepsServer s u) (k : KeepsServer u t) : KeepsServer s t :=
  ⟨k.directory.trans h.directory, k.datum.trans h.datum, fun i => (k.state i).trans (h.state i)⟩

theorem State.updSession_keeps (s : State) (i : Nat) {f : Session → Session} (h : (f (s.session i)).state = (s.session i).state) :
    KeepsServer s (s.updSession i f) := by
  refine ⟨rfl, rfl, fun k => ?_⟩
  rw [State.session_updSession]
  split
  · subst_vars; exact h
  · rfl

theorem State.noteTime_keeps (s : State) (t : Option Nat) : KeepsServer s (s.noteTime t) := by
  cases t <;> exact ⟨rfl, rfl, fun _ => rfl⟩

/-- A bucket is kept for its source or in its session. -/
theorem State.setAsker_keeps (s : State) (src : Source_) (slot : Option Nat) (b : Bucket) :
    KeepsServer s (s.setAsker src slot b) ∧ (s.setAsker src slot b).leg.admitted = s.leg.admitted := by
  unfold State.setAsker
  split
  · exact ⟨⟨rfl, rfl, fun _ => rfl⟩, rfl⟩
  · exact ⟨⟨rfl, rfl, fun _ => rfl⟩, rfl⟩
  · exact ⟨s.updSession_keeps _ rfl, rfl⟩
  · exact ⟨⟨rfl, rfl, fun _ => rfl⟩, rfl⟩

/-- Admission debits the two buckets and counts the request (R249). -/
theorem State.takeIn_ok {s u : State} {src : Source_} {slot : Option Nat} {ob : Bool} {cost : Nat}
    (h : s.takeIn src slot ob cost = .ok u) :
    OnlyIn [.leg] s u ∧ u.leg.admitted = s.leg.admitted + 1 ∧ KeepsServer s u := by
  -- `takeIn` is unfolded as a function, and its unit hidden, for the kernel's sake: see `State.admits_iff`.
  obtain ⟨b, x, hu⟩ : ∃ b x, u = { s.setAsker src slot b with
      leg := { (s.setAsker src slot b).leg with module := x, admitted := (s.setAsker src slot b).leg.admitted + 1 } } := by
    generalize htake : @State.takeIn = take at h
    delta State.takeIn at htake
    generalize bucketUnit = unit at htake
    subst htake
    dsimp -zeta only at h
    extract_lets need b own mod floor d1 d2 s1 at h
    split at h
    · exact ⟨_, _, (Except.ok.inj h).symm⟩
    · exact absurd h (by simp)
  obtain ⟨hkeeps, hadm⟩ := s.setAsker_keeps src slot b
  subst hu
  exact ⟨(State.setAsker_only ..).setLeg (by decide) _, congrArg (· + 1) hadm, hkeeps.directory, hkeeps.datum, hkeeps.state⟩

section Admitted
variable {s u : State} {src : Source_} {m : List Byte}

/- The definitions below are unfolded as functions, before they are applied: to compare an application with its unfolding the kernel
evaluates the match on `takeIn`, and recurses too deep in the buckets' numerals. -/

theorem State.admits_iff {slot : Option Nat} {ob : Bool} :
    s.admits src slot ob m = true ↔ ∃ u, s.takeIn src slot ob (s.costOf m) = .ok u := by
  generalize hadm : @State.admits = adm
  delta State.admits at hadm
  subst hadm
  dsimp only
  cases s.takeIn src slot ob (s.costOf m) <;> simp

theorem State.admitted_ok {slot : Option Nat} {ob : Bool} (h : s.takeIn src slot ob (s.costOf m) = .ok u) (f : State → State) :
    s.admitted src slot ob m f = f u := by
  generalize hadm : @State.admitted = adm
  delta State.admitted at hadm
  subst hadm
  dsimp only
  rw [h]

theorem State.refreshed_ok {i : Nat} (h : s.takeIn src (some i) ((s.session i).level == 0) (s.costOf m) = .ok u) :
    s.refreshed src i m = u.updSession i (fun x => { x with last := u.now, lastAt := if x.state = 2 then u.mer.raw else x.lastAt }) := by
  generalize href : @State.refreshed = ref
  delta State.refreshed at href
  subst href
  dsimp only
  rw [h]

theorem State.afterPeer_ok {idx : Nat} (h : s.takeIn (peerOf idx) none false (s.costOf m) = .ok u) :
    s.afterPeer idx m = u.noteTime none := by
  generalize haft : @State.afterPeer = aft
  delta State.afterPeer at haft
  subst haft
  dsimp only
  rw [h]

end Admitted

/-- A message that no check refuses is looked at as a request (R253). -/
theorem State.legendMessage_ok {s : State} {src : Source_} {m : List Byte} (hears : s.hears src = true) (hread : msgReadable m = true)
    (hfault : msgFault m false = none) (dec : Decoded) : s.legendMessage src m dec = s.request_ src m dec := by
  simp [State.legendMessage, hears, hread, hfault]

/-- A session that is named, not over and its source's is the one a request is served in (R239). -/
theorem State.useSession_ok {s : State} {src : Source_} {id i : Nat} (hfind : s.findSession id = some i)
    (hover : s.sessionOver (s.session i) = false) (hsrc : (s.session i).source = some src) : s.useSession src id = (.ok i, s) := by
  simp [State.useSession, hfind, hover, hsrc]

/-- A request of an open session is admitted, refreshes its session, and is served (R239, R249). -/
theorem State.legendMessage_served {s : State} {op : Nat} {src : Source_} {m : List Byte} {i : Nat} (h : Served s op src m i)
    (hop : 4 < op) (dec : Decoded) : s.legendMessage src m dec = (s.refreshed src i m).serve (s.askOf src m i dec) := by
  obtain ⟨⟨-, hclient, hears, hread, hfault, rfl, htarget⟩, ⟨hfind, hover, hsrc, hkept⟩, hopen, hadmits⟩ := h
  obtain ⟨u, hu⟩ := State.admits_iff.1 hadmits
  have h2 : msgOp m ≠ 2 := by omega
  have hsession : s.inSession { src := src, msg := m, items := askItems m 0, payload := msgPayload m, dec := dec } i =
      (s.refreshed src i m).serve (s.askOf src m i dec) := by
    simp only [State.inSession, hkept, hopen]
    rw [if_neg (by simp), if_neg h2, State.admitted_ok (u := u) (by simpa [h2] using hu)]
    have hstate := (State.takeIn_ok hu).2.2.state
    have hrefresh : u.updSession i (fun x => { x with last := u.now, lastAt := u.mer.raw }) = s.refreshed src i m :=
      (State.updSession_congr (by simp [hstate, hopen])).trans (State.refreshed_ok hu).symm
    rw [if_neg h2, hrefresh, if_neg (by simp; omega)]
    split
    · omega
    · omega
    · omega
    · rfl
  rw [State.legendMessage_ok hears hread hfault]
  cases src with
  | program => exact absurd hclient (by decide)
  | udp a p => simp only [State.request_, if_neg (show msgOp m ≠ 1 by omega), State.useSession_ok hfind hover hsrc, hsession]
  | can c k => simp only [State.request_, if_neg (show msgOp m ≠ 1 by omega), State.useSession_ok hfind hover hsrc, hsession]
  | peer k => exact absurd hclient (by simp [isClient])

/-- Looking at an admitted request has changed the Legend part, but neither the directory, the Datum nor a session's state. -/
theorem State.refreshed_keeps {s : State} {op : Nat} {src : Source_} {m : List Byte} {i : Nat} (h : Served s op src m i) :
    OnlyIn [.leg] s (s.refreshed src i m) ∧ KeepsServer s (s.refreshed src i m) := by
  obtain ⟨-, -, -, hadmits⟩ := h
  obtain ⟨u, hu⟩ := State.admits_iff.1 hadmits
  obtain ⟨honly, -, hkeeps⟩ := State.takeIn_ok hu
  rw [State.refreshed_ok hu]
  exact ⟨honly.step (State.updSession_only ..) (by decide), hkeeps.trans (State.updSession_keeps _ _ rfl)⟩

theorem State.afterAdmission_keeps {s : State} {op : Nat} {src : Source_} {m : List Byte} {i : Nat} (h : Served s op src m i) :
    OnlyIn [.freeCtr, .leg] s (s.afterAdmission src i m) ∧ KeepsServer s (s.afterAdmission src i m) := by
  obtain ⟨honly, hkeeps⟩ := State.refreshed_keeps h
  exact ⟨(honly.mono (by decide)).step (State.noteTime_none_only _) (by decide), hkeeps.trans (State.noteTime_keeps _ none)⟩

/-- A state that differs in the Legend part and the free values is the old one with those replaced. -/
theorem OnlyIn.eq_with {s u : State} (h : OnlyIn [.freeCtr, .leg] s u) : u = { s with freeCtr := u.freeCtr, leg := u.leg } := by
  obtain ⟨hpending, hsame⟩ := h
  have part (p : Part) (hp : p ∉ [Part.freeCtr, .leg] := by decide) : p.Same s u := hsame p hp
  cases u
  simp only [State.mk.injEq, true_and]
  exact ⟨hpending, part .mode, part .evr, part .sys, part .tri, part .mer, part .wpt, part .tsk, part .ring, part .cen, part .red,
    part .wit, part .net, part .sur, part .dio, part .aio, part .saf, part .can, part .crt, part .clk, part .mem, part .pwr,
    part .elems, part .sent⟩

theorem State.isDatum_congr {s u : State} (h : OnlyIn [.freeCtr, .leg] s u) : u.isDatum = s.isDatum := by rw [h.eq_with]; rfl

/-- The directory as it is answered depends on the Legend part through the records kept alone. -/
theorem State.dirRec_congr {s u : State} (h : OnlyIn [.freeCtr, .leg] s u) (hd : u.leg.directory = s.leg.directory) (i : Nat) :
    u.dirRec i = s.dirRec i := by
  rw [h.eq_with]
  unfold State.dirRec
  simp only [hd]
  rfl

theorem State.hashHolders_congr {s u : State} (h : OnlyIn [.freeCtr, .leg] s u) (hd : u.leg.directory = s.leg.directory) (x : Nat) :
    u.hashHolders x = s.hashHolders x := by
  simp only [State.hashHolders, State.dirRec_congr h hd]

/-! ## Operations of the Datum (R261) -/

/-- A client's well-formed message of an operation is that operation's command. -/
theorem legendOp_message {s : State} {op : Nat} {src : Source_} {m : List Byte} (h : Message s op src m) (dec : Decoded) :
    legendOp op src m dec s = .next (s.legendMessage src m dec) := by
  obtain ⟨hup, hclient, -, -, -, hop, -⟩ := h
  cases src with
  | peer k => exact absurd hclient (by simp [isClient])
  | program => exact absurd hclient (by simp [isClient])
  | udp a p => simp [legendOp, hop, whenUp, hup]
  | can c k => simp [legendOp, hop, whenUp, hup]

/-- A client's request for this module is run here. -/
theorem State.serve_here {s : State} {a : Ask} (ht : msgTarget a.msg = 0xFF) (hf : a.forwarded = false) : s.serve a = s.runHere a := by
  simp [State.serve, ht, hf]

theorem State.runHere_find {s : State} {a : Ask} (h : msgOp a.msg = 0x22) :
    s.runHere a = s.atDatum a (fun s => (s.noteTime none).opFind a) := by simp [State.runHere, h]

theorem State.runHere_directory {s : State} {a : Ask} (h : msgOp a.msg = 0x23) :
    s.runHere a = s.atDatum a (fun s => (s.noteTime none).opDirectory a) := by simp [State.runHere, h]

/-- Where no Datum answers, its operations are refused (R261). -/
theorem State.atDatum_none {s : State} {a : Ask} (hd : s.isDatum = false) (hn : s.leg.datum = 0xFF) (f : State → State) :
    s.atDatum a f = s.refuseAsk a { status := .noDatum } := by simp [State.atDatum, State.datumNow, hd, hn]

theorem State.atDatum_here {s : State} {a : Ask} (hd : s.isDatum = true) (f : State → State) : s.atDatum a f = f s := by
  simp [State.atDatum, hd]

/-- An answer that fits is kept and sent. -/
theorem State.answerAsk_fits (s : State) (a : Ask) (st n : Nat) {payload : List Byte} (h : payload.length ≤ 1440) :
    s.answerAsk a st n payload = s.keepAndSend a.src a.msg (answerCode a.msg st 0 n payload) := by
  rw [State.answerAsk, if_neg (by omega), State.reply_eq]

/-- A name that one present module holds is found there (R261). -/
theorem State.opFind_one {s : State} {a : Ask} {it : List Byte} {x : Nat} (hi : a.items = [it]) (h0 : leAt it 0 8 ≠ 0)
    (hx : s.hashHolders (leAt it 0 8) = [x]) :
    s.opFind a = s.keepAndSend a.src a.msg (answerMsg a.msg .ok 0 1 (leBytes 1 0 ++ leBytes 3 0 ++ leBytes 4 x)) := by
  have hitems : s.opFind a = s.answerItems a [leBytes 1 0 ++ leBytes 3 0 ++ leBytes 4 x] := by
    simp [State.opFind, hi, h0, hx]
  rw [hitems]
  exact s.answerAsk_fits a _ _ (by simp [leBytes])

@[simp] theorem length_leBytes (n v : Nat) : (leBytes n v).length = n := by
  induction n generalizing v with
  | zero => rfl
  | succ n ih => simp [leBytes, ih]

/-- A directory record is 32 bytes, so that 45 fill an answer. -/
theorem DirRec.length_bytes (r : DirRec) : r.bytes.length = 32 := by simp [DirRec.bytes]

/-- The records an index gives, as many as one answer holds (R261). -/
def State.dirBytes (s : State) (i : Nat) : List Byte := (upto (min 45 (64 - i))).flatMap (fun k => (s.dirRec (i + k)).bytes)

theorem State.length_dirBytes (s : State) (i : Nat) : (s.dirBytes i).length ≤ 1440 := by
  simp only [State.dirBytes, List.length_flatMap, DirRec.length_bytes, upto, List.map_const', List.length_range,
    List.sum_replicate_nat]
  omega

theorem State.opDirectory_ok (s : State) {a : Ask} (h : byteAt (a.items.headD []) 0 < 64) :
    s.opDirectory a = s.keepAndSend a.src a.msg
      (answerMsg a.msg .ok 0 (min 45 (64 - byteAt (a.items.headD []) 0)) (s.dirBytes (byteAt (a.items.headD []) 0))) := by
  rw [State.opDirectory, if_neg (by omega)]
  exact s.answerAsk_fits a _ _ (s.length_dirBytes _)

theorem State.dirBytes_congr {s u : State} (h : OnlyIn [.freeCtr, .leg] s u) (hd : u.leg.directory = s.leg.directory) (i : Nat) :
    u.dirBytes i = s.dirBytes i := by simp only [State.dirBytes, State.dirRec_congr h hd]

/-- An answer after an admitted request: sent as from the state before, the directory kept. -/
theorem State.answered_keeps {s u : State} (h : OnlyIn [.freeCtr, .leg] s u) (hk : KeepsServer s u) (src : Source_) (req out : List Byte) :
    Replied s (u.keepAndSend src req out) src out ∧ (u.keepAndSend src req out).leg.directory = s.leg.directory ∧
      OnlyIn [.freeCtr, .evr, .net, .leg, .can, .sent] s (u.keepAndSend src req out) := by
  obtain ⟨x, hx⟩ := u.leg_keepAndSend src req out
  exact ⟨Replied.of_only h .., by rw [hx]; exact hk.directory, (h.mono (by decide)).step (State.keepAndSend_only ..) (by decide)⟩

/-- SURVEY_FIND at the Datum, for a name that one present module holds. -/
theorem State.legendMessage_find {s : State} {src : Source_} {m : List Byte} {i x : Nat} (h : Served s 0x22 src m i) (hd : s.isDatum = true)
    (hn : (askItems m 0).length = 1) (h0 : leAt (item0 m) 0 8 ≠ 0) (hx : s.hashHolders (leAt (item0 m) 0 8) = [x]) :
    s.legendMessage src m {} = (s.afterAdmission src i m).keepAndSend src m
      (answerMsg m .ok 0 1 (leBytes 1 0 ++ leBytes 3 0 ++ leBytes 4 x)) := by
  obtain ⟨⟨-, -, -, -, -, hop, htarget⟩, -⟩ := id h
  obtain ⟨hrefresh, -⟩ := State.refreshed_keeps h
  obtain ⟨honly, hkeeps⟩ := State.afterAdmission_keeps h
  obtain ⟨it, hit⟩ := List.length_eq_one_iff.1 hn
  rw [State.legendMessage_served h (by decide), State.serve_here htarget rfl, State.runHere_find hop,
    State.atDatum_here ((State.isDatum_congr (hrefresh.mono (by decide))).trans hd)]
  refine State.opFind_one (it := item0 m) (by simp [hit]) h0 ?_
  exact (State.hashHolders_congr honly hkeeps.directory _).trans hx

/-- DIRECTORY at the Datum. -/
theorem State.legendMessage_directory {s : State} {src : Source_} {m : List Byte} {i : Nat} (h : Served s 0x23 src m i)
    (hd : s.isDatum = true) (hi : byteAt (item0 m) 0 < 64) :
    s.legendMessage src m {} = (s.afterAdmission src i m).keepAndSend src m
      (answerMsg m .ok 0 (min 45 (64 - byteAt (item0 m) 0)) (s.dirBytes (byteAt (item0 m) 0))) := by
  obtain ⟨⟨-, -, -, -, -, hop, htarget⟩, -⟩ := id h
  obtain ⟨hrefresh, -⟩ := State.refreshed_keeps h
  obtain ⟨honly, hkeeps⟩ := State.afterAdmission_keeps h
  rw [State.legendMessage_served h (by decide), State.serve_here htarget rfl, State.runHere_directory hop,
    State.atDatum_here ((State.isDatum_congr (hrefresh.mono (by decide))).trans hd),
    ← State.dirBytes_congr honly hkeeps.directory]
  exact State.opDirectory_ok _ hi

/-- SURVEY_FIND where no Datum answers. -/
theorem State.legendMessage_find_noDatum {s : State} {src : Source_} {m : List Byte} {i : Nat} (h : Served s 0x22 src m i)
    (hd : s.isDatum = false) (hn : s.leg.datum = 0xFF) :
    s.legendMessage src m {} = (s.refreshed src i m).keepAndSend src m (answerMsg m .noDatum 0 0 (leBytes 4 0)) := by
  obtain ⟨⟨-, -, -, -, -, hop, htarget⟩, -⟩ := id h
  obtain ⟨hrefresh, hkeeps⟩ := State.refreshed_keeps h
  rw [State.legendMessage_served h (by decide), State.serve_here htarget rfl, State.runHere_find hop,
    State.atDatum_none ((State.isDatum_congr (hrefresh.mono (by decide))).trans hd) (hkeeps.datum.trans hn)]
  exact State.refuseKept_eq ..

/-! ## Parts of other modules (R260) -/

/-- The answer to an admitted part is sent as from the state before, and the part is counted. -/
theorem State.part_answered {s : State} {k : Nat} {m : List Byte} (h : s.admits (peerOf k) none false m = true) (out : List Byte) :
    Replied s ((s.afterPeer k m).keepAndSend (peerOf k) m out) (peerOf k) out ∧
      ((s.afterPeer k m).keepAndSend (peerOf k) m out).leg.admitted = s.leg.admitted + 1 ∧
      OnlyIn [.freeCtr, .leg, .net, .sent, .can] s ((s.afterPeer k m).keepAndSend (peerOf k) m out) := by
  obtain ⟨u, hu⟩ := State.admits_iff.1 h
  obtain ⟨honly, hcount, -⟩ := State.takeIn_ok hu
  obtain ⟨x, hleg⟩ := (s.afterPeer k m).leg_keepAndSend (peerOf k) m out
  have hpeer : OnlyIn [.freeCtr, .leg] s (s.afterPeer k m) := by
    rw [State.afterPeer_ok hu]
    exact (honly.mono (by decide)).step (State.noteTime_none_only _) (by decide)
  refine ⟨Replied.of_only hpeer .., ?_, (hpeer.mono (by decide)).step (State.keepAndSend_only ..) (by decide)⟩
  rw [hleg, State.afterPeer_ok hu]
  exact hcount

section Parts
variable {s : State} {idx : Fin 64} {m : List Byte}

theorem execForwardedRequestReceived_eq (hup : s.up = true) (hidx : byteAt m 17 = idx) (dec : Decoded) :
    execForwardedRequestReceived idx m dec s = .next (s.forwardedMessage idx m dec) := by
  simp [execForwardedRequestReceived, whenUp, hup, hidx]

/-- A part whose tag is bad is counted and noted, and otherwise dropped. -/
theorem State.forwardedMessage_badTag (hr : s.tri.cc0.inReset = false) (hu : s.leg.udpUp = true) (hm : msgReadable m = true)
    (ht : s.partTagOk m = false) (dec : Decoded) (k : Nat) : s.forwardedMessage k m dec =
      ({ s with leg := { s.leg with viol := satInc 32 s.leg.viol } } : State).noteViolation (peerOf k) 0xA812 (byteAt m 17) := by
  simp [State.forwardedMessage, hr, hu, hm, ht]

/-- A READ part is read on this module, whatever its target but the cluster. -/
theorem State.serve_read_part {a : Ask} (ht : msgTarget a.msg ≠ 0xFE) (hop : msgOp a.msg = 0x10) (hf : a.forwarded = true) :
    s.serve a = (s.noteTime none).opRead a := by
  simp [State.serve, State.runHere, isWriteOp, ht, hop, hf]

/-- A READ part is read here and answered to its forwarder. -/
theorem State.forwardedMessage_read (hr : s.tri.cc0.inReset = false) (hu : s.leg.udpUp = true) (hm : msgReadable m = true)
    (ht : s.partTagOk m = true) (hf : msgFault m true = none) (hop : msgOp m = 0x10) (htarget : msgTarget m ≠ 0xFE) {k : Nat}
    (ha : s.admits (peerOf k) none false m = true) (dec : Decoded) {l : List (List Byte)}
    (hl : l = (askItems m 8).map (fun it => readBytes ((s.afterPeer k m).readItem (eaEntry (leAt it 0 4)) (eaElem (leAt it 0 4)))))
    (hfit : l.flatten.length ≤ 1440) :
    s.forwardedMessage k m dec = (s.afterPeer k m).keepAndSend (peerOf k) m
      (answerCode m (headStatus (l.map (fun it => byteAt it 0))) 0 l.length l.flatten) := by
  obtain ⟨u, hadm⟩ := State.admits_iff.1 ha
  simp only [State.forwardedMessage, hr, hu, hm, ht, hf]
  rw [State.admitted_ok hadm]
  simp only [hop]
  refine (State.serve_read_part htarget hop rfl).trans ?_
  rw [← State.afterPeer_ok hadm, State.opRead, ← hl]
  exact State.answerAsk_fits _ _ _ _ hfit

end Parts

section Commands
variable {s : State}

theorem State.elapsed_iff {since n : Nat} : s.elapsed since n = true ↔ since + n ≤ s.mer.raw := by simp [State.elapsed]

/-- The answer a module owes completes a request that was forwarded to it whole. -/
theorem execForwardedAnswerReceived_whole {m : List Byte} {idx : Fin 64} {f : Forward} (hup : s.up = true)
    (hr : s.tri.cc0.inReset = false) (hm : msgReadable m = true) (hresp : bitOf (msgFlags m) 0 = true)
    (hf : s.forward? (msgReqId m) = some f) (hw : f.whole = true) (hp : f.parts = [(idx.val, [])]) (hop : msgOp f.head = msgOp m) :
    execForwardedAnswerReceived idx m s = .next (((s.dropForward f.id).noteTime (some f.at_)).keepAndSend f.source f.head
      (answerCode f.head (byteAt m 16) (leAt m 18 2) (msgCount m) (msgPayload m))) := by
  rw [← State.takePart_whole s hw idx [] m]
  simp [execForwardedAnswerReceived, whenUp, hup, State.forwardedAnswer, hr, hm, hresp, hf, hp, hop]

/-- 20 ms after it was forwarded whole, a request without an answer times out (R247). -/
theorem execForwardTimeout_whole {id : Nat} {f : Forward} (hup : s.up = true) (hf : s.forward? id = some f) (hw : f.whole = true)
    (hq : f.q = none) (hd : f.at_ + 8000000 ≤ s.mer.raw) :
    execForwardTimeout id s = .next (((s.dropForward f.id).noteTime (some f.at_)).keepAndSend f.source f.head
      (answerMsg f.head .timeout 0 0 (leBytes 4 0))) := by
  have hdue : s.forwardDue f = true := by simp [State.forwardDue, hq, State.elapsed, ticksMs, hd]
  simp only [execForwardTimeout, whenUp, hup, hf, hdue, if_true, State.timeoutForward_whole s hw]

/-! ## Heartbeats (R29, R261) -/

/-- 100 ms after the last, a heartbeat goes to the module that serves or is named as Datum. -/
theorem execDirectoryHeartbeatSend_due (hup : s.up = true) (hr : s.tri.cc0.inReset = false) (hd : s.isDatum = false)
    (hn : s.datumName ≠ 0xFF) (hb : s.leg.lastBeat + 40000000 ≤ s.mer.raw) :
    execDirectoryHeartbeatSend s =
      .next (({ s with leg := { s.leg with lastBeat := s.mer.raw } } : State).send (.heartbeat s.beatTo s.ownDirectory.fields)) := by
  have hlate : s.elapsed s.leg.lastBeat (ticksMs 100) = true := State.elapsed_iff.2 hb
  have hdatum : ({ s with leg := { s.leg with lastBeat := s.mer.raw } } : State).isDatum = false := hd
  have hname : ({ s with leg := { s.leg with lastBeat := s.mer.raw } } : State).datumName ≠ 0xFF := hn
  simp only [execDirectoryHeartbeatSend, whenUp, hup, hr, hlate, hdatum, hname]
  rfl

/-- The Datum keeps a heartbeat's record and acknowledges it. -/
theorem execDirectoryHeartbeatReceived_datum (hup : s.up = true) (hr : s.tri.cc0.inReset = false) (hd : s.isDatum = true)
    (idx : Fin 64) (b : Beat) : execDirectoryHeartbeatReceived idx b s = .next
      (({ s with leg := { s.leg with directory := Table.put s.leg.directory idx.val (s.beatRec b) } } : State).send (.heartbeatAck idx.val)) := by
  simp [execDirectoryHeartbeatReceived, whenUp, hup, hr, hd]

/-- The Datum marks a module absent 500 ms after its last heartbeat. -/
theorem execDirectoryModuleAbsent_due {idx : Fin 64} (hup : s.up = true) (hd : s.isDatum = true) (hi : idx.val ≠ s.modIndex)
    (h1 : (Table.get s.leg.directory {} idx.val).state = 1) (ha : (Table.get s.leg.directory {} idx.val).seenAt + 200000000 ≤ s.mer.raw) :
    execDirectoryModuleAbsent idx s = .next
      (({ s with leg := { s.leg with directory := Table.put s.leg.directory idx.val { Table.get s.leg.directory {} idx.val with state := 2 } } } :
        State).evS 0xA822 0x0601 [idx.val]) := by
  have hlate : s.elapsed (Table.get s.leg.directory {} idx.val).seenAt (ticksMs 500) = true := State.elapsed_iff.2 ha
  simp [execDirectoryModuleAbsent, whenUp, hup, hd, hi, h1, hlate]

theorem execHeartbeatAckReceived_eq (hup : s.up = true) (hr : s.tri.cc0.inReset = false) (idx : Fin 64) :
    execHeartbeatAckReceived idx s = .next
      (let u : State := { s with leg := { s.leg with datum := idx.val, datumAck := s.mer.raw, datumLost := false } }
       if s.leg.datumLost then u.evS 0xA821 0x0601 [idx.val] else u) := by
  simp [execHeartbeatAckReceived, whenUp, hup, hr]

/-- A module loses the Datum 500 ms after the last acknowledgement. -/
theorem execDatumLost_due (hup : s.up = true) (hd : s.isDatum = false) (hn : s.datumName ≠ 0xFF) (hl : s.leg.datumLost = false)
    (ha : s.leg.datumAck + 200000000 ≤ s.mer.raw) :
    execDatumLost s = .next (({ s with leg := { s.leg with datum := 0xFF, datumLost := true } } : State).evS 0xA820 0x0601 []) := by
  have hlate : s.elapsed s.leg.datumAck (ticksMs 500) = true := State.elapsed_iff.2 ha
  simp [execDatumLost, whenUp, hup, hd, hn, hl, hlate]

/-! ## Services (R263) -/

@[simp] theorem State.service_updService_same (s : State) (v : Nat) (f : Service → Service) :
    Table.get (s.updService v f).leg.services {} v = f (Table.get s.leg.services {} v) := Table.get_set_same ..

@[simp] theorem State.service_updService_other (s : State) {v k : Nat} (f : Service → Service) (h : k ≠ v) :
    Table.get (s.updService v f).leg.services {} k = Table.get s.leg.services {} k := Table.get_set_other _ _ _ h

/-- A unit that becomes ready runs or waits. -/
theorem State.readyUnit_waits (s : State) (u : Unit_) :
    (s.readyUnit u).tri.unit_ = u ∨ u ∈ (s.readyUnit u).tri.preempted := by
  unfold State.readyUnit
  split
  · exact .inl rfl
  · exact .inr (by simp)

theorem State.leg_readyUnit (s : State) (u : Unit_) : (s.readyUnit u).leg = s.leg := (s.readyUnit_only u).2 .leg (by decide)

theorem State.serviceBusy_iff (s : State) (v : Nat) :
    s.serviceBusy v = true ↔ s.tri.unit_ = .service v ∨ .service v ∈ s.tri.preempted := by simp [State.serviceBusy]

/-- An exception stops the service and calls for rung 2 with event 0xE001; no other service is concerned (R263). -/
theorem State.serviceFails_effect (s : State) (v : Nat) :
    (Table.get (s.serviceFails v).leg.services {} v).state = 2 ∧ Records s (s.serviceFails v) 0xE001 [v] ∧
      OnlyIn [.mode, .evr, .tri, .leg] s (s.serviceFails v) := by
  have hstop : OnlyIn [.tri, .leg] s ((s.updService v (fun x => { x with state := 2 })).endUnit (.service v)) :=
    ((State.updService_only ..).mono (by decide)).step (State.endUnit_only ..) (by decide)
  have hleg : (s.serviceFails v).leg = (s.updService v (fun x => { x with state := 2 })).leg :=
    .trans ((State.fault_only ..).2 .leg (by decide)) ((State.endUnit_only ..).2 .leg (by decide))
  refine ⟨by rw [hleg, State.service_updService_same], Records.fault (hstop.2 .evr (by decide)) _ _ _ _ _, ?_⟩
  exact (hstop.mono (by decide)).step (State.fault_only ..) (by decide)

/-- A service that is on, enabled and not stopped by an exception, on a triad that runs (R263). -/
structure ServiceOn (s : State) (v : Nat) : Prop where
  up : s.up = true
  alive : s.tri.dead = false
  declared : s.el (0xE0000 + 0x100 * v) 0 0 ≠ 0
  enabled : s.elB (0xE0000 + 0x100 * v) 1 false = true
  healthy : (Table.get s.leg.services {} v).state < 2

/-- A service that is due waits for the triad; one that still waits or runs is skipped. -/
theorem execServiceActivation_due {v : Fin 256} (h : ServiceOn s v)
    (hd : (Table.get s.leg.services {} v.val).lastAt + s.el (0xE0000 + 0x100 * v) 2 1000 * 400 ≤ s.mer.raw) :
    execServiceActivation v false s = .next
      (if s.serviceBusy v then s.updService v (fun x => { x with skipped := satInc 32 x.skipped })
       else (s.updService v (fun x => { x with state := 1, lastAt := s.mer.raw })).readyUnit (.service v)) := by
  obtain ⟨hup, halive, hdecl, hen, hok⟩ := h
  have hlate : s.elapsed (Table.get s.leg.services {} v.val).lastAt (ticksUs (s.el (0xE0000 + 0x100 * v) 2 1000)) = true := State.elapsed_iff.2 hd
  simp [execServiceActivation, whenUp, hup, halive, hdecl, hen, hlate, Nat.not_le.2 hok]

theorem execServiceActivation_exception {v : Fin 256} (h : ServiceOn s v) (hb : s.serviceBusy v = true) :
    execServiceActivation v true s = .next (s.serviceFails v) := by
  obtain ⟨hup, halive, hdecl, hen, hok⟩ := h
  simp [execServiceActivation, whenUp, hup, halive, hdecl, hen, hb, Nat.not_le.2 hok]

end Commands

/-- Settles O39: each clause is the command's equation above, with what an answer, an event or a kept record leaves unchanged. -/
theorem theCascadeReachesOtherModules : Obligations.TheCascadeReachesOtherModules := by
  refine ⟨?_, ?_, ?_, ?_, ?_, ?_, ?_, ?_, ?_, ?_, ?_, ?_, ?_, ?_⟩
  · rintro s idx m dec ⟨hup, hr, hudp, hm, ht, hidx⟩
    refine ⟨_, execForwardedRequestReceived_eq hup hidx dec, ?_⟩
    rw [State.forwardedMessage_badTag hr hudp hm ht, ← hidx]
    obtain ⟨r, hleg⟩ := State.noteViolation_leg { s with leg := { s.leg with viol := satInc 32 s.leg.viol } }
      (peerOf (byteAt m 17)) 0xA812 (byteAt m 17)
    refine ⟨by rw [hleg], by rw [hleg], State.noteViolation_records rfl _ _ _, ?_⟩
    exact ((OnlyIn.refl [.leg, .evr] s).setLeg (by decide) _).step (State.noteViolation_only ..) (by decide)
  · rintro s idx m dec l ⟨hup, hr, hudp, hm, ht, hidx, hf, hop, htarget⟩ hadm ⟨hl, hfit⟩
    refine ⟨_, execForwardedRequestReceived_eq hup hidx dec, ?_⟩
    rw [State.forwardedMessage_read hr hudp hm ht hf hop htarget hadm dec hl hfit]
    obtain ⟨hreplied, hcount, honly⟩ := State.part_answered hadm (answerCode m (headStatus (l.map (fun it => byteAt it 0))) 0 l.length l.flatten)
    exact ⟨hreplied, hcount, honly.2 .elems (by decide), honly.mono (by decide)⟩
  · rintro s idx m f ⟨hup, hr, hm, hresp⟩ ⟨hf, hw, hp, hop⟩
    refine ⟨_, execForwardedAnswerReceived_whole hup hr hm hresp hf hw hp hop, ?_⟩
    rw [← State.forward?_id hf]
    exact s.forward_answered f ..
  · rintro s id f ⟨hup, hf, hw, hq, hd⟩
    refine ⟨_, execForwardTimeout_whole hup hf hw hq hd, ?_⟩
    rw [← State.forward?_id hf]
    exact s.forward_answered f ..
  · rintro s src m i x ⟨h, hd, hn, h0, hx⟩
    refine ⟨_, legendOp_message h.1 {}, ?_⟩
    rw [State.legendMessage_find h hd hn h0 hx]
    exact State.answered_keeps (State.afterAdmission_keeps h).1 (State.afterAdmission_keeps h).2 ..
  · rintro s src m i ⟨h, hd, hn⟩
    refine ⟨_, legendOp_message h.1 {}, ?_⟩
    rw [State.legendMessage_find_noDatum h hd hn]
    obtain ⟨honly, -⟩ := State.refreshed_keeps h
    exact ⟨Replied.of_only (honly.mono (by decide)) .., (honly.mono (by decide)).step (State.keepAndSend_only ..) (by decide)⟩
  · rintro s src m i ⟨h, hd, hi⟩
    refine ⟨_, legendOp_message h.1 {}, ?_⟩
    rw [State.legendMessage_directory h hd hi]
    exact State.answered_keeps (State.afterAdmission_keeps h).1 (State.afterAdmission_keeps h).2 ..
  · rintro s ⟨hup, hr, hd, hn, hb⟩
    exact ⟨_, execDirectoryHeartbeatSend_due hup hr hd hn hb, rfl, rfl,
      ((OnlyIn.refl [.leg, .net, .sent] s).setLeg (by decide) _).step (State.send_only ..) (by decide)⟩
  · rintro s idx b ⟨hup, hr, hd⟩
    refine ⟨_, execDirectoryHeartbeatReceived_datum hup hr hd idx b, ?_, rfl, fun k hk => ?_,
      ((OnlyIn.refl [.leg, .net, .sent] s).setLeg (by decide) _).step (State.send_only ..) (by decide)⟩
    · simp [State.send, Table.get, Table.find_put]
    · simp [State.send, Table.get, Table.find_put, hk]
  · rintro s idx ⟨hup, hd, hi⟩ ⟨h1, ha⟩
    refine ⟨_, execDirectoryModuleAbsent_due hup hd hi h1 ha, ?_, Records.evS rfl _ _ _,
      ((OnlyIn.refl [.leg, .evr] s).setLeg (by decide) _).step (State.evS_only ..) (by decide)⟩
    rw [State.leg_evS]
    simp [Table.get, Table.find_put]
  · rintro s idx ⟨hup, hr⟩
    refine ⟨_, execHeartbeatAckReceived_eq hup hr idx, ?_⟩
    have honly := (OnlyIn.refl [.leg, .evr] s).setLeg (by decide) { s.leg with datum := idx.val, datumAck := s.mer.raw, datumLost := false }
    cases hl : s.leg.datumLost with
    | true => exact ⟨⟨State.leg_evS .., fun _ => Records.evS rfl _ _ _⟩, honly.step (State.evS_only ..) (by decide)⟩
    | false => exact ⟨⟨rfl, nofun⟩, honly⟩
  · rintro s ⟨hup, hd, hn, hl, ha⟩
    exact ⟨_, execDatumLost_due hup hd hn hl ha, State.leg_evS .., Records.evS rfl _ _ _,
      ((OnlyIn.refl [.leg, .evr] s).setLeg (by decide) _).step (State.evS_only ..) (by decide)⟩
  · rintro s v x ⟨hup, halive, hdecl, hen⟩ ⟨rfl, hok, hd⟩
    refine ⟨_, execServiceActivation_due ⟨hup, halive, hdecl, hen, hok⟩ hd, ?_⟩
    by_cases hb : s.serviceBusy v = true
    · simp only [if_pos hb]
      exact ⟨State.service_updService_same .., fun k hk => State.service_updService_other _ _ hk, (State.updService_only ..).mono (by decide)⟩
    · simp only [if_neg hb, State.leg_readyUnit]
      refine ⟨⟨State.service_updService_same .., (State.serviceBusy_iff ..).2 (State.readyUnit_waits ..)⟩,
        fun k hk => State.service_updService_other _ _ hk, ?_⟩
      exact ((State.updService_only ..).mono (by decide)).step (State.readyUnit_only ..) (by decide)
  · rintro s v ⟨hup, halive, hdecl, hen⟩ ⟨hok, hb⟩
    exact ⟨_, execServiceActivation_exception ⟨hup, halive, hdecl, hen, hok⟩ hb, s.serviceFails_effect v⟩

end Sys2Proof.Machine
end

section
/-!
PROOFS. Requests of a running module: single values, constants batches and program containers (O24).
-/
namespace Sys2Proof.Machine

/-! ## Shared steps of a request -/

theorem Table.get_put_same {α : Type} (t : Table α) (d x : α) (k : Nat) : Table.get (Table.put t k x) d k = x := by
  simp [Table.get, Table.find_put]

/-- A record offered before changes that leave the recorder alone is offered all the same. -/
theorem Records.of_evr {s u t : State} {code : Nat} {args : List Nat} (h : Records s u code args) (ht : t.evr = u.evr) :
    Records s t code args := by
  unfold Records
  rw [ht]
  exact h

theorem Records.ev {s u : State} (h : u.evr = s.evr) (code : Nat) (args : List Nat) : Records s (u.ev code args) code args :=
  Records.evS h code 0 args

/-- A change of the task part. -/
theorem OnlyIn.setTsk (s : State) (x : TaskPart) : OnlyIn [.tsk] s { s with tsk := x } :=
  ⟨rfl, fun p hp => by cases p with | tsk => exact absurd (by decide) hp | _ => rfl⟩

/-- An Engineer's request is performed where the life cycle admits requests (R47, R236). -/
theorem State.engineerAct_asked {s : State} {who : Who} (h : Asked s who 2) (f : State → Act) : s.engineerAct who f = f s := by
  obtain ⟨-, hlife, hlevel⟩ := h
  simp [State.engineerAct, engineer, hlife, Nat.not_lt.2 hlevel]

/-- With no token called for, or one granted to the request already, the effect is done and nothing is recorded (R46, R240). -/
theorem State.withToken_authorised {s : State} (h : Authorised s) (who : Who) (elem : Nat) (f : State → Act) :
    s.withToken who s.sealed_ elem f = f s := by
  obtain hopen | hgrant := h
  · simp [State.withToken, hopen]
  · obtain ⟨k, hk⟩ := Option.isSome_iff_exists.1 hgrant
    simp [State.withToken, State.takeToken, hk]

/-- Entry and element of a key (R9). -/
theorem ea_entry {e n : Nat} (h : n < 256) : ea e n / 256 = e := by unfold ea; omega
theorem ea_elem {e n : Nat} (h : n < 256) : ea e n % 256 = n := by unfold ea; omega

/-! ## Single values (R147) -/

/-- The state in which a single value stands. -/
def State.withValue (s : State) (key v : Nat) : State := { s with tsk := { s.tsk with values := Table.put s.tsk.values key v } }

section SingleValue
variable {s : State} {who : Who} {e n value : Nat} {d : SingleDecl} {x : Desc}

/-- A value in range, from a client of its declared privilege, is accepted. -/
theorem execSingleValueWrite_accepted (hup : s.up = true) (hlife : s.mode.lifeCycle ≠ .retired) (hn : n < 256)
    (hd : s.single? e n = some d) (hx : s.desc e n = some x) (hp : d.priv ≤ who.level.val) (hfits : x.fits value = true) :
    execSingleValueWrite who (ea e n) value s = .next (s.writeSingle d value).okAns := by
  simp [execSingleValueWrite, whenUp, hup, hlife, ea_entry hn, ea_elem hn, hd, hx, Nat.not_lt.2 hp, hfits]

/-- A client below the declared privilege is refused with it. -/
theorem execSingleValueWrite_unprivileged (hup : s.up = true) (hlife : s.mode.lifeCycle ≠ .retired) (hn : n < 256)
    (hd : s.single? e n = some d) (hx : s.desc e n = some x) (hp : who.level.val < d.priv) :
    execSingleValueWrite who (ea e n) value s = .next (s.give { status := .privilege, detail := d.priv }) := by
  simp [execSingleValueWrite, whenUp, hup, hlife, ea_entry hn, ea_elem hn, hd, hx, hp]

/-- Where no task runs the value stands at once, and the change is recorded. -/
theorem State.writeSingle_idle (h : s.tasksLive = false) (d : SingleDecl) (v : Nat) :
    s.writeSingle d v = ((s.withValue d.ea v).ev 0x2107 [d.ea / 256]).sendChange (d.ea / 256) (d.ea % 256) v s.now := by
  simp only [State.writeSingle, h, Bool.false_and, Bool.false_eq_true, if_false]
  rfl

/-- Where its task runs the value waits for the cycle start. -/
theorem State.writeSingle_live {d : SingleDecl} (h : s.tasksLive = true) (ht : s.taskOn d.task = true) (v : Nat) :
    ∃ at_, s.writeSingle d v = ({ s with tsk := { s.tsk with singles := s.tsk.singles ++ [(d.ea, v)] } } : State).sendChange
      (d.ea / 256) (d.ea % 256) v at_ := by
  simp only [State.writeSingle, h, ht, Bool.and_true, if_true]
  exact ⟨_, rfl⟩

end SingleValue

/-- An accepted change is sent to the partner and answered, and nothing else comes of it. -/
theorem State.sendChange_okAns_only (s : State) (e n v : Nat) (i : MTime) : OnlyIn [.net, .sent] s (s.sendChange e n v i).okAns :=
  (State.sendChange_only ..).step (State.okAns_only ..) (by decide)

/-! ## The constants batch (R147) -/

/-- The state in which the staging entry is empty and one task reads a constant. -/
def State.withConstant (s : State) (k i v : Nat) : State :=
  { s with elems := s.elems.filter (fun x => x.1 / 256 != 0x22011),
           tsk := { s.tsk with consts := Table.put s.tsk.consts (64 * k + i) v } }

/-- Where no task runs, the commit of one constant that one task reads gives it to the task, and the change is recorded. -/
theorem State.commitBatch_idle_one {s : State} {i v k : Nat} {d : ConstDecl} (h : s.tasksLive = false)
    (hl : s.stagedConsts = [(i, v)]) (hd : s.const? i = some d) (hk : d.tasks = [k]) :
    s.commitBatch = ((s.withConstant k i v).sendChange 0x22011 i v (s.withConstant k i v).now).ev 0x2107 [0x22010] := by
  have hlive : ({ s with elems := s.elems.filter (fun x => x.1 / 256 != 0x22011) } : State).tasksLive = false := h
  simp only [State.commitBatch, hl, hlive, hd, hk, List.isEmpty_cons, Bool.false_eq_true, if_false, List.foldl_cons, List.foldl_nil,
    State.each]
  rfl

theorem State.withConstant_only (s : State) (k i v : Nat) : OnlyIn [.tsk, .elems] s (s.withConstant k i v) :=
  ⟨rfl, fun p hp => by cases p with | tsk => exact absurd (by decide) hp | elems => exact absurd (by decide) hp | _ => rfl⟩

theorem State.stagedConsts_congr {s t : State} (h : t.elems = s.elems) : t.stagedConsts = s.stagedConsts := by
  unfold State.stagedConsts; rw [h]

theorem State.stagedConsts_withConstant (s : State) (k i v : Nat) : (s.withConstant k i v).stagedConsts = [] := by
  simp [State.stagedConsts, State.withConstant, List.filter_filter]

theorem execConstantsBatchCommit_asked {s : State} {who : Who} (h : Asked s who 2) :
    execConstantsBatchCommit who s = .next (s.commitBatch.give ansOk) := by
  simp only [execConstantsBatchCommit, whenUp, h.1, if_true, State.reqBatch, State.engineerAct_asked h, giveBoth]

/-! ## Program containers (R148 to R150) -/

section Container
variable {s : State} {who : Who} {prog : Program}

/-- A container that passes its checks in STOP is staged (R150). -/
theorem execContainerLoad_staged (h : Asked s who 2) (hstop : s.mode.mode = .stop) (hauth : Authorised s)
    (hok : s.loadFault prog = none) :
    execContainerLoad who prog s = .next (({ s with tsk := { s.tsk with staged := some prog } } : State).give ansOk) := by
  simp [execContainerLoad, whenUp, h.1, State.reqLoad, State.engineerAct_asked h, hstop, State.withToken_authorised hauth, hok, giveBoth]

/-- In another mode the load is refused (R148). -/
theorem execContainerLoad_refused (h : Asked s who 2) (hmode : s.mode.mode ≠ .stop) :
    execContainerLoad who prog s = .next (s.give s.ansState) := by
  simp [execContainerLoad, whenUp, h.1, State.reqLoad, State.engineerAct_asked h, hmode, giveBoth]

end Container

/-- Settles O24: each clause is the command's equation above, with the parts that the change sent to the partner, the event and
the answer leave alone. -/
theorem onlineValuesAndContainersAreAccepted : Obligations.OnlineValuesAndContainersAreAccepted := by
  refine ⟨?_, ?_, ?_, ?_, ?_, ?_⟩
  · rintro s who e n value d x ⟨hup, hlife, hn⟩ ⟨hd, hx, hea⟩ ⟨hp, hfits⟩ hidle
    refine ⟨_, execSingleValueWrite_accepted hup hlife hn hd hx hp hfits, ?_⟩
    rw [State.writeSingle_idle hidle, hea, ea_entry hn]
    have hset : OnlyIn [.tsk] s (s.withValue (ea e n) value) := OnlyIn.setTsk ..
    have hsend := ((s.withValue (ea e n) value).ev 0x2107 [e]).sendChange_okAns_only e (ea e n % 256) value s.now
    have hrest : OnlyIn [.evr, .net, .sent] (s.withValue (ea e n) value) _ :=
      ((State.ev_only ..).mono (by decide)).step hsend (by decide)
    have htsk := hrest.2 .tsk (by decide)
    refine ⟨?_, (congrArg TaskPart.singles htsk :), rfl, (Records.ev (hset.2 .evr (by decide)) _ _).of_evr (hsend.2 .evr (by decide)),
      (hset.mono (by decide)).step hrest (by decide)⟩
    exact .trans (congrArg (fun y : TaskPart => Table.get y.values 0 (ea e n)) htsk) (Table.get_put_same ..)
  · rintro s who e n value d x ⟨hup, hlife, hn⟩ ⟨hd, hx, hea⟩ ⟨hp, hfits⟩ ⟨hlive, hon⟩
    refine ⟨_, execSingleValueWrite_accepted hup hlife hn hd hx hp hfits, ?_⟩
    obtain ⟨i, hi⟩ := State.writeSingle_live hlive hon value
    rw [hi, hea]
    have hsend := ({ s with tsk := { s.tsk with singles := s.tsk.singles ++ [(ea e n, value)] } } : State).sendChange_okAns_only
      (ea e n / 256) (ea e n % 256) value i
    exact ⟨hsend.2 .tsk (by decide), rfl, ((OnlyIn.setTsk ..).mono (by decide)).step hsend (by decide)⟩
  · rintro s who e n value d x ⟨hup, hlife, hn⟩ ⟨hd, hx⟩ hp
    exact ⟨_, execSingleValueWrite_unprivileged hup hlife hn hd hx hp, rfl, State.give_only ..⟩
  · rintro s who i v d k ⟨hasked, hidle⟩ ⟨hl, hd, hk⟩
    refine ⟨_, execConstantsBatchCommit_asked hasked, ?_⟩
    rw [State.commitBatch_idle_one hidle hl hd hk]
    have hset := s.withConstant_only k i v
    have hsend := (s.withConstant k i v).sendChange_only 0x22011 i v (s.withConstant k i v).now
    generalize (s.withConstant k i v).sendChange 0x22011 i v (s.withConstant k i v).now = u at hsend ⊢
    have hrest : OnlyIn [.evr, .net, .sent] (s.withConstant k i v) ((u.ev 0x2107 [0x22010]).give ansOk) :=
      ((hsend.mono (by decide)).step (State.ev_only ..) (by decide)).step (State.give_only ..) (by decide)
    refine ⟨?_, ?_, rfl, ?_, (hset.mono (by decide)).step hrest (by decide)⟩
    · exact .trans (congrArg (fun y : TaskPart => Table.get y.consts 0 (64 * k + i)) (hrest.2 .tsk (by decide)))
        (Table.get_put_same ..)
    · exact (State.stagedConsts_congr (hrest.2 .elems (by decide))).trans (s.stagedConsts_withConstant k i v)
    · have hevr : u.evr = s.evr := .trans (hsend.2 .evr (by decide)) (hset.2 .evr (by decide))
      exact (Records.ev hevr _ _).of_evr ((State.give_only ..).2 .evr (by decide))
  · rintro s who prog ⟨hasked, hstop, hauth⟩ hok
    exact ⟨_, execContainerLoad_staged hasked hstop hauth hok, rfl, rfl,
      ((OnlyIn.setTsk ..).mono (by decide)).step (State.give_only ..) (by decide)⟩
  · rintro s who prog ⟨hasked, hmode⟩
    exact ⟨_, execContainerLoad_refused hasked hmode, rfl, State.give_only ..⟩

end Sys2Proof.Machine
end

section
/-!
PROOFS. The deadlines of a ring exchange: the collection deadline and the acknowledgement check (O25).
-/
namespace Sys2Proof.Machine

/-! ## Shared steps: lists, memory, recorded faults -/

/-- A change made for one thing alone. -/
theorem State.each_one {α : Type} (s : State) (x : α) (f : State → α → State) : s.each [x] f = f s x := rfl

theorem SameMemory.refl (s : State) : SameMemory s s := fun _ => rfl

theorem SameMemory.trans {s u t : State} (h : SameMemory s u) (k : SameMemory u t) : SameMemory s t := fun a => (k a).trans (h a)

theorem SameMemory.each {α : Type} {f : State → α → State} (h : ∀ s x, SameMemory s (f s x)) (s : State) (xs : List α) :
    SameMemory s (s.each xs f) := by
  induction xs generalizing s with
  | nil => exact SameMemory.refl s
  | cons x xs ih => exact (h s x).trans (ih (f s x))

/-- A Survey write restores words, and changes no byte (R423). -/
theorem State.surveyWrite_sameMemory (s : State) (p value quality flags : Nat) (i : MTime) :
    SameMemory s (s.surveyWrite p value quality flags i) := by
  obtain h | ⟨img, h⟩ := s.surveyWrite_cases p value quality flags i <;> rw [h]
  · exact SameMemory.refl s
  · exact fun a => congrArg (fun m => Memory.read m a) (State.restoreWords_data ..)

/-- A head's status point follows its state (R152). -/
theorem State.writeHeadStatus_only (s : State) (h : Nat) : OnlyIn [.mode, .tsk, .sur, .mem] s (s.writeHeadStatus h) :=
  OnlyIn.each (fun _ _ => State.surveyWrite_only ..) _ _

theorem State.writeHeadStatus_sameMemory (s : State) (h : Nat) : SameMemory s (s.writeHeadStatus h) :=
  SameMemory.each (fun u _ => u.surveyWrite_sameMemory _ _ _ _ _) _ _

theorem State.requalify_only (s : State) (h q : Nat) : OnlyIn [.mode, .tsk, .sur, .mem] s (s.requalify h q) :=
  OnlyIn.each (fun _ _ => State.surveyWrite_only ..) _ _

theorem State.requalify_sameMemory (s : State) (h q : Nat) : SameMemory s (s.requalify h q) :=
  SameMemory.each (fun u _ => u.surveyWrite_sameMemory _ _ _ _ _) _ _

/-- A fault offered as REPEAT is recorded. -/
theorem Records.faultRep {s u : State} (h : u.evr = s.evr) (fn code obj rung : Nat) (args : List Nat) :
    Records s (u.faultRep fn code obj rung args) code args := by
  unfold State.faultRep
  dsimp only
  split
  · exact Records.offered (by exact h) rfl rfl
  · exact Records.offered h rfl rfl

/-! ## Heads and exchanges (R151, R152) -/

@[simp] theorem State.head_updHead_same (s : State) (h : Nat) (f : Head → Head) : (s.updHead h f).head h = f (s.head h) :=
  Table.get_set_same ..

@[simp] theorem State.head_updHead_other (s : State) {h k : Nat} (f : Head → Head) (hk : k ≠ h) : (s.updHead h f).head k = s.head k :=
  Table.get_set_other _ _ _ hk

theorem State.head_congr {s t : State} (hr : t.ring = s.ring) (h : Nat) : t.head h = s.head h := by unfold State.head; rw [hr]

theorem State.exchange?_congr {s t : State} (hr : t.ring = s.ring) (owner : Nat) : t.exchange? owner = s.exchange? owner := by
  unfold State.exchange?; rw [hr]

@[simp] theorem State.exchange?_updHead (s : State) (h owner : Nat) (f : Head → Head) :
    (s.updHead h f).exchange? owner = s.exchange? owner := rfl

theorem State.exchange?_owner {s : State} {owner : Nat} {x : Exchange} (h : s.exchange? owner = some x) : x.owner = owner := by
  simpa using List.find?_some h

/-- A change of an exchange that leaves its owner is found under the owner. -/
theorem State.exchange?_updExch_same {s : State} {owner : Nat} {x : Exchange} (h : s.exchange? owner = some x)
    {f : Exchange → Exchange} (hf : ∀ e, (f e).owner = e.owner) : (s.updExch owner f).exchange? owner = some (f x) := by
  have howner : ∀ e : Exchange, (if e.owner = owner then f e else e).owner = e.owner := fun e => by
    split
    · exact hf e
    · rfl
  have hsame : (fun e : Exchange => e.owner == owner) ∘ (fun e => if e.owner = owner then f e else e) = fun e => e.owner == owner :=
    funext fun e => congrArg (· == owner) (howner e)
  have hfind : s.ring.exchanges.find? (fun e => e.owner == owner) = some x := h
  simp only [State.exchange?, State.updExch, List.find?_map, hsame, hfind, Option.map_some, State.exchange?_owner h, if_true]

/-- The state in which an owner's exchange has ended. -/
def State.endExchange (s : State) (owner : Nat) : State :=
  { s with ring := { s.ring with exchanges := s.ring.exchanges.filter (fun x => x.owner != owner) } }

@[simp] theorem State.exchange?_endExchange (s : State) (owner : Nat) : (s.endExchange owner).exchange? owner = none := by
  simp [State.exchange?, State.endExchange]

@[simp] theorem State.head_endExchange (s : State) (owner h : Nat) : (s.endExchange owner).head h = s.head h := rfl

theorem State.endExchange_only (s : State) (owner : Nat) : OnlyIn [.ring] s (s.endExchange owner) :=
  ⟨rfl, fun p hp => by cases p with | ring => exact absurd (by decide) hp | _ => rfl⟩

/-! ## The collection deadline (R152) -/

/-- The state in which an owner's exchange is marked as collected. -/
def State.markCollected (s : State) (owner : Nat) : State := s.updExch owner (fun e => { e with collected := true })

theorem State.exchange?_markCollected {s : State} {owner : Nat} {x : Exchange} (h : s.exchange? owner = some x) :
    (s.markCollected owner).exchange? owner = some { x with collected := true } :=
  State.exchange?_updExch_same h (fun _ => rfl)

/-- At the deadline the exchange is marked, and each head without an answer is judged. -/
theorem execRingCollectDeadline_due {s : State} {owner : Fin 272} {x : Exchange} (hup : s.up = true)
    (hx : s.exchange? owner = some x) (hdue : s.collectDue x = true) :
    execRingCollectDeadline owner s = .next ((s.markCollected owner).each
      ((s.exchHeads owner).filter (fun h => !(s.head h).answered)) State.headSilent) := by
  simp only [execRingCollectDeadline, whenUp, hup, hx, hdue, if_true]
  rfl

/-- A silent head that has used up its missed-cycle count goes to fail-safe, and only its state changes of the ring. -/
theorem State.headSilent_failSafe {s : State} {h : Nat} (hm : (s.head h).state = .missing) (hn : s.headMiss h ≤ (s.head h).missed) :
    (s.headSilent h).ring = (s.updHead h (fun x => { x with state := .failSafe })).ring ∧ SameMemory s (s.headSilent h) ∧
      OnlyIn [.mode, .evr, .tsk, .ring, .sur, .mem] s (s.headSilent h) := by
  have heq : s.headSilent h = ((((s.updHead h (fun x => { x with state := .failSafe })).writeHeadStatus h).requalify h qBad).closeFault
      (headFn h) 0x2104 h).faultRep (headFn h) 0x2105 h 2 [h] := by
    simp [State.headSilent, hm, hn]
  rw [heq]
  have hupd := s.updHead_only h (fun x => { x with state := .failSafe })
  generalize s.updHead h (fun x => { x with state := .failSafe }) = u at hupd ⊢
  have hpoints : OnlyIn [.mode, .tsk, .sur, .mem] u ((u.writeHeadStatus h).requalify h qBad) :=
    (u.writeHeadStatus_only h).step (State.requalify_only ..) (by decide)
  have hfault : OnlyIn [.mode, .evr] ((u.writeHeadStatus h).requalify h qBad)
      ((((u.writeHeadStatus h).requalify h qBad).closeFault (headFn h) 0x2104 h).faultRep (headFn h) 0x2105 h 2 [h]) :=
    ((State.closeFault_only ..).mono (by decide)).step (State.faultRep_only ..) (by decide)
  refine ⟨.trans (hfault.2 .ring (by decide)) (hpoints.2 .ring (by decide)), ?_,
    ((hupd.mono (by decide)).step hpoints (by decide)).step hfault (by decide)⟩
  exact (hupd.memory (by decide)).trans (((u.writeHeadStatus_sameMemory h).trans (State.requalify_sameMemory _ h qBad)).trans
    (hfault.memory (by decide)))

/-! ## The acknowledgement check (R373, R375) -/

/-- At the check of an exchange whose output went out its heads are judged, and it ends. -/
theorem execRingAckCheck_due {s : State} {owner : Fin 272} {x : Exchange} (hup : s.up = true) (hx : s.exchange? owner = some x)
    (hsent : x.sentOut = true) (hdue : x.checkAt ≤ s.now) :
    execRingAckCheck owner s =
      .next ((s.each (s.exchHeads owner) (fun s h => s.checkAck h (decide (owner.val < 16)))).endExchange owner) := by
  simp only [execRingAckCheck, whenUp, hup, hx, hsent, hdue, if_true, decide_true, Bool.true_or, Bool.true_and]
  rfl

/-- A present head that acknowledged has no missed cycle. -/
theorem State.checkAck_acked {s : State} {h : Nat} (ha : (s.head h).acked = true) (hp : (s.head h).state = .present) (task : Bool) :
    s.checkAck h task = s.updHead h (fun x => { x with missed := 0 }) := by
  simp [State.checkAck, ha, hp]

/-- A present head that becomes missing is reported, and only its state changes of the ring. -/
theorem State.headMissing_present {s : State} {h : Nat} (hp : (s.head h).state = .present) :
    (s.headMissing h).ring = (s.updHead h (fun x => { x with state := .missing })).ring ∧ Records s (s.headMissing h) 0x2104 [h] ∧
      SameMemory s (s.headMissing h) ∧ OnlyIn [.mode, .evr, .tsk, .ring, .sur, .mem] s (s.headMissing h) := by
  have heq : s.headMissing h =
      ((s.updHead h (fun x => { x with state := .missing })).writeHeadStatus h).faultRep (headFn h) 0x2104 h 1 [h] := by
    simp [State.headMissing, hp]
  rw [heq]
  have hupd := s.updHead_only h (fun x => { x with state := .missing })
  generalize s.updHead h (fun x => { x with state := .missing }) = u at hupd ⊢
  have hstatus := u.writeHeadStatus_only h
  have hfault := (u.writeHeadStatus h).faultRep_only (headFn h) 0x2104 h 1 [h]
  have hevr : (u.writeHeadStatus h).evr = s.evr := .trans (hstatus.2 .evr (by decide)) (hupd.2 .evr (by decide))
  refine ⟨.trans (hfault.2 .ring (by decide)) (hstatus.2 .ring (by decide)), Records.faultRep hevr _ _ _ _ _, ?_,
    ((hupd.mono (by decide)).step hstatus (by decide)).step hfault (by decide)⟩
  exact (hupd.memory (by decide)).trans ((u.writeHeadStatus_sameMemory h).trans (hfault.memory (by decide)))

/-- A present head that did not acknowledge is missing, and in a task's exchange its missed cycle counts (R375). -/
theorem State.checkAck_silent {s : State} {h : Nat} (ha : (s.head h).acked = false) (hp : (s.head h).state = .present) :
    (s.checkAck h true).head h = { s.head h with state := .missing, missed := min 255 ((s.head h).missed + 1) } ∧
      Records s (s.checkAck h true) 0x2104 [h] ∧ SameMemory s (s.checkAck h true) ∧
      OnlyIn [.mode, .evr, .tsk, .ring, .sur, .mem] s (s.checkAck h true) := by
  have heq : s.checkAck h true = (s.updHead h (fun x => { x with missed := min 255 (x.missed + 1) })).headMissing h := by
    simp [State.checkAck, ha]
  have hcount := s.updHead_only h (fun x => { x with missed := min 255 (x.missed + 1) })
  obtain ⟨hring, hrec, hmem, honly⟩ := State.headMissing_present
    (s := s.updHead h (fun x => { x with missed := min 255 (x.missed + 1) })) (h := h) (by simpa using hp)
  rw [heq]
  refine ⟨?_, hrec, (hcount.memory (by decide)).trans hmem, (hcount.mono (by decide)).step honly (by decide)⟩
  rw [State.head_congr hring, State.head_updHead_same, State.head_updHead_same]

/-- Settles O25: each clause has one head to judge or none, and the head's own lemma above says what comes of it. -/
theorem ringDeadlinesJudgeTheHeads : Obligations.RingDeadlinesJudgeTheHeads := by
  refine ⟨?_, ?_, ?_, ?_⟩
  · rintro s owner x ⟨hup, hx, hdue⟩ hall
    refine ⟨_, execRingCollectDeadline_due hup hx hdue, ?_⟩
    have hnone : (s.exchHeads owner).filter (fun h => !(s.head h).answered) = [] := by simpa using hall
    rw [hnone]
    exact ⟨congrArg (Option.map (·.collected)) (State.exchange?_markCollected hx), rfl, State.updExch_only ..⟩
  · rintro s owner x h ⟨hup, hx, hdue⟩ hone ⟨hmissing, hmiss⟩
    refine ⟨_, execRingCollectDeadline_due hup hx hdue, ?_⟩
    rw [hone, State.each_one]
    have hmark : OnlyIn [.ring] s (s.markCollected owner) := State.updExch_only ..
    obtain ⟨hring, hmem, honly⟩ := State.headSilent_failSafe (s := s.markCollected owner) hmissing hmiss
    refine ⟨?_, ?_, ?_, fun k hk => ?_, (hmark.memory (by decide)).trans hmem, (hmark.mono (by decide)).step honly (by decide)⟩
    · rw [State.head_congr hring, State.head_updHead_same]
    · rw [State.head_congr hring, State.head_updHead_same]; rfl
    · rw [State.exchange?_congr hring, State.exchange?_updHead, State.exchange?_markCollected hx]; rfl
    · rw [State.head_congr hring, State.head_updHead_other _ _ hk]; rfl
  · rintro s owner x h ⟨hup, hx, hsent, hdue⟩ ⟨hone, hacked, hpresent⟩
    refine ⟨_, execRingAckCheck_due hup hx hsent hdue, ?_⟩
    rw [hone, State.each_one, State.checkAck_acked hacked hpresent]
    refine ⟨?_, State.exchange?_endExchange .., (State.updHead_only ..).step (State.endExchange_only ..) (by decide)⟩
    rw [State.head_endExchange, State.head_updHead_same]
  · rintro s owner x h ⟨hup, hx, hsent, hdue⟩ ⟨hone, hacked, hpresent⟩
    refine ⟨_, execRingAckCheck_due (owner := owner.castLE (by decide)) hup hx hsent hdue, ?_⟩
    have htask : decide ((owner.castLE (by decide : 16 ≤ 272)).val < 16) = true := decide_eq_true owner.isLt
    have hheads : s.exchHeads (owner.castLE (by decide : 16 ≤ 272)).val = [h] := hone
    rw [hheads, State.each_one, htask]
    obtain ⟨hhead, hrec, hmem, honly⟩ := State.checkAck_silent hacked hpresent
    have hend := (s.checkAck h true).endExchange_only owner
    refine ⟨by rw [State.head_endExchange, hhead], by rw [State.head_endExchange, hhead], State.exchange?_endExchange ..,
      hrec.of_evr (hend.2 .evr (by decide)), hmem.trans (hend.memory (by decide)), (honly.mono (by decide)).step hend (by decide)⟩

end Sys2Proof.Machine
end

section
/-!
PROOFS. Contour tables: the commit of a staged table, its application at the commit's instant, and the commit that found none (O28).
-/
namespace Sys2Proof.Machine

/-! ## Shared steps -/

/-- A request that reaches a running module at its level is performed (R47, R243). -/
theorem request_asked {s : State} {who : Who} {level : Nat} (h : Asked s who level) (f : State → State) :
    request s who level f = .next (f s) := by
  obtain ⟨hup, hlife, hlevel⟩ := h
  simp [request, whenUp, hup, hlife, Nat.not_lt.2 hlevel]

/-- A change of the control engine's part. -/
theorem OnlyIn.setCen (s : State) (x : EnginePart) : OnlyIn [.cen] s { s with cen := x } :=
  ⟨rfl, fun p hp => by cases p with | cen => exact absurd (by decide) hp | _ => rfl⟩

/-! ## A table in force -/

theorem State.ctable_congr {s t : State} (h : t.cen = s.cen) (k : Nat) : t.ctable k = s.ctable k := by
  unfold State.ctable; rw [h]

/-- A table that comes into force replaces its predecessor, and of the engine nothing else changes (R191). -/
@[simp] theorem State.cen_applyTable (s : State) (k : Nat) (x : CTable) (i : MTime) :
    (s.applyTable k x i).cen = { s.cen with tables := Table.set s.cen.tables {} k x } :=
  (State.ev_only ..).2 .cen (by decide)

@[simp] theorem State.ctable_applyTable_same (s : State) (k : Nat) (x : CTable) (i : MTime) : (s.applyTable k x i).ctable k = x := by
  simp [State.ctable]

@[simp] theorem State.ctable_applyTable_other (s : State) {k j : Nat} (x : CTable) (i : MTime) (h : j ≠ k) :
    (s.applyTable k x i).ctable j = s.ctable j := by
  simp [State.ctable, h]

theorem Records.applyTable {s u : State} (h : u.evr = s.evr) (k : Nat) (x : CTable) (i : MTime) :
    Records s (u.applyTable k x i) 0x3015 [k, i64 i] :=
  Records.ev (by exact h) _ _

/-! ## The commit (R183, R191) -/

theorem execContourTableCommit_asked {s : State} {who : Who} (h : Asked s who 2) (k : Fin 512) :
    execContourTableCommit who k s = .next (giveBoth (s.commitTable k)) :=
  request_asked h _

/-- A staged table that fails a check is refused with the check, the table and the offset, in any mode. -/
theorem execContourTableCommit_faulty {s : State} {who : Who} {k : Fin 512} {o : Nat} (h : Asked s who 2)
    (hfault : s.contourFault k (s.stagedTable k) = some o) :
    execContourTableCommit who k s = .next ((s.ev 0x3011 [k.val, o]).give (ansCheck 9 (k.val * 4096 + o))) := by
  simp [execContourTableCommit_asked h, State.commitTable, hfault, giveBoth]

/-- In STOP a staged table without fault comes into force at once. -/
theorem execContourTableCommit_stop {s : State} {who : Who} {k : Fin 512} (h : Asked s who 2) (hstop : s.mode.mode = .stop)
    (hok : s.contourFault k (s.stagedTable k) = none) :
    execContourTableCommit who k s = .next ((s.applyTable k (s.stagedTable k) s.now).give ansOk) := by
  simp [execContourTableCommit_asked h, State.commitTable, hok, hstop, giveBoth]

/-- Table and offset fit the object bits of a check's detail (Table 09-8). -/
theorem ansCheck_table {k o : Nat} (hk : k < 512) (ho : o < 4096) :
    ansCheck 9 (k * 4096 + o) = { status := .checkFailed, detail := 9 * 2 ^ 28 + k * 4096 + o } := by
  have hfits : (k * 4096 + o) % 2 ^ 28 = k * 4096 + o := Nat.mod_eq_of_lt (by omega)
  rw [ansCheck, hfits, Nat.add_assoc]

/-! ## The end of a waiting commit (R191) -/

/-- The state in which no commit waits. -/
def State.withoutCommits (s : State) : State := { s with cen := { s.cen with commits := [] } }

theorem State.withoutCommits_only (s : State) : OnlyIn [.cen] s s.withoutCommits := OnlyIn.setCen ..

/-- At its instant the only commit, one of this table, is gone and its copy comes into force. -/
theorem execContourTableApply_due {s : State} {k : Fin 512} {x : TableCommit} {i : MTime} (hup : s.up = true)
    (hone : s.cen.commits = [x]) (hk : x.table = k.val) (hat : x.at_ = some i) (hdue : i ≤ s.now) :
    execContourTableApply k s = .next (s.withoutCommits.applyTable k x.copy i) := by
  simp [execContourTableApply, whenUp, State.applyCommits, State.withoutCommits, State.each, hup, hone, hk, hat, hdue]

/-- The only commit, one of this table, has found no instant within 1 s of its acceptance, and is dropped. -/
theorem execContourCommitTimeout_due {s : State} {k : Fin 512} {x : TableCommit} (hup : s.up = true) (hone : s.cen.commits = [x])
    (hk : x.table = k.val) (hat : x.at_ = none) (hlate : x.accepted + 1000000000 ≤ s.now) :
    execContourCommitTimeout k s = .next s.withoutCommits := by
  simp [execContourCommitTimeout, whenUp, State.withoutCommits, hup, hone, hk, hat, hlate]

/-- Settles O28: a commit in STOP and a commit at its instant are both `applyTable`, whose rules stand above; a refused one is an
event and an answer, and a dropped one leaves no commit waiting. -/
theorem contourTablesAreCommittedAndApplied : Obligations.ContourTablesAreCommittedAndApplied := by
  refine ⟨?_, ?_, ?_, ?_⟩
  · rintro s who k ⟨hasked, hstop, hok⟩
    refine ⟨_, execContourTableCommit_stop hasked hstop hok, ?_⟩
    have happly := s.applyTable_only k (s.stagedTable k) s.now
    have hgive := (s.applyTable k (s.stagedTable k) s.now).give_only ansOk
    have hcen := hgive.2 .cen (by decide)
    refine ⟨⟨?_, fun j hj => ?_⟩, ?_, rfl, (Records.applyTable rfl _ _ _).of_evr (hgive.2 .evr (by decide)),
      (happly.mono (by decide)).step hgive (by decide)⟩
    · exact (State.ctable_congr hcen k).trans (State.ctable_applyTable_same ..)
    · exact (State.ctable_congr hcen j).trans (State.ctable_applyTable_other _ _ _ hj)
    · rw [hcen, State.cen_applyTable]
  · rintro s who k o ⟨hasked, hfault, ho⟩
    refine ⟨_, execContourTableCommit_faulty hasked hfault, ?_⟩
    rw [ansCheck_table k.isLt ho]
    have hgive := (s.ev 0x3011 [k.val, o]).give_only { status := .checkFailed, detail := 9 * 2 ^ 28 + k * 4096 + o }
    exact ⟨rfl, (Records.ev rfl _ _).of_evr (hgive.2 .evr (by decide)), ((State.ev_only ..).mono (by decide)).step hgive (by decide)⟩
  · rintro s k x i ⟨hup, hone, hk, hat, hdue⟩
    refine ⟨_, execContourTableApply_due hup hone hk hat hdue, ⟨?_, ?_, fun j hj => ?_⟩, Records.applyTable rfl _ _ _, ?_⟩
    · exact State.ctable_applyTable_same ..
    · exact congrArg EnginePart.commits (State.cen_applyTable ..)
    · exact State.ctable_applyTable_other _ _ _ hj
    · exact (s.withoutCommits_only.mono (by decide)).step (State.applyTable_only ..) (by decide)
  · rintro s k x ⟨hup, hone, hk, hat, hlate⟩
    exact ⟨_, execContourCommitTimeout_due hup hone hk hat hlate, rfl, s.withoutCommits_only⟩

end Sys2Proof.Machine
end
